-- ==== Sys2Proof/Word.lean ====
section
/-! DEFINITION. The plain word and number types of the HS48. -/

namespace Sys2Proof

/-- A byte of a frame on either port; also what the manual numbers 0 to 255 and wraps (tags, generations, labels,
order sequences). -/
abbrev Byte := BitVec 8

/-- A two-byte item of a frame: a power, a field value, a notice detail, the pass number. -/
abbrev Half := BitVec 16

/-- A power in whole 100 W steps (00_scope, "Power"). All split arithmetic is exact on whole steps (R86), so the
number is an integer and narrows only where it is published or carried in a frame. -/
abbrev Power := Int

/-- A slot number of the Allotment Table, 0 to 47 (R1). -/
abbrev SlotNo := Fin 48

/-- A bank number, 0 to 3 (R1). -/
abbrev BankNo := Fin 4

/-- A vector rebuilt place by place from its index and its old value. -/
def vmap {α β : Type} {n : Nat} (f : Fin n → α → β) (v : Vector α n) : Vector β n :=
  Vector.ofFn fun i => f i v[i]

end Sys2Proof
end

