-- ==== Sys2Proof/Syntax.lean ====
section
/-! DEFINITION. The commands of the HS48: one constructor for each row of the table of operations and events
(opcode_table.json). A request's own operands travel in its frame, which waits in the Request FIFO or in the receive
buffer until a command takes it (R25, R148, R163), so the commands that take a request carry none. -/

namespace Sys2Proof

/-- The strap-selected SPI clock mode, 0 or 3 (R160, R161). -/
inductive SpiMode where
  | mode0 | mode3
  deriving DecidableEq, Repr

/-- A frame seen on the CAN bus: identifier, whether the identifier has 29 bits, whether it is a remote frame, and the
data bytes (R146). -/
structure CanFrame where
  ident : Nat
  extended : Bool
  remote : Bool
  data : List Byte
  deriving DecidableEq, Repr

/-- The commands: every row of the table of operations and events. -/
inductive Instr where
  /-- DEVICE_RESET (R22): the raw KEY level and the straps as sampled at the reset. -/
  | deviceReset (rawKey : Bool) (straps : SpiMode)
  /-- CLAIM (R30). -/
  | claim
  /-- AMEND (R33). -/
  | amend
  /-- AMEND_COMMIT (R35). -/
  | amendCommit
  /-- COMMIT (R36). -/
  | commit
  /-- RENEW without value (R57). -/
  | renew
  /-- RENEW_WITH_VALUE (R59). -/
  | renewWithValue
  /-- RELEASE (R43). -/
  | release
  /-- PURGE (R44). -/
  | purge
  /-- QUERY without field id (R19). -/
  | query
  /-- QUERY_FIELD (R20). -/
  | queryField
  /-- LOOKUP (R21). -/
  | lookup
  /-- CONFIG_WRITE (R175). -/
  | configWrite
  /-- CONFIG_READ (R177). -/
  | configRead
  /-- CONFIG_DONE (R176). -/
  | configDone
  /-- START_DRIVE (R131). -/
  | startDrive
  /-- SLEEP (R140). -/
  | sleep
  /-- FORCE_GENSET (R126). -/
  | forceGenset
  /-- CLEAR_LOCKOUT (R127). -/
  | clearLockout
  /-- NOTICE_READ (R168). -/
  | noticeRead
  /-- RESULT_READ (R163). -/
  | resultRead
  /-- ROSTER_READ (R153). -/
  | rosterRead
  /-- LINK_RESET (R171). -/
  | linkReset
  /-- BUS_RESTART (R159). -/
  | busRestart
  /-- MIRROR (R169). -/
  | mirror
  /-- MIRRORED_FRAME (R170). -/
  | mirroredFrame
  /-- LINK_BAD_REQUEST (R163). -/
  | linkBadRequest
  /-- HELLO (R150). -/
  | hello
  /-- ENGINE_REPORT (R109). -/
  | engineReport
  /-- CHIP_SELECT_FALLING (R161). -/
  | chipSelectFalling
  /-- CHIP_SELECT_RISING (R162): the bytes clocked on MOSI while chip select was low; as many were clocked on MISO. -/
  | chipSelectRising (mosi : List Byte)
  /-- FRAME_RECEIVED (R148): a frame on the bus. -/
  | frameReceived (frame : CanFrame)
  /-- TRANSMISSION_START (R154). -/
  | transmissionStart
  /-- FRAME_SENT (R155). -/
  | frameSent
  /-- ARBITRATION_LOST (R155). -/
  | arbitrationLost
  /-- TRANSMIT_ERROR (R155). -/
  | transmitError
  /-- BUS_OFF_REJOIN (R158). -/
  | busOffRejoin
  /-- AWARD_TO_TRANSMIT_QUEUE (R156). -/
  | awardToTransmitQueue
  /-- PEER_LOSS_PURGE_SET (R152) of a node. -/
  | peerLossPurgeSet (node : Nat)
  /-- PARK_ENTRY_PURGE_SET (R135). -/
  | parkEntryPurgeSet
  /-- EDIT_TIMER_EXPIRY (R40) of a bank. -/
  | editTimerExpiry (bank : Nat)
  /-- RENEWAL_EXPIRY (R50) of a slot. -/
  | renewalExpiry (slot : Nat)
  /-- SPLIT_TIMER_EXPIRY (R81). -/
  | splitTimerExpiry
  /-- PASS_COMPLETION (R83). -/
  | passCompletion
  /-- CRANK_TIMER_EXPIRY (R115). -/
  | crankTimerExpiry
  /-- WARM_TIMER_EXPIRY (R117). -/
  | warmTimerExpiry
  /-- COOLDOWN_TIMER_EXPIRY (R121). -/
  | cooldownTimerExpiry
  /-- MIN_ON_TIMER_EXPIRY (R108). -/
  | minOnTimerExpiry
  /-- MIN_OFF_TIMER_EXPIRY (R108). -/
  | minOffTimerExpiry
  /-- ACKNOWLEDGEMENT_TIMER_EXPIRY (R111). -/
  | acknowledgementTimerExpiry
  /-- KEY_LEVEL_CHANGE (R130): the raw level changes to `level`. -/
  | keyLevelChange (level : Bool)
  /-- DEGLITCH_TIMER_EXPIRY (R130). -/
  | deglitchTimerExpiry
  /-- PARK_TIMER_EXPIRY (R136). -/
  | parkTimerExpiry
  /-- FLOOR_TIMER_EXPIRY (R137). -/
  | floorTimerExpiry
  /-- SILENCE_EXPIRY (R151) of a node. -/
  | silenceExpiry (node : Nat)
  /-- PEER_DECLARED_LOST (R152) of a node. -/
  | peerDeclaredLost (node : Nat)
  /-- REPLY_AGE_EXPIRY (R166). -/
  | replyAgeExpiry
  /-- BUS_ACTIVITY (R158). -/
  | busActivity
  /-- UNKNOWN_KIND_RECORD_REQUEST (R28). -/
  | unknownKindRecordRequest
  deriving DecidableEq, Repr

end Sys2Proof
end

