-- ==== Sys2Proof/Decode.lean ====
section
/-! DEFINITION. The command that a word spells by the table's bits. No row of opcode_table.json gives bits: the
commands are operations and events of a block, so no word spells one (log 31). The device's own frame layouts (R173)
are read in Machine/Operands.lean. -/

namespace Sys2Proof

/-- The command spelled by the low `nbits` bits of `w`: none, since no row of the table gives bits. -/
def decodeTableWord (_nbits _w : Nat) : Option Instr := none

end Sys2Proof
end

