-- ==== Sys2Proof/Config.lean ====
section
/-! DEFINITION. The free values: what the manual leaves open while the device goes on. Each is a constant without a
body, so nothing can be proved of its value and a claim holds whatever it is. (The device's own Configuration Set,
chapter 10, is state and stands in Machine/State.lean.) -/

namespace Sys2Proof

/-- DESIGN CHOICE (log 6). The part of an SPI reply payload that the layouts of R173 do not state for the case at hand
(a refused request's items, the reading of a FREE slot beyond its generation). The argument is the draw number. -/
opaque Config.freeTail : Nat → List Byte

/-- DESIGN CHOICE (log 6). A byte of a reply that the layouts name but whose value the manual does not state in the
case at hand. The arguments are the draw number and the byte's place in the frame. -/
opaque Config.freeByte : Nat → Nat → Byte

/-- DESIGN CHOICE (log 7). Whether a flag byte other than 0 and 1 counts as set (R172: "A flag byte holds 0 or 1"). -/
opaque Config.oddFlag : Byte → Bool

/-- DESIGN CHOICE (log 16). The rank of a slot among the award entries that one completion adds (R85, R156 give no
order among them). The arguments are the draw number and the slot. -/
opaque Config.awardRank : Nat → Nat → Nat

end Sys2Proof
end

