-- ==== Sys2Proof/Machine/State.lean ====
section
/-! DEFINITION. The state of the HS48, block by block as 00_scope ("Blocks") lists them, the queue of waiting commands,
the reasons a step can stop, and the state after device reset. -/

namespace Sys2Proof.Machine

/-! ## Names the manual writes in capitals -/

/-- The two ports (R24). -/
inductive Port where
  | link | bus
  deriving DecidableEq, Repr

/-- The five power quantities of BOUND records (R8, R68). -/
inductive PowerQty where
  | battDis | battChg | genMax | motorDrive | motorRegen
  deriving DecidableEq, Repr

/-- The quantities of BOUND records (R8). -/
inductive BoundQty where
  | power (q : PowerQty)
  | enginePermit
  deriving DecidableEq, Repr

/-- The quantities of MEASURE records (R8). -/
inductive MeasureQty where
  | soc | speed | coolant
  deriving DecidableEq, Repr

/-- Record kind, with the quantity that BOUND and MEASURE records carry (R8). -/
inductive RecordClass where
  | demand
  | load
  | bound (q : BoundQty)
  | measure (q : MeasureQty)
  deriving DecidableEq, Repr

/-- Grant reasons (R15). -/
inductive GrantReason where
  | none | full | shared | shed | staleZero | retiringZero | parkDormant
  deriving DecidableEq, Repr

/-- Device modes (chapter 7). -/
inductive Mode where
  | standby | drive | park | sleep
  deriving DecidableEq, Repr

/-- Genset states (chapter 6). -/
inductive GensetState where
  | off | cranking | warmup | running | cooldown | lockout
  deriving DecidableEq, Repr

/-- Force settings (R107, R126). -/
inductive Force where
  | auto | on | off
  deriving DecidableEq, Repr

/-- Peer roles (R150). -/
inductive Role where
  | battery | engine | inverter | body | telematics | other
  deriving DecidableEq, Repr

/-- Roster entry states (R150). -/
inductive RosterState where
  | joined | silent
  deriving DecidableEq, Repr

/-- CAN controller states (R147). -/
inductive Controller where
  | idle | active | busOff | listening
  deriving DecidableEq, Repr

/-- Causes carried by MODE broadcasts (R133). -/
inductive ModeCause where
  | key | request | parkTime | parkFloor | link | bus
  deriving DecidableEq, Repr

/-- Notice kinds, highest priority first (R167). -/
inductive NoticeKind where
  | gensetFault | supplyFault | shortfall | recordStale | roster | editAbandoned | link
  deriving DecidableEq, Repr

/-- The classes of the transmit queue, in the order in which they are served (R154). -/
inductive TxClass where
  | order | reply | mode | award
  deriving DecidableEq, Repr

/-! ## Timers -/

/-- A timer that is stopped, or runs with the time left to its expiry in ms. -/
inductive Timer where
  | stopped
  | running (left : Nat)
  deriving DecidableEq, Repr

/-- A timer whose expiry is remembered until it is started again (min-on and min-off timers, R107, R108). -/
inductive PhaseTimer where
  | stopped
  | running (left : Nat)
  | elapsed
  deriving DecidableEq, Repr

/-! ## Allotment Table -/

/-- The identity of a record (R8): kind and quantity, owner (0 SUPERVISOR, 1 to 30 a node), label. -/
structure Identity where
  cls : RecordClass
  owner : Nat
  label : Byte
  deriving DecidableEq, Repr

/-- The step list of a LOAD record: count 0 to 6 and six places; a count of 0 means the list is absent (R14). -/
structure StepList where
  count : Nat
  places : Vector Power 6
  deriving DecidableEq, Repr

/-- The declared fields of a LOAD record (R13). -/
structure LoadFields where
  request : Option Power
  floor : Option Power
  tier : Nat
  parkCapable : Bool
  steps : StepList
  deriving DecidableEq, Repr

/-- The fields of each record kind beside the renewal settings (R12, R13, R16, R17). A required field is absent until
it is written. For ENGINE_PERMIT the value and fallback are 0 or 1. -/
inductive Body where
  | demand (demand : Power)
  | load (fields : LoadFields)
  | bound (value fallback : Option Int)
  | measure (value : Option Int)
  deriving DecidableEq, Repr

/-- An image: renewal period in units of 10 ms, tolerance (R9), and the fields of the kind. -/
structure Image where
  period : Nat
  tolerance : Nat
  body : Body
  deriving DecidableEq, Repr

/-- The answer part of a LOAD record: grant and grant reason (R15). -/
structure Answer where
  grant : Power
  reason : GrantReason
  deriving DecidableEq, Repr

/-- A committed record: identity, committed image, and answer part for a LOAD (R1). -/
structure Record where
  ident : Identity
  image : Image
  answer : Option Answer
  deriving DecidableEq, Repr

/-- The life state of a slot with what it holds in that state (R4). A DRAFT holds its identity and, for a LOAD, the tier
its CLAIM gave (R19); its working image lies in the bank's Edit Buffer. A RETIRING record carries the retire mark (R46). -/
inductive Content where
  | free
  | draft (ident : Identity) (claimTier : Nat)
  | live (rec : Record)
  | stale (rec : Record)
  | retiring (rec : Record) (retireMark : Bool)
  deriving DecidableEq, Repr

/-- A slot of the Allotment Table: generation and life state (R1, R6). -/
structure Slot where
  generation : Byte
  content : Content
  deriving DecidableEq, Repr

/-- The written marks of an Edit Buffer (R2). The primary field is demand, request or value; the step list has one
mark (R14). -/
structure Marks where
  period : Bool
  tolerance : Bool
  primary : Bool
  floor : Bool
  tier : Bool
  parkCapable : Bool
  steps : Bool
  fallback : Bool
  deriving DecidableEq, Repr

/-- An open Edit Buffer: the slot it is open for, the working image, the written marks and the time left on the edit
timer in ms (R2, R3). -/
structure EditBuffer where
  slot : SlotNo
  image : Image
  marks : Marks
  timer : Nat
  deriving DecidableEq, Repr

/-- The Allotment Table: 48 slots and, for each bank, its Edit Buffer, closed (`none`) or open (R1, R2). -/
structure AllotmentTable where
  slots : Vector Slot 48
  buffers : Vector (Option EditBuffer) 4
  deriving DecidableEq, Repr

/-! ## Record Access Unit and Renewal Timer Array -/

/-- The Record Access Unit: the port turn (R24) and the purge sets handed to it and not yet executed (R27): the nodes of
the peer-loss sets, oldest first, and whether the park-entry set waits. -/
structure AccessUnit where
  turn : Port
  peerLossSets : List Nat
  parkEntrySet : Bool
  deriving DecidableEq, Repr

/-- What the Renewal Timer Array holds for one slot (R48). -/
structure RenewalEntry where
  timer : Timer
  lapse : Nat
  periodInForce : Nat
  toleranceInForce : Nat
  deriving DecidableEq, Repr

/-! ## Configuration Set -/

/-- One value for each power quantity (ceilings, absent defaults). -/
structure PowerValues where
  battDis : Int
  battChg : Int
  genMax : Int
  motorDrive : Int
  motorRegen : Int
  deriving DecidableEq, Repr

/-- The Configuration Set (R174), each field in the unit of R174's table, and the valid mark. -/
structure ConfigSet where
  valid : Bool
  sTarget : Int
  sStart : Int
  sStop : Int
  kp : Int
  rampStep : Int
  replyTrigger : Int
  noticeEnables : BitVec 7
  pointCount : Int
  points : Vector Int 8
  minOnTime : Int
  minOffTime : Int
  crankTimeout : Int
  crankLimit : Int
  warmCap : Int
  warmThreshold : Int
  warmTimeMax : Int
  cooldown : Int
  orderRetryLimit : Int
  ceilings : PowerValues
  absents : PowerValues
  absentPermit : Int
  parkFloor : Int
  retainMask : BitVec 4
  parkTimeMax : Int
  keyDeglitch : Int
  canBase : Int
  canRate : Int
  canRetryLimit : Int
  silenceTimeout : Int
  deriving DecidableEq, Repr

/-! ## Bound Combiner and Split Engine -/

/-- The Bound Combiner's state (R65): the effective set, coolant presence, the pass marks and the absent-episode marks
(`true` is open). -/
structure Combiner where
  bd : Power
  bc : Power
  genMax : Power
  md : Power
  mr : Power
  permit : Bool
  gav : Power
  s : Int
  speed : Int
  coolant : Int
  coolantPresent : Bool
  boundDefaulted : Bool
  socStale : Bool
  socDefaulted : Bool
  episodeBattDis : Bool
  episodeBattChg : Bool
  episodeSoc : Bool
  deriving DecidableEq, Repr

/-- What a pass takes at its snapshot (R81): every slot, genset state, mode, the demand image, and the configuration
values as they stand. -/
structure Snapshot where
  slots : Vector Slot 48
  genset : GensetState
  mode : Mode
  demandImage : Power
  cfg : ConfigSet
  deriving DecidableEq, Repr

/-- The working figures of a pass (R86 to R101), exact, with its flags. -/
structure Figures where
  bd : Power
  bc : Power
  gav : Power
  md : Power
  mr : Power
  s : Int
  speed : Int
  d : Power
  tm : Power
  r : Power
  p : Power
  tg : Power
  regenCut : Power
  n : Power
  pp : Power
  l : Power
  u : Power
  gd : Power
  gset : Power
  pb : Power
  tractionCut : Bool
  tier0Short : Bool
  regenCutFlag : Bool
  offpoint : Bool
  boundDefaulted : Bool
  socStale : Bool
  socDefaulted : Bool
  deriving DecidableEq, Repr

/-- The pass in flight: its snapshot, its figures, and the grant and reason computed for each LOAD of the snapshot. -/
structure Pass where
  snap : Snapshot
  fig : Figures
  grants : Vector (Option Answer) 48
  deriving DecidableEq, Repr

/-- The Split Result Record (R102). Its powers lie in the 16-bit range (R86). -/
structure SplitResult where
  passNumber : Half
  mode : Mode
  genset : GensetState
  bd : Power
  bc : Power
  gav : Power
  md : Power
  mr : Power
  s : Int
  speed : Int
  d : Power
  tm : Power
  p : Power
  tg : Power
  regenCut : Power
  n : Power
  pp : Power
  gd : Power
  gset : Power
  pb : Power
  tractionCut : Bool
  tier0Short : Bool
  regenCutFlag : Bool
  offpoint : Bool
  boundDefaulted : Bool
  socStale : Bool
  socDefaulted : Bool
  runCount : Nat
  deriving DecidableEq, Repr

/-- The Split Engine's state (R79). -/
structure SplitEngine where
  timer : Timer
  pass : Option Pass
  demandImage : Power
  passNumber : Half
  result : SplitResult
  shortfall : Nat
  deriving DecidableEq, Repr

/-! ## Genset Sequencer -/

/-- The acknowledged orders (R110). -/
inductive OrderKind where
  | start | stop
  deriving DecidableEq, Repr

/-- The order in flight: kind, sequence, resend count, and the time left on its acknowledgement timer (R107, R110). -/
structure InFlight where
  kind : OrderKind
  seq : Byte
  resends : Nat
  timer : Nat
  deriving DecidableEq, Repr

/-- The Genset Sequencer's state (R107). A last setpoint sent of `none` is "unknown". -/
structure Genset where
  state : GensetState
  crankCount : Nat
  force : Force
  seq : Byte
  inFlight : Option InFlight
  setpoint : Power
  lastSent : Option Power
  crankTimer : Timer
  warmTimer : Timer
  cooldownTimer : Timer
  minOn : PhaseTimer
  minOff : PhaseTimer
  noEngine : Bool
  deriving DecidableEq, Repr

/-! ## Mode Controller -/

/-- SLEEP causes (R138); a request carries its tag. -/
inductive SleepCause where
  | request (tag : Byte)
  | parkTime
  | parkFloor
  deriving DecidableEq, Repr

/-- The Mode Controller's state (R129). KEY levels: `true` is on. -/
structure ModeController where
  mode : Mode
  rawKey : Bool
  key : Bool
  deglitchTimer : Timer
  parkTimer : Timer
  floorTimer : Timer
  sleepPending : Option SleepCause
  deriving DecidableEq, Repr

/-! ## Vehicle Bus Port -/

/-- A Peer Roster entry (R150) with its silence timer: the timeout T it was started with and the time since the last
frame, in ms (R151). -/
structure RosterEntry where
  node : Nat
  role : Role
  state : RosterState
  timeout : Nat
  silence : Nat
  deriving DecidableEq, Repr

/-- A frame in the receive buffer: the sending node and the data bytes (R146, R148). -/
structure RxFrame where
  node : Nat
  data : List Byte
  deriving DecidableEq, Repr

/-- Where a sent frame is addressed: one node, or all (R146). -/
inductive Dest where
  | node (n : Nat)
  | broadcast
  deriving DecidableEq, Repr

/-- What a frame of the transmit queue carries (R154, R173). A reply is held as its data bytes. -/
inductive TxBody where
  | order (kind : OrderKind) (seq : Byte)
  | setpoint (power : Power)
  | reply (data : List Byte)
  | abandoned (slot : SlotNo) (generation : Byte) (wasDraft : Bool)
  | mode (mode : Mode) (cause : ModeCause)
  | award (slot : SlotNo) (generation : Byte) (answer : Answer)
  deriving DecidableEq, Repr

/-- A frame of the transmit queue. -/
structure TxFrame where
  dest : Dest
  body : TxBody
  deriving DecidableEq, Repr

/-- The frame in transmission is the oldest frame of its class; it has a retry count (R154, R155). -/
structure InTx where
  cls : TxClass
  retries : Nat
  deriving DecidableEq, Repr

/-- The transmit queue: four classes, oldest frame first, and which class's head is in transmission (R154). -/
structure TxQueue where
  orders : List TxFrame
  replies : List TxFrame
  modes : List TxFrame
  awards : List TxFrame
  inTx : Option InTx
  deriving DecidableEq, Repr

/-- An award queue entry: handle, grant and reason (R156). -/
structure AwardEntry where
  slot : SlotNo
  generation : Byte
  answer : Answer
  deriving DecidableEq, Repr

/-- The Vehicle Bus Port's state (R145, R147), with the identifier base and bit rate in force and the 100 ms of bus
silence that the rejoin waits for (R158). -/
structure BusPort where
  baseInForce : Int
  rateInForce : Int
  roster : List RosterEntry
  rx : List RxFrame
  tx : TxQueue
  awardQueue : List AwardEntry
  lastAward : Vector (Option Answer) 48
  ctrl : Controller
  txErrors : Nat
  busSilence : Timer
  deriving DecidableEq, Repr

/-! ## Supervisor Link -/

/-- A request frame of the Request FIFO (R162, R173). -/
structure SpiRequest where
  kind : Byte
  tag : Byte
  payload : List Byte
  deriving DecidableEq, Repr

/-- A reply frame of the Reply FIFO with its marks and its time of entry (R160, R164). `aged` records that the reply has
passed 2 ms since its entry by a REPLY_AGE_EXPIRY (R166; log 25). -/
structure ReplyEntry where
  kind : Byte
  tag : Byte
  result : Byte
  payload : List Byte
  lostMark : Bool
  repeatMark : Bool
  enteredAt : Nat
  aged : Bool
  deriving DecidableEq, Repr

/-- Where the reply in presentation was taken from: the IDLE reply, the entry at the head of the Reply FIFO, or an entry
that has left the FIFO during the transaction (R161, R164). -/
inductive PresentedFrom where
  | idle | head | gone
  deriving DecidableEq, Repr

/-- The reply in presentation: the bytes of the copy, status byte and CRC included, and where it was taken from. -/
structure Presented where
  bytes : List Byte
  source : PresentedFrom
  deriving DecidableEq, Repr

/-- A Notice Set entry: occurrence count 1 to 255, first and last detail (R167). -/
structure NoticeEntry where
  count : Nat
  first : Half
  last : Half
  deriving DecidableEq, Repr

/-- The Notice Set: at most one entry for each kind (R167). -/
structure NoticeSet where
  gensetFault : Option NoticeEntry
  supplyFault : Option NoticeEntry
  shortfall : Option NoticeEntry
  recordStale : Option NoticeEntry
  roster : Option NoticeEntry
  editAbandoned : Option NoticeEntry
  link : Option NoticeEntry
  deriving DecidableEq, Repr

/-- The Supervisor Link's state (R160). `csLow` and `waking` say whether a transaction is open and whether its fall woke
the device (R161). -/
structure Link where
  requests : List SpiRequest
  replies : List ReplyEntry
  overrun : Bool
  crcError : Bool
  frameError : Bool
  lostReply : Bool
  presented : Option Presented
  notices : NoticeSet
  mirror : Bool
  clockMode : SpiMode
  csLow : Bool
  waking : Bool
  deriving DecidableEq, Repr

/-! ## The device and the machine -/

/-- The device: its blocks (00_scope, "Blocks"), the device time in ms (log 2) and the number of free values drawn so
far (log 6); the last two are the model's own. -/
structure Device where
  now : Nat
  draws : Nat
  tbl : AllotmentTable
  rau : AccessUnit
  rta : Vector RenewalEntry 48
  bc : Combiner
  se : SplitEngine
  gs : Genset
  mc : ModeController
  vbp : BusPort
  sl : Link
  cs : ConfigSet
  deriving DecidableEq, Repr

/-- The machine: the device and the queue of commands that wait for it, first in, first out. -/
structure State where
  dev : Device
  pending : List Instr
  deriving DecidableEq, Repr

/-- The reasons for a fault: none. The manual gives every command an outcome in every state, so no command faults. -/
inductive Fault where
  deriving DecidableEq, Repr

/-- The reasons for a refusal. -/
inductive Refusal where
  /-- Raised by a dispatch arm for a command whose meaning is not modelled yet; safe, since nothing is claimed of it. -/
  | notModelled (mnemonic : String)
  deriving DecidableEq, Repr

/-! ## Values after device reset -/

/-- A FREE slot with generation 0 (R22). -/
def Slot.cleared : Slot := { generation := 0, content := .free }

/-- The Allotment Table after device reset and at SLEEP entry (R22, R23). -/
def AllotmentTable.cleared : AllotmentTable :=
  { slots := Vector.replicate 48 Slot.cleared, buffers := Vector.replicate 4 none }

/-- A Renewal Timer Array entry after device reset and at SLEEP entry (R48). -/
def RenewalEntry.cleared : RenewalEntry :=
  { timer := .stopped, lapse := 0, periodInForce := 0, toleranceInForce := 3 }

/-- The Record Access Unit after device reset and at SLEEP entry (R24; waiting purge sets, log 17). -/
def AccessUnit.cleared : AccessUnit := { turn := .link, peerLossSets := [], parkEntrySet := false }

/-- The Bound Combiner after device reset and at SLEEP entry (R65). -/
def Combiner.cleared : Combiner :=
  { bd := 0, bc := 0, genMax := 0, md := 0, mr := 0, permit := false, gav := 0, s := 0, speed := 0, coolant := 0,
    coolantPresent := false, boundDefaulted := false, socStale := false, socDefaulted := false,
    episodeBattDis := false, episodeBattChg := false, episodeSoc := false }

/-- The zero record (R102). -/
def SplitResult.zero : SplitResult :=
  { passNumber := 0, mode := .standby, genset := .off, bd := 0, bc := 0, gav := 0, md := 0, mr := 0, s := 0, speed := 0,
    d := 0, tm := 0, p := 0, tg := 0, regenCut := 0, n := 0, pp := 0, gd := 0, gset := 0, pb := 0,
    tractionCut := false, tier0Short := false, regenCutFlag := false, offpoint := false, boundDefaulted := false,
    socStale := false, socDefaulted := false, runCount := 0 }

/-- The Split Engine after device reset and after SLEEP entry (R79). -/
def SplitEngine.cleared : SplitEngine :=
  { timer := .stopped, pass := none, demandImage := 0, passNumber := 0, result := .zero, shortfall := 0 }

/-- The Genset Sequencer after device reset (R107). -/
def Genset.cleared : Genset :=
  { state := .off, crankCount := 0, force := .auto, seq := 0, inFlight := none, setpoint := 0, lastSent := some 0,
    crankTimer := .stopped, warmTimer := .stopped, cooldownTimer := .stopped, minOn := .stopped, minOff := .elapsed,
    noEngine := false }

/-- The Mode Controller after device reset with the raw KEY level as sampled (R129): where it is on, the deglitch timer
is started for the factory 50 ms. -/
def ModeController.afterReset (rawKey : Bool) : ModeController :=
  { mode := .standby, rawKey := rawKey, key := false, deglitchTimer := if rawKey then .running 50 else .stopped,
    parkTimer := .stopped, floorTimer := .stopped, sleepPending := none }

/-- An empty transmit queue. -/
def TxQueue.cleared : TxQueue := { orders := [], replies := [], modes := [], awards := [], inTx := none }

/-- The Vehicle Bus Port after device reset (R145). DESIGN CHOICE (log 5): base and rate in force stand at the factory
values until the first CONFIG_DONE takes them. -/
def BusPort.cleared : BusPort :=
  { baseInForce := 0x100, rateInForce := 500, roster := [], rx := [], tx := .cleared, awardQueue := [],
    lastAward := Vector.replicate 48 none, ctrl := .idle, txErrors := 0, busSilence := .stopped }

/-- The empty Notice Set (R167). -/
def NoticeSet.cleared : NoticeSet :=
  { gensetFault := none, supplyFault := none, shortfall := none, recordStale := none, roster := none,
    editAbandoned := none, link := none }

/-- The Supervisor Link after device reset with the straps as sampled (R160). -/
def Link.afterReset (straps : SpiMode) : Link :=
  { requests := [], replies := [], overrun := false, crcError := false, frameError := false, lostReply := false,
    presented := none, notices := .cleared, mirror := false, clockMode := straps, csLow := false, waking := false }

/-- The factory configuration with a clear valid mark (R174). -/
def ConfigSet.factory : ConfigSet :=
  { valid := false, sTarget := 600, sStart := 450, sStop := 750, kp := 2, rampStep := 20, replyTrigger := 1,
    noticeEnables := 3, pointCount := 3, points := #v[120, 200, 280, 1500, 1500, 1500, 1500, 1500], minOnTime := 20,
    minOffTime := 10, crankTimeout := 15, crankLimit := 3, warmCap := 150, warmThreshold := 60, warmTimeMax := 120,
    cooldown := 4, orderRetryLimit := 3,
    ceilings := { battDis := 1200, battChg := 800, genMax := 400, motorDrive := 1200, motorRegen := 800 },
    absents := { battDis := 100, battChg := 50, genMax := 400, motorDrive := 300, motorRegen := 0 },
    absentPermit := 1, parkFloor := 200, retainMask := 1, parkTimeMax := 0, keyDeglitch := 50, canBase := 0x100,
    canRate := 500, canRetryLimit := 16, silenceTimeout := 500 }

/-- The device right after device reset, with the raw KEY level and the straps as sampled then. -/
def Device.afterReset (rawKey : Bool) (straps : SpiMode) : Device :=
  { now := 0, draws := 0, tbl := .cleared, rau := .cleared, rta := Vector.replicate 48 .cleared, bc := .cleared,
    se := .cleared, gs := .cleared, mc := .afterReset rawKey, vbp := .cleared, sl := .afterReset straps,
    cs := .factory }

/-- The machine right after device reset with an empty queue. DESIGN CHOICE (log 4): raw KEY off, clock mode 0. -/
def State.reset : State := { dev := .afterReset false .mode0, pending := [] }

end Sys2Proof.Machine
end

