-- ==== Sys2Proof/Machine/Ops.lean ====
section
/-! DEFINITION. The named operations over the blocks' state that more than one command uses: replacing a block, reading
and ending records, notices, the transmit queue, replies. -/

namespace Sys2Proof.Machine

/-! ## Replacing one block -/

def Device.withNow (d : Device) (x : Nat) : Device := { d with now := x }
def Device.withDraws (d : Device) (x : Nat) : Device := { d with draws := x }
def Device.withTbl (d : Device) (x : AllotmentTable) : Device := { d with tbl := x }
def Device.withRau (d : Device) (x : AccessUnit) : Device := { d with rau := x }
def Device.withRta (d : Device) (x : Vector RenewalEntry 48) : Device := { d with rta := x }
def Device.withBc (d : Device) (x : Combiner) : Device := { d with bc := x }
def Device.withSe (d : Device) (x : SplitEngine) : Device := { d with se := x }
def Device.withGs (d : Device) (x : Genset) : Device := { d with gs := x }
def Device.withMc (d : Device) (x : ModeController) : Device := { d with mc := x }
def Device.withVbp (d : Device) (x : BusPort) : Device := { d with vbp := x }
def Device.withSl (d : Device) (x : Link) : Device := { d with sl := x }
def Device.withCs (d : Device) (x : ConfigSet) : Device := { d with cs := x }

/-! ## Slots, banks and Edit Buffers -/

/-- Slot s lies in bank s div 12 (R1). -/
def bankOf (i : SlotNo) : BankNo := ⟨i.val / 12, by omega⟩

/-- The home bank of SUPERVISOR is 0, that of node n is 1 + (n mod 3) (R1). -/
def homeBank (owner : Nat) : BankNo := if owner = 0 then 0 else ⟨1 + owner % 3, by omega⟩

def Device.slot (d : Device) (i : SlotNo) : Slot := d.tbl.slots[i]

def Device.buffer (d : Device) (b : BankNo) : Option EditBuffer := d.tbl.buffers[b]

def Device.rtaOf (d : Device) (i : SlotNo) : RenewalEntry := d.rta[i]

def Device.setSlot (d : Device) (i : SlotNo) (x : Slot) : Device :=
  d.withTbl { d.tbl with slots := d.tbl.slots.set i x }

def Device.setContent (d : Device) (i : SlotNo) (c : Content) : Device :=
  d.setSlot i { d.slot i with content := c }

def Device.setBuffer (d : Device) (b : BankNo) (x : Option EditBuffer) : Device :=
  d.withTbl { d.tbl with buffers := d.tbl.buffers.set b x }

def Device.setRta (d : Device) (i : SlotNo) (x : RenewalEntry) : Device := d.withRta (d.rta.set i x)

/-- The open Edit Buffer of the slot's bank, where it is open for this slot. -/
def Device.openFor (d : Device) (i : SlotNo) : Option EditBuffer :=
  (d.buffer (bankOf i)).filter fun e => e.slot = i

/-- The under-edit mark (R5): the bank's Edit Buffer is open for the slot. -/
def Device.underEdit (d : Device) (i : SlotNo) : Bool := (d.openFor i).isSome

/-- The identity a slot holds while it is not FREE (R1). -/
def Content.ident? : Content → Option Identity
  | .free => none
  | .draft i _ => some i
  | .live r | .stale r | .retiring r _ => some r.ident

/-- The committed record of a LIVE, STALE or RETIRING slot. -/
def Content.record? : Content → Option Record
  | .free | .draft _ _ => none
  | .live r | .stale r | .retiring r _ => some r

def Content.isFree : Content → Bool
  | .free => true
  | _ => false

def Content.isDraft : Content → Bool
  | .draft _ _ => true
  | _ => false

/-- LIVE or STALE. -/
def Content.isUsed : Content → Bool
  | .live _ | .stale _ => true
  | _ => false

def Content.isRetiring : Content → Bool
  | .retiring _ _ => true
  | _ => false

/-- A RETIRING slot whose retire mark is set (R46). -/
def Content.isMarked : Content → Bool
  | .retiring _ m => m
  | _ => false

/-- The record's committed image changed, in its life state. -/
def Content.mapRecord (f : Record → Record) : Content → Content
  | .free => .free
  | .draft i t => .draft i t
  | .live r => .live (f r)
  | .stale r => .stale (f r)
  | .retiring r m => .retiring (f r) m

/-- The owner of a slot's record. -/
def Content.owner? (c : Content) : Option Nat := c.ident?.map (·.owner)

/-- Modes in which no split passes run (R47, R80). -/
def Mode.noPasses : Mode → Bool
  | .standby | .sleep => true
  | .drive | .park => false

/-! ## Ending records -/

/-- Entry into RETIRING (R46): the record is kept, the retire mark is clear. -/
def Content.retired : Content → Content
  | .live r | .stale r => .retiring r false
  | c => c

/-- The Edit Buffers with every buffer closed that is open for a slot of `which`. -/
def closeBuffers (which : SlotNo → Bool) (bs : Vector (Option EditBuffer) 4) : Vector (Option EditBuffer) 4 :=
  vmap (fun _ b => b.filter fun e => !which e.slot) bs

/-- The slots of `which` become FREE: identity, image, answer part and lapse count dropped, generation kept, timer
stopped (R46, R48), Edit Buffer closed, award queue entry dropped and last sent award none (R157). -/
def freeSlots (which : SlotNo → Bool) (d : Device) : Device :=
  { d with
    tbl := { slots := vmap (fun i s => if which i then { s with content := .free } else s) d.tbl.slots,
             buffers := closeBuffers which d.tbl.buffers },
    rta := vmap (fun i e => if which i then { e with timer := .stopped, lapse := 0 } else e) d.rta,
    vbp := { d.vbp with
      awardQueue := d.vbp.awardQueue.filter fun a => !which a.slot,
      lastAward := vmap (fun i a => if which i then none else a) d.vbp.lastAward } }

/-- The LIVE and STALE slots of `which` enter RETIRING: timer stopped, lapse count held (R46), an open edit abandoned
silently (R43). -/
def retireSlots (which : SlotNo → Bool) (d : Device) : Device :=
  { d with
    tbl := { slots := vmap (fun i s => if which i then { s with content := s.content.retired } else s) d.tbl.slots,
             buffers := closeBuffers which d.tbl.buffers },
    rta := vmap (fun i e => if which i then { e with timer := .stopped } else e) d.rta }

/-- The slots of `named` that RELEASE, PURGE and the purge sets make FREE at once: DRAFTs (R43), and in a mode without
passes LIVE and STALE records (R47). -/
def endsFree (d : Device) (named : SlotNo → Bool) (i : SlotNo) : Bool :=
  named i && ((d.slot i).content.isDraft || ((d.slot i).content.isUsed && d.mc.mode.noPasses))

/-- The slots of `named` that RELEASE, PURGE and the purge sets make RETIRING (R43). -/
def endsRetiring (d : Device) (named : SlotNo → Bool) (i : SlotNo) : Bool :=
  named i && (d.slot i).content.isUsed && !d.mc.mode.noPasses

/-- The one effect of RELEASE, PURGE and the purge sets on every record named (R43, R44, R45, R47). RETIRING and FREE
slots are left as they are. -/
def endRecords (named : SlotNo → Bool) (d : Device) : Device :=
  retireSlots (endsRetiring d named) (freeSlots (endsFree d named) d)

/-! ## Notices -/

def NoticeSet.get (n : NoticeSet) : NoticeKind → Option NoticeEntry
  | .gensetFault => n.gensetFault
  | .supplyFault => n.supplyFault
  | .shortfall => n.shortfall
  | .recordStale => n.recordStale
  | .roster => n.roster
  | .editAbandoned => n.editAbandoned
  | .link => n.link

def NoticeSet.set (n : NoticeSet) (k : NoticeKind) (e : Option NoticeEntry) : NoticeSet :=
  match k with
  | .gensetFault => { n with gensetFault := e }
  | .supplyFault => { n with supplyFault := e }
  | .shortfall => { n with shortfall := e }
  | .recordStale => { n with recordStale := e }
  | .roster => { n with roster := e }
  | .editAbandoned => { n with editAbandoned := e }
  | .link => { n with link := e }

/-- The entry after a raise (R167): created with count 1, or counted up to 255 with the detail as last detail. -/
def NoticeEntry.raised (e : Option NoticeEntry) (detail : Half) : NoticeEntry :=
  match e with
  | none => { count := 1, first := detail, last := detail }
  | some e => { e with count := min (e.count + 1) 255, last := detail }

/-- A notice is raised (R167). -/
def raise (k : NoticeKind) (detail : Half) (d : Device) : Device :=
  d.withSl { d.sl with notices := d.sl.notices.set k (some (NoticeEntry.raised (d.sl.notices.get k) detail)) }

/-- Details of GENSET_FAULT (R173). -/
inductive GensetFaultDetail where
  | noEngine | lockout | stall | unexpectedRun | orderUnacked
  deriving DecidableEq, Repr

def GensetFaultDetail.code : GensetFaultDetail → Half
  | .noEngine => 1
  | .lockout => 2
  | .stall => 3
  | .unexpectedRun => 4
  | .orderUnacked => 5

def raiseGensetFault (x : GensetFaultDetail) (d : Device) : Device := raise .gensetFault x.code d

/-- The low byte of a LINK detail that names the destination: the node, or 0x3F for the broadcast identifier (R173). -/
def Dest.code : Dest → Nat
  | .node n => n
  | .broadcast => 0x3F

/-- Details of LINK: cause in the high byte (R173). -/
def raiseRxOverrun (node : Nat) (d : Device) : Device := raise .link (BitVec.ofNat 16 (0x100 + node)) d

def raiseTxDropped (dest : Dest) (d : Device) : Device := raise .link (BitVec.ofNat 16 (0x200 + dest.code)) d

def raiseBusOff (d : Device) : Device := raise .link 0x300 d

def raiseRoster (node : Nat) (d : Device) : Device := raise .roster (BitVec.ofNat 16 node) d

/-! ## Roster -/

def Device.entryOf (d : Device) (node : Nat) : Option RosterEntry := d.vbp.roster.find? fun e => e.node = node

/-- A JOINED or SILENT entry counts as enrolled (R28). -/
def Device.enrolled (d : Device) (node : Nat) : Bool := (d.entryOf node).isSome

/-- The engine peer: the roster entry with role ENGINE (6.2). -/
def Device.enginePeer (d : Device) : Option Nat := (d.vbp.roster.find? fun e => e.role = .engine).map (·.node)

/-- The roster with the entry of `node` changed. -/
def mapEntry (node : Nat) (f : RosterEntry → RosterEntry) (r : List RosterEntry) : List RosterEntry :=
  r.map fun e => if e.node = node then f e else e

/-- The roster with an entry inserted in order of node id (R145). -/
def insertEntry (x : RosterEntry) : List RosterEntry → List RosterEntry
  | [] => [x]
  | e :: es => if x.node < e.node then x :: e :: es else e :: insertEntry x es

/-! ## Transmit queue -/

def TxQueue.count (q : TxQueue) : Nat := q.orders.length + q.replies.length + q.modes.length + q.awards.length

def TxQueue.get (q : TxQueue) : TxClass → List TxFrame
  | .order => q.orders
  | .reply => q.replies
  | .mode => q.modes
  | .award => q.awards

def TxQueue.set (q : TxQueue) (c : TxClass) (l : List TxFrame) : TxQueue :=
  match c with
  | .order => { q with orders := l }
  | .reply => { q with replies := l }
  | .mode => { q with modes := l }
  | .award => { q with awards := l }

/-- Room for one more frame (R154); in IDLE no frame finds room (R147). -/
def Device.txRoom (d : Device) : Bool := d.vbp.ctrl != .idle && d.vbp.tx.count < 24

def Device.withTx (d : Device) (q : TxQueue) : Device := d.withVbp { d.vbp with tx := q }

/-- A frame handed to a class: queued at its tail where there is room, otherwise not queued and LINK raised with cause
TX_DROPPED (R154). -/
def handFrame (c : TxClass) (f : TxFrame) (d : Device) : Device :=
  if d.txRoom then d.withTx (d.vbp.tx.set c (d.vbp.tx.get c ++ [f])) else raiseTxDropped f.dest d

/-- The first frame of the list that satisfies `p` replaced by `x`; `none` where none does. -/
def replaceFirst (p : TxFrame → Bool) (x : TxFrame) : List TxFrame → Option (List TxFrame)
  | [] => none
  | f :: fs => if p f then some (x :: fs) else (replaceFirst p x fs).map (f :: ·)

def TxFrame.isOrder (f : TxFrame) : Bool :=
  match f.body with
  | .order _ _ => true
  | _ => false

def TxFrame.isSetpoint (f : TxFrame) : Bool :=
  match f.body with
  | .setpoint _ => true
  | _ => false

/-- Whether the head of the ORDER class is the frame in transmission. -/
def TxQueue.orderInTx (q : TxQueue) : Bool :=
  match q.inTx with
  | some t => t.cls = .order
  | none => false

/-- The ORDER class with `x` in the place of the waiting frame that satisfies `p`, the frame in transmission excepted
(R154). -/
def replaceWaiting (p : TxFrame → Bool) (x : TxFrame) (q : TxQueue) : Option (List TxFrame) :=
  if q.orderInTx then
    match q.orders with
    | [] => none
    | f :: fs => (replaceFirst p x fs).map (f :: ·)
  else replaceFirst p x q.orders

/-- An ORDER frame handed to the port (R154): it replaces a waiting frame of its sort, or is queued where there is room,
or is dropped with TX_DROPPED. The Boolean says whether it was queued. -/
def handOrder (sort : TxFrame → Bool) (f : TxFrame) (d : Device) : Device × Bool :=
  match replaceWaiting sort f d.vbp.tx with
  | some l => (d.withTx { d.vbp.tx with orders := l }, true)
  | none => (handFrame .order f d, d.txRoom)

/-- A MODE broadcast is queued (R133). -/
def broadcastMode (m : Mode) (c : ModeCause) (d : Device) : Device :=
  handFrame .mode { dest := .broadcast, body := .mode m c } d

/-- The queues of the port emptied, and every last sent award none (R139, R147, R157, R159). -/
def emptyBusQueues (v : BusPort) : BusPort :=
  { v with rx := [], tx := .cleared, awardQueue := [], lastAward := Vector.replicate 48 none }

/-! ## Reply FIFO -/

/-- A reply as it enters the Reply FIFO: with its time of entry, a clear REPEAT mark, and REPLY_LOST as given (R164). -/
def ReplyEntry.enter (kind tag result : Byte) (payload : List Byte) (lost : Bool) (now : Nat) : ReplyEntry :=
  { kind := kind, tag := tag, result := result, payload := payload, lostMark := lost, repeatMark := false,
    enteredAt := now, aged := false }

/-- A reply at the tail of the Reply FIFO, or lost where it holds 16 (R164). -/
def placeReply (kind tag result : Byte) (payload : List Byte) (d : Device) : Device :=
  if d.sl.replies.length < 16 then
    d.withSl { d.sl with
      replies := d.sl.replies ++ [.enter kind tag result payload d.sl.lostReply d.now],
      lostReply := false }
  else d.withSl { d.sl with lostReply := true }

/-- The entry that the reply in presentation was taken from has left the Reply FIFO (R164). -/
def Presented.orphaned (p : Presented) : Presented :=
  match p.source with
  | .head => { p with source := .gone }
  | _ => p

/-- A free value is drawn (log 6). -/
def Device.draw (d : Device) : Device := d.withDraws (d.draws + 1)

/-! ## Timers -/

def Timer.isRunning : Timer → Bool
  | .stopped => false
  | .running _ => true

def PhaseTimer.isRunning : PhaseTimer → Bool
  | .running _ => true
  | _ => false

/-- A timer started for a time in ms; a time of 0 leaves it elapsed at once (R108). -/
def PhaseTimer.start (ms : Nat) : PhaseTimer := if ms = 0 then .elapsed else .running ms

/-- A timer started for a time in ms, not started where the time is 0. -/
def Timer.start (ms : Nat) : Timer := if ms = 0 then .stopped else .running ms

end Sys2Proof.Machine
end

