-- ==== Sys2Proof/Machine/Operands.lean ====
section
/-! DEFINITION. The operand forms: codes, field ids and ranges, and the frame layouts of both ports (R172, R173), read
and written. -/

namespace Sys2Proof.Machine

/-! ## Bytes -/

/-- Two bytes, most significant first (R172). -/
def halfOf (hi lo : Byte) : Half := hi ++ lo

/-- The two bytes of a 16-bit item, most significant first (R172). -/
def halfBytes (h : Half) : List Byte := [h.extractLsb' 8 8, h.extractLsb' 0 8]

/-- A number as a 16-bit two's complement item (R172). -/
def valueBytes (v : Int) : List Byte := halfBytes (BitVec.ofInt 16 v)

def natByte (n : Nat) : Byte := BitVec.ofNat 8 n

def flagByte (b : Bool) : Byte := if b then 1 else 0

/-- A flag byte read: 0 or 1 (R172); what another value means is left open (log 7). -/
def flagSet (b : Byte) : Bool := if b = 0 then false else if b = 1 then true else Config.oddFlag b

/-- clamp(x, a, b) of 00_scope: x raised to a or lowered to b where it lies outside [a, b]. -/
def clamp (lo hi x : Int) : Int := if x < lo then lo else if hi < x then hi else x

/-! ## Result codes and enumerations (R173) -/

/-- The result codes (section 2.9). -/
inductive Result where
  | ok | clamped | bankBusy | tableFull | duplicate | badHandle | notOwner | badState | badFields | badRequest | notNow
  | notEnrolled | rosterFull | badConfig | noRecord | abandoned
  deriving DecidableEq, Repr

def Result.code : Result → Byte
  | .ok => 0x00
  | .clamped => 0x01
  | .bankBusy => 0x02
  | .tableFull => 0x03
  | .duplicate => 0x04
  | .badHandle => 0x05
  | .notOwner => 0x06
  | .badState => 0x07
  | .badFields => 0x08
  | .badRequest => 0x09
  | .notNow => 0x0A
  | .notEnrolled => 0x0B
  | .rosterFull => 0x0C
  | .badConfig => 0x0D
  | .noRecord => 0x0E
  | .abandoned => 0x0F

def PowerQty.code : PowerQty → Byte
  | .battDis => 0
  | .battChg => 1
  | .genMax => 2
  | .motorDrive => 3
  | .motorRegen => 4

def BoundQty.code : BoundQty → Byte
  | .power q => q.code
  | .enginePermit => 5

def BoundQty.ofByte (b : Byte) : Option BoundQty :=
  if b = 0 then some (.power .battDis)
  else if b = 1 then some (.power .battChg)
  else if b = 2 then some (.power .genMax)
  else if b = 3 then some (.power .motorDrive)
  else if b = 4 then some (.power .motorRegen)
  else if b = 5 then some .enginePermit
  else none

def MeasureQty.code : MeasureQty → Byte
  | .soc => 0
  | .speed => 1
  | .coolant => 2

def MeasureQty.ofByte (b : Byte) : Option MeasureQty :=
  if b = 0 then some .soc else if b = 1 then some .speed else if b = 2 then some .coolant else none

/-- The record kind code: 0 DEMAND, 1 LOAD, 2 BOUND, 3 MEASURE. -/
def RecordClass.kindCode : RecordClass → Byte
  | .demand => 0
  | .load => 1
  | .bound _ => 2
  | .measure _ => 3

/-- The class that a CLAIM names by its kind byte and its third operand byte (R8, R30); `none` where the kind or the
quantity is unknown. -/
def RecordClass.ofClaim (kind extra : Byte) : Option RecordClass :=
  if kind = 0 then some .demand
  else if kind = 1 then some .load
  else if kind = 2 then (BoundQty.ofByte extra).map .bound
  else if kind = 3 then (MeasureQty.ofByte extra).map .measure
  else none

def Content.lifeCode : Content → Byte
  | .free => 0
  | .draft _ _ => 1
  | .live _ => 2
  | .stale _ => 3
  | .retiring _ _ => 4

def GrantReason.code : GrantReason → Byte
  | .none => 0
  | .full => 1
  | .shared => 2
  | .shed => 3
  | .staleZero => 4
  | .retiringZero => 5
  | .parkDormant => 6

def Mode.code : Mode → Byte
  | .standby => 0
  | .drive => 1
  | .park => 2
  | .sleep => 3

def GensetState.code : GensetState → Byte
  | .off => 0
  | .cranking => 1
  | .warmup => 2
  | .running => 3
  | .cooldown => 4
  | .lockout => 5

/-- Engine states of an ENGINE_REPORT (R109). -/
inductive EngineState where
  | stopped | cranking | running | stalled
  deriving DecidableEq, Repr

def EngineState.ofByte (b : Byte) : Option EngineState :=
  if b = 0 then some .stopped
  else if b = 1 then some .cranking
  else if b = 2 then some .running
  else if b = 3 then some .stalled
  else none

def Force.code : Force → Byte
  | .auto => 0
  | .on => 1
  | .off => 2

def Force.ofByte (b : Byte) : Option Force :=
  if b = 0 then some .auto else if b = 1 then some .on else if b = 2 then some .off else none

def Role.code : Role → Byte
  | .battery => 0
  | .engine => 1
  | .inverter => 2
  | .body => 3
  | .telematics => 4
  | .other => 5

def Role.ofByte (b : Byte) : Option Role :=
  if b = 0 then some .battery
  else if b = 1 then some .engine
  else if b = 2 then some .inverter
  else if b = 3 then some .body
  else if b = 4 then some .telematics
  else if b = 5 then some .other
  else none

def RosterState.code : RosterState → Byte
  | .joined => 0
  | .silent => 1

def Controller.code : Controller → Byte
  | .idle => 0
  | .active => 1
  | .busOff => 2
  | .listening => 3

def ModeCause.code : ModeCause → Byte
  | .key => 0
  | .request => 1
  | .parkTime => 2
  | .parkFloor => 3
  | .link => 4
  | .bus => 5

/-- The cause that a SLEEP entry carries in its broadcast and its reply (R133, R140). -/
def SleepCause.modeCause : SleepCause → ModeCause
  | .request _ => .request
  | .parkTime => .parkTime
  | .parkFloor => .parkFloor

/-- The tag of the SLEEP reply: that of the request, 0 for the timer causes (R140). -/
def SleepCause.tag : SleepCause → Byte
  | .request t => t
  | .parkTime | .parkFloor => 0

/-- Notice kinds 1 to 7 in priority order (R173). -/
def NoticeKind.number : NoticeKind → Nat
  | .gensetFault => 1
  | .supplyFault => 2
  | .shortfall => 3
  | .recordStale => 4
  | .roster => 5
  | .editAbandoned => 6
  | .link => 7

/-- The notice kinds, highest priority first (R167). -/
def NoticeKind.all : List NoticeKind :=
  [.gensetFault, .supplyFault, .shortfall, .recordStale, .roster, .editAbandoned, .link]

def NoticeKind.ofByte (b : Byte) : Option NoticeKind := NoticeKind.all.find? fun k => k.number = b.toNat

/-- Details of SUPPLY_FAULT: 0 BATT_DIS, 1 BATT_CHG, 0x10 SOC (R173). -/
inductive SupplyQty where
  | battDis | battChg | soc
  deriving DecidableEq, Repr

def SupplyQty.code : SupplyQty → Half
  | .battDis => 0
  | .battChg => 1
  | .soc => 0x10

/-! ## Request kinds on the Supervisor Link -/

/-- The request kinds the Supervisor Link takes (R163, R173). -/
inductive ReqKind where
  | claim | amend | commit | renew | release | query | lookup | purge
  | configWrite | configRead | configDone | startDrive | sleep | forceGenset | clearLockout | noticeRead | resultRead
  | rosterRead | linkReset | busRestart | mirror
  deriving DecidableEq, Repr

def ReqKind.code : ReqKind → Byte
  | .claim => 0x01
  | .amend => 0x02
  | .commit => 0x03
  | .renew => 0x04
  | .release => 0x05
  | .query => 0x06
  | .lookup => 0x07
  | .purge => 0x08
  | .configWrite => 0x10
  | .configRead => 0x11
  | .configDone => 0x12
  | .startDrive => 0x13
  | .sleep => 0x14
  | .forceGenset => 0x15
  | .clearLockout => 0x16
  | .noticeRead => 0x17
  | .resultRead => 0x18
  | .rosterRead => 0x19
  | .linkReset => 0x1A
  | .busRestart => 0x1B
  | .mirror => 0x1C

def ReqKind.all : List ReqKind :=
  [.claim, .amend, .commit, .renew, .release, .query, .lookup, .purge, .configWrite, .configRead, .configDone,
   .startDrive, .sleep, .forceGenset, .clearLockout, .noticeRead, .resultRead, .rosterRead, .linkReset, .busRestart,
   .mirror]

def ReqKind.ofByte (b : Byte) : Option ReqKind := ReqKind.all.find? fun k => k.code = b

/-- The payload lengths that R173 permits for each kind. -/
def ReqKind.permits (k : ReqKind) (n : Nat) : Bool :=
  match k with
  | .claim => n == 3
  | .amend => n % 3 == 0 && 3 ≤ n && n ≤ 21
  | .commit | .release | .purge | .lookup => n == 2
  | .renew => n == 5
  | .query => n == 1 || n == 2
  | .noticeRead => n == 0 || n == 1
  | .configWrite => n == 3
  | .configRead | .forceGenset | .mirror => n == 1
  | .startDrive | .sleep | .clearLockout | .resultRead | .rosterRead | .linkReset | .busRestart | .configDone => n == 0

/-- The frame's kind, where the link accepts the frame: a known request kind with a permitted length (R163). -/
def SpiRequest.accepted (f : SpiRequest) : Option ReqKind :=
  (ReqKind.ofByte f.kind).filter fun k => k.permits f.payload.length

/-- The byte of a payload or of a CAN frame at a place; a place beyond the end reads 0 (R172). -/
def byteAt (l : List Byte) (i : Nat) : Byte := l.getD i 0

/-! ## Record requests -/

/-- One field write of an AMEND. -/
structure FieldWrite where
  id : Byte
  value : Half
  deriving DecidableEq, Repr

/-- A record request as either port offers it. `short` is a CAN frame too short for its kind, or of unknown kind
(R146). -/
inductive RecordRequest where
  | claim (kind label extra : Byte)
  | amend (slot generation : Byte) (writes : List FieldWrite) (commit : Bool)
  | commit (slot generation : Byte)
  | renew (slot generation : Byte) (value : Option Half)
  | release (slot generation : Byte)
  | purge (slot generation : Byte)
  | query (slot : Byte) (field : Option Byte)
  | lookup (owner label : Byte)
  | short
  deriving DecidableEq, Repr

/-- The row of the table that takes a record request. -/
inductive RauRow where
  | claim | amend | amendCommit | commit | renew | renewWithValue | release | purge | query | queryField | lookup
  | unknown
  deriving DecidableEq, Repr

/-- The row that a whole record request belongs to. -/
def RecordRequest.row : RecordRequest → RauRow
  | .claim _ _ _ => .claim
  | .amend _ _ _ c => if c then .amendCommit else .amend
  | .commit _ _ => .commit
  | .renew _ _ v => if v.isSome then .renewWithValue else .renew
  | .release _ _ => .release
  | .purge _ _ => .purge
  | .query _ f => if f.isSome then .queryField else .query
  | .lookup _ _ => .lookup
  | .short => .unknown

/-- The writes of an SPI AMEND: three bytes each. -/
def parseWrites : List Byte → List FieldWrite
  | i :: hi :: lo :: rest => { id := i, value := halfOf hi lo } :: parseWrites rest
  | _ => []

/-- A record request read from an accepted SPI frame (R173, SPI payloads). -/
def parseLinkRequest (k : ReqKind) (p : List Byte) : Option RecordRequest :=
  match k with
  | .claim => some (.claim (byteAt p 0) (byteAt p 1) (byteAt p 2))
  | .amend => some (.amend (byteAt p 0) (byteAt p 1) (parseWrites (p.drop 3)) (flagSet (byteAt p 2)))
  | .commit => some (.commit (byteAt p 0) (byteAt p 1))
  | .renew =>
    some (.renew (byteAt p 0) (byteAt p 1) (if flagSet (byteAt p 2) then some (halfOf (byteAt p 3) (byteAt p 4)) else none))
  | .release => some (.release (byteAt p 0) (byteAt p 1))
  | .purge => some (.purge (byteAt p 0) (byteAt p 1))
  | .query => some (.query (byteAt p 0) (if p.length = 2 then some (byteAt p 1) else none))
  | .lookup => some (.lookup (byteAt p 0) (byteAt p 1))
  | _ => none

/-- The bytes a CAN record request needs (R146, R173; log 9). -/
def RauRow.canLength : RauRow → Nat
  | .claim => 6
  | .amend | .amendCommit => 7
  | .commit | .release | .purge => 3
  | .renew | .renewWithValue => 6
  | .query | .queryField => 4
  | .lookup => 3
  | .unknown => 0

/-- The row that a CAN frame's first byte names; a frame without bytes is of unknown kind (R146). -/
def canKindRow : List Byte → RauRow
  | [] => .unknown
  | k :: _ =>
    if k = 0x01 then .claim
    else if k = 0x02 then .amend
    else if k = 0x03 then .commit
    else if k = 0x04 then .renew
    else if k = 0x05 then .release
    else if k = 0x06 then .query
    else if k = 0x07 then .lookup
    else if k = 0x08 then .purge
    else .unknown

/-- A record request read from a CAN frame long enough for its kind (R173, CAN payloads). -/
def parseCanWhole (r : RauRow) (p : List Byte) : RecordRequest :=
  match r with
  | .claim => .claim (byteAt p 3) (byteAt p 4) (byteAt p 5)
  | .amend | .amendCommit =>
    .amend (byteAt p 1) (byteAt p 2) [{ id := byteAt p 3, value := halfOf (byteAt p 4) (byteAt p 5) }]
      (flagSet (byteAt p 6))
  | .commit => .commit (byteAt p 1) (byteAt p 2)
  | .renew | .renewWithValue =>
    .renew (byteAt p 1) (byteAt p 2) (if flagSet (byteAt p 3) then some (halfOf (byteAt p 4) (byteAt p 5)) else none)
  | .release => .release (byteAt p 1) (byteAt p 2)
  | .purge => .purge (byteAt p 1) (byteAt p 2)
  | .query | .queryField => .query (byteAt p 1) (if byteAt p 3 = 0 then none else some (byteAt p 3))
  | .lookup => .lookup (byteAt p 1) (byteAt p 2)
  | .unknown => .short

/-- A record request read from a CAN frame; one too short for its kind is `short` (R146). -/
def parseCanRequest (p : List Byte) : RecordRequest :=
  if p.length < (canKindRow p).canLength then .short else parseCanWhole (canKindRow p) p

/-- The row that takes a CAN frame: that of the request it spells, or where it is too short, that of its kind. -/
def canRow (p : List Byte) : RauRow :=
  if p.length < (canKindRow p).canLength then canKindRow p else (parseCanWhole (canKindRow p) p).row

def isHelloFrame (f : RxFrame) : Bool := f.data.head? = some 0x09

def isReportFrame (f : RxFrame) : Bool := f.data.head? = some 0x0A

/-- Every frame of the receive buffer but HELLO and ENGINE_REPORT is a record request (R148). -/
def isRecordFrame (f : RxFrame) : Bool := !isHelloFrame f && !isReportFrame f

/-! ## Record fields -/

/-- The record fields of R173's table of field ids. -/
inductive FieldId where
  | period | tolerance | demand | request | floor | tier | parkCapable | stepCount
  | step (n : Fin 6)
  | grant | reason | boundValue | fallback | measureValue | kind | owner | label | quantity | lapse
  deriving DecidableEq, Repr

def FieldId.code : FieldId → Byte
  | .period => 0x01
  | .tolerance => 0x02
  | .demand => 0x10
  | .request => 0x20
  | .floor => 0x21
  | .tier => 0x22
  | .parkCapable => 0x23
  | .stepCount => 0x24
  | .step n => natByte (0x25 + n.val)
  | .grant => 0x2E
  | .reason => 0x2F
  | .boundValue => 0x30
  | .fallback => 0x31
  | .measureValue => 0x40
  | .kind => 0x78
  | .owner => 0x79
  | .label => 0x7A
  | .quantity => 0x7B
  | .lapse => 0x7C

def FieldId.all : List FieldId :=
  [.period, .tolerance, .demand, .request, .floor, .tier, .parkCapable, .stepCount, .step 0, .step 1, .step 2, .step 3,
   .step 4, .step 5, .grant, .reason, .boundValue, .fallback, .measureValue, .kind, .owner, .label, .quantity, .lapse]

def FieldId.ofByte (b : Byte) : Option FieldId := FieldId.all.find? fun f => f.code = b

/-- Fields no request may write: identity, lapse count, answer part (R8, R10, R15). -/
def FieldId.readOnly : FieldId → Bool
  | .grant | .reason | .kind | .owner | .label | .quantity | .lapse => true
  | _ => false

/-- The record kinds that have a field (R173). -/
def FieldId.ofClass (c : RecordClass) : FieldId → Bool
  | .period | .tolerance | .kind | .owner | .label | .lapse => true
  | .demand => c = .demand
  | .request | .floor | .tier | .parkCapable | .stepCount | .step _ | .grant | .reason => c = .load
  | .boundValue | .fallback => c.kindCode = 2
  | .measureValue => c.kindCode = 3
  | .quantity => c.kindCode = 2 || c.kindCode = 3

/-- Optional fields, which accept the absence marker (R11, R14, R16). -/
def FieldId.optional : FieldId → Bool
  | .floor | .stepCount | .fallback => true
  | _ => false

/-- The absence marker of an AMEND field write: 0x8000, but for the demand field (R172). -/
def isMarker (f : FieldId) (v : Half) : Bool := v = 0x8000 && f ≠ .demand

/-- The range of a BOUND value or fallback (R16). -/
def BoundQty.range : BoundQty → Int × Int
  | .power _ => (0, 32767)
  | .enginePermit => (0, 1)

/-- The range of a MEASURE value (R17). -/
def MeasureQty.range : MeasureQty → Int × Int
  | .soc => (0, 1000)
  | .speed => (0, 2000)
  | .coolant => (-40, 150)

/-- The range of a writable field in a record of class `c` (R9, R12 to R14, R16, R17). -/
def FieldId.range (c : RecordClass) : FieldId → Int × Int
  | .period => (0, 250)
  | .tolerance => (1, 8)
  | .request => (0, 32767)
  | .floor => (1, 32767)
  | .tier => (0, 3)
  | .parkCapable => (0, 1)
  | .stepCount => (0, 6)
  | .step _ => (1, 32767)
  | .boundValue | .fallback =>
    match c with
    | .bound q => q.range
    | _ => (0, 32767)
  | .measureValue =>
    match c with
    | .measure q => q.range
    | _ => (0, 1000)
  | _ => (-32768, 32767)

/-- A value brought into the field's range (R11). -/
def clampField (c : RecordClass) (f : FieldId) (v : Int) : Int := clamp (f.range c).1 (f.range c).2 v

/-- The primary field of each kind (section 3.6). -/
def RecordClass.primary : RecordClass → FieldId
  | .demand => .demand
  | .load => .request
  | .bound _ => .boundValue
  | .measure _ => .measureValue

/-- No written marks. -/
def Marks.clear : Marks :=
  { period := false, tolerance := false, primary := false, floor := false, tier := false, parkCapable := false,
    steps := false, fallback := false }

/-- The written mark that a write of the field sets (R2, R14). -/
def Marks.mark (m : Marks) : FieldId → Marks
  | .period => { m with period := true }
  | .tolerance => { m with tolerance := true }
  | .demand | .request | .boundValue | .measureValue => { m with primary := true }
  | .floor => { m with floor := true }
  | .tier => { m with tier := true }
  | .parkCapable => { m with parkCapable := true }
  | .stepCount | .step _ => { m with steps := true }
  | .fallback => { m with fallback := true }
  | _ => m

def LoadFields.write (l : LoadFields) (f : FieldId) (v : Option Int) : LoadFields :=
  match f with
  | .request => { l with request := v }
  | .floor => { l with floor := v }
  | .tier => { l with tier := (v.getD 0).toNat }
  | .parkCapable => { l with parkCapable := v.getD 0 = 1 }
  | .stepCount => { l with steps := { l.steps with count := (v.getD 0).toNat } }
  | .step n => { l with steps := { l.steps with places := l.steps.places.set n (v.getD 0) } }
  | _ => l

/-- A field of an image set to a value, or made absent (`none`, for an optional field; the marker written to STEP_COUNT
sets the count to 0, R14). -/
def Image.write (img : Image) (f : FieldId) (v : Option Int) : Image :=
  match f with
  | .period => { img with period := (v.getD 0).toNat }
  | .tolerance => { img with tolerance := (v.getD 0).toNat }
  | _ =>
    { img with body :=
      match img.body with
      | .demand p => if f = .demand then .demand (v.getD 0) else .demand p
      | .load l => .load (l.write f v)
      | .bound val fb =>
        if f = .boundValue then .bound v fb else if f = .fallback then .bound val v else .bound val fb
      | .measure val => if f = .measureValue then .measure v else .measure val }

/-- The step list of a new LOAD DRAFT (R14). -/
def StepList.default : StepList := { count := 0, places := Vector.replicate 6 1 }

/-- The working image at the defaults of the kind (R9, R12 to R17). -/
def Image.default (owner : Nat) (c : RecordClass) (tier : Nat) : Image :=
  { period := if owner = 0 then 0 else 10, tolerance := 3,
    body :=
      match c with
      | .demand => .demand 0
      | .load => .load { request := none, floor := none, tier := tier, parkCapable := false, steps := .default }
      | .bound _ => .bound none none
      | .measure _ => .measure none }

/-- The listed steps: the first step-count places (R14). -/
def StepList.listed (s : StepList) : List Power := s.places.toList.take s.count

/-- The listed steps of an image; none for another kind than LOAD. -/
def Image.steps (img : Image) : List Power :=
  match img.body with
  | .load l => l.steps.listed
  | _ => []

def Image.floor (img : Image) : Option Power :=
  match img.body with
  | .load l => l.floor
  | _ => none

/-- The value of the primary field, where it is present. -/
def Image.primary (img : Image) : Option Int :=
  match img.body with
  | .demand p => some p
  | .load l => l.request
  | .bound v _ => v
  | .measure v => v

/-- The value of an optional field as a read carries it: 0x8000 where it is absent (R172). -/
def optionalValue (v : Option Int) : Int := v.getD (-32768)

/-- A field of a committed record read: whether it is present, and the value (R14, R20, R172; log 11). -/
def Record.read (r : Record) (lapse : Nat) (f : FieldId) : Bool × Int :=
  match f with
  | .period => (true, r.image.period)
  | .tolerance => (true, r.image.tolerance)
  | .kind => (true, r.ident.cls.kindCode.toNat)
  | .owner => (true, r.ident.owner)
  | .label => (true, r.ident.label.toNat)
  | .lapse => (true, lapse)
  | .quantity =>
    match r.ident.cls with
    | .bound q => (true, q.code.toNat)
    | .measure q => (true, q.code.toNat)
    | _ => (false, -32768)
  | .grant => (r.answer.isSome, optionalValue (r.answer.map (·.grant)))
  | .reason => (r.answer.isSome, optionalValue (r.answer.map fun a => (a.reason.code.toNat : Int)))
  | .floor => (r.image.floor.isSome, optionalValue r.image.floor)
  | .tier | .parkCapable | .stepCount | .step _ =>
    match r.image.body with
    | .load l =>
      match f with
      | .tier => (true, l.tier)
      | .parkCapable => (true, if l.parkCapable then 1 else 0)
      | .stepCount => (l.steps.count ≠ 0, l.steps.count)
      | .step n => (n.val < l.steps.count, l.steps.places[n])
      | _ => (false, -32768)
    | _ => (false, -32768)
  | .fallback =>
    match r.image.body with
    | .bound _ fb => (fb.isSome, optionalValue fb)
    | _ => (false, -32768)
  | .demand | .request | .boundValue | .measureValue => (r.image.primary.isSome, optionalValue r.image.primary)

/-! ## Frames sent on the vehicle bus -/

/-- The data of a sent frame padded to 8 bytes with 0x00 (R172; log 9). -/
def pad8 (l : List Byte) : List Byte := (l ++ List.replicate 8 0).take 8

/-- The data bytes of a frame of the transmit queue (R173, CAN payloads). -/
def TxBody.data : TxBody → List Byte
  | .order .start s => pad8 [0x42, s, 0]
  | .order .stop s => pad8 [0x43, s, 0]
  | .setpoint p => pad8 ([0x44, 0, 0] ++ valueBytes p)
  | .reply l => l
  | .abandoned i g dr => pad8 [0x41, natByte i.val, g, Result.abandoned.code, if dr then 0 else 1]
  | .mode m c => pad8 [0x45, m.code, c.code]
  | .award i g a => pad8 ([0x40, natByte i.val, g, a.reason.code] ++ valueBytes a.grant)

/-- The identifier of a sent frame: B + 0x20 + node, or B + 0x3F for a broadcast (R146). -/
def TxFrame.ident (base : Int) (f : TxFrame) : Int :=
  match f.dest with
  | .node n => base + 0x20 + n
  | .broadcast => base + 0x3F

end Sys2Proof.Machine
end

