-- ==== Sys2Proof/Machine/Flags.lean ====
section
/-! DEFINITION. The flag computations: the CRC, the link status byte, the ATTN line, the masks and flag bytes of
replies. -/

namespace Sys2Proof.Machine

/-! ## CRC-8 (R162) -/

/-- One bit of the CRC: shift left, and xor the polynomial x⁸+x⁵+x³+x²+x+1 where a one is shifted out. -/
def crcBit (c : Byte) : Byte := if c.getLsbD 7 then (c <<< 1) ^^^ 0x2F else c <<< 1

/-- The CRC register after one byte. -/
def crcByte (c b : Byte) : Byte := crcBit (crcBit (crcBit (crcBit (crcBit (crcBit (crcBit (crcBit (c ^^^ b))))))))

/-- The CRC-8 of R162: initial value 0xFF, no reflection, final exclusive-or with 0xFF. -/
def crc8 (l : List Byte) : Byte := l.foldl crcByte 0xFF ^^^ 0xFF

/-! ## ATTN (R166) -/

/-- A notice kind whose enable is set has an entry; enable bit k − 1 belongs to kind k (R173). -/
def enabledNotice (n : NoticeSet) (enables : BitVec 7) : Bool :=
  NoticeKind.all.any fun k => (n.get k).isSome && enables.getLsbD (k.number - 1)

/-- The reply at the head entered the Reply FIFO more than 2 ms ago (R166; log 25). -/
def headOverdue (now : Nat) (replies : List ReplyEntry) : Bool :=
  match replies with
  | [] => false
  | r :: _ => r.aged || 2 < now - r.enteredAt

/-- The ATTN line (R141, R166). -/
def Device.attn (d : Device) : Bool :=
  d.mc.mode ≠ .sleep &&
    (d.cs.replyTrigger ≤ d.sl.replies.length || headOverdue d.now d.sl.replies ||
      enabledNotice d.sl.notices d.cs.noticeEnables)

/-! ## Link status byte (R165, R173) -/

def bit (b : Bool) (n : Nat) : Byte := if b then BitVec.twoPow 8 n else 0

/-- The link status byte with the marks of the presented entry. -/
def statusByte (d : Device) (lost rep : Bool) : Byte :=
  bit d.attn 7 ||| bit rep 6 ||| bit lost 5 ||| bit d.sl.frameError 4 ||| bit d.sl.crcError 3 ||| bit d.sl.overrun 2

/-- A reply frame: status, kind, tag, result, length m, payload, and the CRC over the copy as composed (R161, R173). -/
def replyBytes (status kind tag result : Byte) (payload : List Byte) : List Byte :=
  let body := [status, kind, tag, result, natByte payload.length] ++ payload
  body ++ [crc8 body]

/-- The reply in presentation taken at a chip select fall: a copy of the head of the Reply FIFO, or the IDLE reply
(R161). -/
def present (d : Device) : Presented :=
  match d.sl.replies with
  | [] => { bytes := replyBytes (statusByte d false false) 0 0 Result.ok.code [], source := .idle }
  | r :: _ =>
    { bytes := replyBytes (statusByte d r.lostMark r.repeatMark) r.kind r.tag r.result r.payload, source := .head }

/-- The byte that MISO carries at place `k` of a transaction (R161): while chip select is low the bytes of the reply in
presentation in order, then 0x00, and 0x00 throughout where SLEEP entry has made that reply none; `none` while chip select
is high, where MISO is high-impedance. -/
def Link.miso (l : Link) (k : Nat) : Option Byte :=
  if l.csLow then some (byteAt ((l.presented.map (·.bytes)).getD []) k) else none

/-! ## Flag bytes of replies -/

/-- The result flags byte of the Split Result Record (R173). -/
def SplitResult.flags (r : SplitResult) : Byte :=
  bit r.tractionCut 0 ||| bit r.tier0Short 1 ||| bit r.regenCutFlag 2 ||| bit r.offpoint 3 ||| bit r.boundDefaulted 4 |||
    bit r.socStale 5 ||| bit r.socDefaulted 6

/-- The Split Result Record as RESULT_READ carries it (R173). -/
def SplitResult.bytes (r : SplitResult) : List Byte :=
  halfBytes r.passNumber ++ [r.mode.code, r.genset.code] ++
    ([r.bd, r.bc, r.gav, r.md, r.mr, r.s, r.speed, r.d, r.tm, r.p, r.tg, r.regenCut, r.n, r.pp, r.gd, r.gset,
      r.pb].flatMap valueBytes) ++
    [r.flags, natByte r.runCount]

/-- The mask of notice kinds still pending: bit k − 1 for kind k (R168; log 30). -/
def NoticeSet.mask (n : NoticeSet) : Byte :=
  NoticeKind.all.foldl (fun m k => m ||| bit (n.get k).isSome (k.number - 1)) 0

/-- The notice entry of highest priority (R168). -/
def NoticeSet.top (n : NoticeSet) : Option NoticeKind := NoticeKind.all.find? fun k => (n.get k).isSome

end Sys2Proof.Machine
end

