-- ==== Sys2Proof/Machine/Genset.lean ====
section
/-! DEFINITION. The Genset Sequencer (chapter 6): its orders, its transitions, its evaluation at a pass completion, and
the commands that are its timers' expiries and the engine's reports. -/

namespace Sys2Proof.Machine

/-! ## Times of R108 in ms, as read when a timer starts -/

def ConfigSet.crankMs (c : ConfigSet) : Nat := c.crankTimeout.toNat * 100

def ConfigSet.warmMs (c : ConfigSet) : Nat := c.warmTimeMax.toNat * 1000

def ConfigSet.cooldownMs (c : ConfigSet) : Nat := c.cooldown.toNat * 1000

def ConfigSet.minOnMs (c : ConfigSet) : Nat := c.minOnTime.toNat * 1000

def ConfigSet.minOffMs (c : ConfigSet) : Nat := c.minOffTime.toNat * 1000

/-- The acknowledgement timer runs for 100 ms (R110). -/
def ackMs : Nat := 100

/-! ## Orders (R110, R112) -/

/-- An ORDER frame handed for the engine peer; where no engine peer is enrolled there is no node to address and nothing
is queued (R110, R124; log 21). The Boolean says whether it was queued. -/
def handToEngine (sort : TxFrame → Bool) (body : TxBody) (d : Device) : Device × Bool :=
  match d.enginePeer with
  | some n => handOrder sort { dest := .node n, body := body } d
  | none => (d, false)

/-- A START or STOP is issued (R110). -/
def issueOrder (k : OrderKind) (d : Device) : Device :=
  (handToEngine TxFrame.isOrder (.order k (d.gs.seq + 1))
    (d.withGs { d.gs with
      seq := d.gs.seq + 1, inFlight := some { kind := k, seq := d.gs.seq + 1, resends := 0, timer := ackMs } })).1

/-- The order in flight handed again with its own sequence (R111). -/
def handOrderAgain (o : InFlight) (d : Device) : Device :=
  (handToEngine TxFrame.isOrder (.order o.kind o.seq) d).1

/-- A SETPOINT carrying the setpoint in force is handed; the last setpoint sent takes its value when the frame is queued
(R112). -/
def sendSetpoint (d : Device) : Device :=
  match handToEngine TxFrame.isSetpoint (.setpoint d.gs.setpoint) d with
  | (d', true) => d'.withGs { d'.gs with lastSent := some d'.gs.setpoint }
  | (d', false) => d'

/-- A SETPOINT is sent where the setpoint in force differs from the last one sent, or that is unknown (R112). -/
def sendSetpointIfNew (d : Device) : Device :=
  if d.gs.lastSent = some d.gs.setpoint then d else sendSetpoint d

/-! ## Transitions -/

/-- Entry into OFF (R108, R112, R114). -/
def enterOff (d : Device) : Device :=
  d.withGs { d.gs with
    state := .off, setpoint := 0, crankTimer := .stopped, warmTimer := .stopped, cooldownTimer := .stopped,
    minOn := .stopped, minOff := .start d.cs.minOffMs, noEngine := false }

/-- Entry into LOCKOUT (R108, R112). -/
def enterLockout (d : Device) : Device :=
  d.withGs { d.gs with
    state := .lockout, setpoint := 0, crankTimer := .stopped, warmTimer := .stopped, cooldownTimer := .stopped,
    minOn := .stopped }

/-- A STOP is issued, the genset enters OFF and the min-off timer starts (R116, R120, R121). -/
def stopToOff (d : Device) : Device := enterOff (issueOrder .stop d)

/-- Entry into CRANKING (R114). -/
def enterCranking (d : Device) : Device :=
  let d := issueOrder .start d
  d.withGs { d.gs with state := .cranking, crankTimer := .running d.cs.crankMs, noEngine := false }

/-- Entry into RUNNING: the warm timer stops and a SETPOINT is sent (R112, R117). -/
def enterRunning (d : Device) : Device :=
  sendSetpoint (d.withGs { d.gs with state := .running, warmTimer := .stopped })

/-- Entry into WARMUP: the warm timer starts and a SETPOINT is sent; with a warm time max of 0 RUNNING is entered in the
same act (R117). -/
def enterWarmup (d : Device) : Device :=
  let d := sendSetpoint (d.withGs { d.gs with state := .warmup, warmTimer := .start d.cs.warmMs })
  if d.cs.warmMs = 0 then enterRunning d else d

/-- The coolant is present and at or above the warm threshold, on the Bound Combiner's held state (R74, R77). -/
def Device.coolantWarm (d : Device) : Bool := d.bc.coolantPresent && d.cs.warmThreshold ≤ d.bc.coolant

/-- A RUNNING report acted on in CRANKING (R115). -/
def engineStarted (d : Device) : Device :=
  let d := d.withGs { d.gs with
    crankTimer := .stopped, crankCount := 0, minOn := .start d.cs.minOnMs, setpoint := 0 }
  if d.coolantWarm then enterRunning d else enterWarmup d

/-- A start has failed (R115). -/
def startFailed (d : Device) : Device :=
  let d := issueOrder .stop d
  let d := d.withGs { d.gs with crankTimer := .stopped, crankCount := d.gs.crankCount + 1 }
  if (d.gs.crankCount : Int) = d.cs.crankLimit then raiseGensetFault .lockout (enterLockout d) else enterOff d

/-- Entry into COOLDOWN with a cooldown time in ms; a time of 0 is left in the same act (R112, R118). -/
def enterCooldown (ms : Nat) (d : Device) : Device :=
  let d := sendSetpointIfNew (d.withGs { d.gs with
    state := .cooldown, warmTimer := .stopped, minOn := .stopped, setpoint := 0 })
  if ms = 0 then stopToOff d else d.withGs { d.gs with cooldownTimer := .running ms }

/-- The mode-change stop that the Mode Controller hands over (R120). -/
def modeChangeStop (d : Device) : Device :=
  match d.gs.state with
  | .cranking | .cooldown => stopToOff d
  | .warmup | .running => enterCooldown 0 d
  | .off | .lockout => d

/-- The engine has stopped without a STOP order (R122). -/
def stall (d : Device) : Device := enterOff (raiseGensetFault .stall d)

/-- The Sequencer has lost its engine peer (R124). -/
def loseEnginePeer (d : Device) : Device :=
  let d := d.withGs { d.gs with inFlight := none }
  match d.gs.state with
  | .cranking | .warmup | .running | .cooldown =>
    let d := raiseGensetFault .noEngine (enterOff d)
    d.withGs { d.gs with noEngine := true }
  | .off | .lockout => d

/-! ## Evaluation at a pass completion (R113) -/

/-- What the Split Engine hands the Sequencer at a completion (R106). -/
structure Handed where
  gset : Power
  n : Power
  pp : Power
  runCount : Nat
  mode : Mode
  deriving DecidableEq, Repr

/-- The start wish (R114), the enrolment of an engine peer apart. -/
def startWish (h : Handed) (d : Device) : Bool :=
  h.mode = .drive && d.mc.mode = .drive && d.bc.permit && d.gs.minOff = .elapsed && d.gs.force ≠ .off &&
    (d.bc.s ≤ d.cs.sStart || 3 ≤ h.runCount || d.gs.force = .on)

/-- The start wish acted on in OFF (R114). -/
def evaluateOff (h : Handed) (d : Device) : Device :=
  if startWish h d then
    if d.enginePeer.isSome then enterCranking d
    else if d.gs.noEngine then d
    else
      let d := raiseGensetFault .noEngine d
      d.withGs { d.gs with noEngine := true }
  else d

/-- The ordinary stop wish (R119). -/
def stopWish (h : Handed) (d : Device) : Bool :=
  d.gs.minOn = .elapsed && d.cs.sStop ≤ d.bc.s && h.runCount = 0 && h.n - h.pp ≤ 0 && d.gs.force ≠ .on

/-- The setpoint of a completion in WARMUP or RUNNING (R112). -/
def takeSetpoint (h : Handed) (d : Device) : Device :=
  sendSetpointIfNew (d.withGs { d.gs with setpoint := h.gset })

/-- The Sequencer's evaluation at a pass completion (R113): the first item that causes a transition ends it. -/
def evaluate (h : Handed) (d : Device) : Device :=
  match d.gs.state with
  | .off => evaluateOff h d
  | .cranking => if !d.bc.permit || d.gs.force = .off then stopToOff d else d
  | .warmup =>
    if !d.bc.permit then enterCooldown 0 d
    else if d.gs.force = .off then enterCooldown d.cs.cooldownMs d
    else if stopWish h d then enterCooldown d.cs.cooldownMs d
    else if d.coolantWarm then enterRunning d
    else takeSetpoint h d
  | .running =>
    if !d.bc.permit then enterCooldown 0 d
    else if d.gs.force = .off then enterCooldown d.cs.cooldownMs d
    else if stopWish h d then enterCooldown d.cs.cooldownMs d
    else takeSetpoint h d
  | .cooldown => if !d.bc.permit then stopToOff d else d
  | .lockout => d

/-! ## Reports (R109, R115, R122, R123) -/

/-- A report acted on, according to the genset state. -/
def actOnReport (e : EngineState) (d : Device) : Device :=
  match d.gs.state with
  | .cranking =>
    match e with
    | .cranking => d
    | .running => engineStarted d
    | .stopped | .stalled => startFailed d
  | .warmup | .running | .cooldown =>
    match e with
    | .running | .cranking => d
    | .stopped | .stalled => stall d
  | .off | .lockout =>
    match e with
    | .running | .cranking => issueOrder .stop (raiseGensetFault .unexpectedRun d)
    | .stopped | .stalled => d

/-- A report taken by the Sequencer: matched against the order in flight, and acted on unless it is stale (R109, R110). -/
def takeReport (echo : Byte) (e : EngineState) (d : Device) : Device :=
  match d.gs.inFlight with
  | none => actOnReport e d
  | some o => if o.seq = echo then actOnReport e (d.withGs { d.gs with inFlight := none }) else d

/-- The node holds the ENGINE role in the roster (R149). -/
def Device.isEngine (d : Device) (node : Nat) : Bool := d.enginePeer = some node

/-- What a report frame that has left the receive buffer does: it goes to the Sequencer where its node holds the ENGINE
role, it is long enough and its engine state is known; otherwise it is discarded (R109, R146, R149). -/
def deliverReport (f : RxFrame) (d : Device) : Device :=
  if d.isEngine f.node && 3 ≤ f.data.length then
    match EngineState.ofByte (byteAt f.data 2) with
    | some e => takeReport (byteAt f.data 1) e d
    | none => d
  else d

/-- ENGINE_REPORT: the oldest report frame of the receive buffer is taken (R109, R148). -/
def engineReport (d : Device) : Device :=
  match d.vbp.rx.find? isReportFrame with
  | some f => deliverReport f (d.withVbp { d.vbp with rx := d.vbp.rx.eraseP isReportFrame })
  | none => d

/-! ## Timer expiries -/

/-- The crank timer expires (R115). -/
def crankExpiry (d : Device) : Device := if d.gs.crankTimer.isRunning then startFailed d else d

/-- The warm timer expires (R117). -/
def warmExpiry (d : Device) : Device := if d.gs.warmTimer.isRunning then enterRunning d else d

/-- The cooldown timer expires (R121). -/
def cooldownExpiry (d : Device) : Device := if d.gs.cooldownTimer.isRunning then stopToOff d else d

/-- The min-on timer expires (R108). -/
def minOnExpiry (d : Device) : Device :=
  if d.gs.minOn.isRunning then d.withGs { d.gs with minOn := .elapsed } else d

/-- The min-off timer expires (R108). -/
def minOffExpiry (d : Device) : Device :=
  if d.gs.minOff.isRunning then d.withGs { d.gs with minOff := .elapsed } else d

/-- The acknowledgement timer of the order in flight expires (R111). A resend count above the limit, met where the limit is
lowered with an order in flight, is treated as one at the limit (DESIGN CHOICE, log 27). -/
def ackExpiry (d : Device) : Device :=
  match d.gs.inFlight with
  | none => d
  | some o =>
    if (o.resends : Int) < d.cs.orderRetryLimit then
      handOrderAgain o
        (d.withGs { d.gs with inFlight := some { o with resends := o.resends + 1, timer := ackMs } })
    else
      let d := enterLockout d
      raiseGensetFault .orderUnacked
        (d.withGs { d.gs with inFlight := none, crankCount := d.cs.crankLimit.toNat })

/-! ## Supervisor requests -/

/-- What a FORCE_GENSET does at once (R126). -/
def applyForce (f : Force) (d : Device) : Device :=
  let d := d.withGs { d.gs with force := f }
  match f with
  | .off =>
    match d.gs.state with
    | .cranking => stopToOff d
    | .warmup | .running => enterCooldown d.cs.cooldownMs d
    | .off | .cooldown | .lockout => d
  | .auto | .on => d

/-- What a CLEAR_LOCKOUT does (R127). -/
def clearLockout (d : Device) : Device :=
  if d.gs.state = .lockout then enterOff (d.withGs { d.gs with crankCount := 0 }) else d

/-- The payload of the replies to FORCE_GENSET and CLEAR_LOCKOUT (R126, R127). -/
def Device.gensetPayload (d : Device) : List Byte :=
  [d.gs.state.code, natByte d.gs.crankCount, d.gs.force.code]

/-- The crank failure count adjusted to a new crank limit (R128). -/
def adjustCrankCount (limit : Int) (g : Genset) : Genset :=
  match g.state with
  | .lockout => { g with crankCount := limit.toNat }
  | .off => if limit ≤ g.crankCount then { g with crankCount := limit.toNat - 1 } else g
  | _ => g

/-- The Sequencer at SLEEP entry (R107). -/
def Genset.asleep (g : Genset) : Genset :=
  { g with
    force := .auto, inFlight := none, setpoint := 0, lastSent := none, crankTimer := .stopped, warmTimer := .stopped,
    cooldownTimer := .stopped, minOn := .stopped, minOff := .elapsed, noEngine := false }

/-- What a BUS_RESTART has the Sequencer do: hand its order in flight again, and mark the last setpoint sent as unknown
(R111, R112, R159). -/
def gensetBusRestart (d : Device) : Device :=
  let d := d.withGs { d.gs with lastSent := none }
  match d.gs.inFlight with
  | some o => handOrderAgain o (d.withGs { d.gs with inFlight := some { o with timer := ackMs } })
  | none => d

end Sys2Proof.Machine
end

