-- ==== Sys2Proof/Machine/Access.lean ====
section
/-! DEFINITION. The Record Access Unit: which request it takes (R25, R26), the common checks (R28) and the reply (R29). -/

namespace Sys2Proof.Machine

/-- A port's eligible request (R25), with what its reply echoes: the kind, the tag of an SPI frame, and for a CAN frame
the reply's first byte where the manual states it. -/
structure Offer where
  port : Port
  who : Nat
  row : RauRow
  req : RecordRequest
  kind : Byte
  tag : Byte
  canKind : Option Byte
  deriving DecidableEq, Repr

/-- The Supervisor Link's eligible request: the head frame, when it is an accepted record request; none in mirror mode
(R25, R170). -/
def linkOffer (d : Device) : Option Offer :=
  if d.sl.mirror then none
  else
    match d.sl.requests with
    | [] => none
    | f :: _ =>
      (f.accepted.bind fun k => parseLinkRequest k f.payload).map fun q =>
        { port := .link, who := 0, row := q.row, req := q, kind := f.kind, tag := f.tag, canKind := none }

/-- The first byte of a CAN reply, 0x80 plus the request kind, where that fits a byte (R173; log 8). -/
def canReplyKind : List Byte → Option Byte
  | [] => none
  | k :: _ => if k.toNat < 0x80 then some (k + 0x80) else none

/-- The Vehicle Bus Port's eligible request: the oldest record request, while the transmit queue has room (R25). -/
def busOffer (d : Device) : Option Offer :=
  if d.txRoom then
    (d.vbp.rx.find? isRecordFrame).map fun f =>
      { port := .bus, who := f.node, row := canRow f.data, req := parseCanRequest f.data, kind := byteAt f.data 0,
        tag := 0, canKind := canReplyKind f.data }
  else none

/-- The request that the Record Access Unit takes next: that of the port named by the turn, else the other port's
(R26). -/
def rauOffer (d : Device) : Option Offer :=
  match d.rau.turn with
  | .link => (linkOffer d).or (busOffer d)
  | .bus => (busOffer d).or (linkOffer d)

def Port.other : Port → Port
  | .link => .bus
  | .bus => .link

/-- The offered frame leaves its port, and the port turn names the other port (R26). -/
def consume (o : Offer) (d : Device) : Device :=
  let d :=
    match o.port with
    | .link => d.withSl { d.sl with requests := d.sl.requests.tail }
    | .bus => d.withVbp { d.vbp with rx := d.vbp.rx.eraseP isRecordFrame }
  d.withRau { d.rau with turn := o.port.other }

/-- What a reply to a record request carries on either port: the result, the SPI payload, the CAN handle bytes, and the
CAN bytes 4 to 7. -/
structure RauReply where
  result : Result
  link : List Byte
  handle : Byte × Byte
  bus : List Byte
  deriving DecidableEq, Repr

/-- A reply whose CAN form has the handle, the result and nothing more, with an SPI payload. -/
def RauReply.plain (r : Result) (slot gen : Byte) : RauReply :=
  { result := r, link := [slot, gen], handle := (slot, gen), bus := [] }

/-- The open part of an SPI payload after `fixed` stated bytes (log 6); a payload holds at most 60 bytes (R173). -/
def openTail (d : Device) (fixed : Nat) : List Byte := (Config.freeTail d.draws).take (60 - fixed)

/-- The open CAN bytes 4 to 7 (log 6). -/
def openBus (d : Device) : List Byte :=
  [Config.freeByte d.draws 4, Config.freeByte d.draws 5, Config.freeByte d.draws 6, Config.freeByte d.draws 7]

/-- The CAN bytes after the result in the refusal of a request of row `row`: where the layout of the kind's reply has items
there, the manual does not state them for a refusal, so they are open, a request too short for its kind included (R173; log
6); the other kinds' bytes are filling. -/
def openItems (row : RauRow) (d : Device) : List Byte :=
  match row with
  | .claim | .amend | .amendCommit | .commit | .release | .purge | .unknown => []
  | .renew | .renewWithValue | .query | .queryField => openBus d
  | .lookup => (openBus d).take 1

/-- The reply to a refused request: the result, the handle the request names, and the items of the kind's layout that
the manual does not state for a refusal left open (R29, R173; log 6, log 10). A CAN request too short for its kind is taken
to name no handle: it is answered with slot 0 and generation 0, whatever bytes it has (DESIGN CHOICE, log 10). -/
def refusal (o : Offer) (r : Result) (d : Device) : RauReply :=
  match o.req with
  | .claim _ _ _ | .lookup _ _ | .short =>
    { result := r, link := openTail d 0, handle := (0, 0), bus := openItems o.row d }
  | .amend s g _ _ | .renew s g _ =>
    { result := r, link := [s, g] ++ openTail d 2, handle := (s, g), bus := openItems o.row d }
  | .commit s g | .release s g | .purge s g => .plain r s g
  | .query s _ =>
    { result := r, link := openTail d 0,
      handle := if h : s.toNat < 48 then (s, (d.slot ⟨s.toNat, h⟩).generation) else (0, 0), bus := openItems o.row d }

/-- The reply placed on the request's port (R29), and one free value drawn (log 6). -/
def answer (o : Offer) (r : RauReply) (d : Device) : Device :=
  match o.port with
  | .link => placeReply o.kind o.tag r.result.code r.link d.draw
  | .bus =>
    handFrame .reply
      { dest := .node o.who,
        body := .reply (pad8 ([o.canKind.getD (Config.freeByte d.draws 0), r.handle.1, r.handle.2, r.result.code] ++ r.bus)) }
      d.draw

/-- The Record Access Unit takes the offered request where it is of the command's row: enrolment and length are checked
(R28), the request's own act decides the rest, and the reply is placed, all as one act (R24, R29). Where the request
offered is of another row, or none is offered, the command does not take place (log 1). -/
def takeRecord (row : RauRow) (act : Offer → Device → Device × RauReply) (d : Device) : Device :=
  match rauOffer d with
  | none => d
  | some o =>
    if o.row = row then
      let d := consume o d
      if o.port = .bus && !d.enrolled o.who then answer o (refusal o .notEnrolled d) d
      else if o.req = .short then answer o (refusal o .badRequest d) d
      else answer o (act o d).2 (act o d).1
    else d

/-- The slot a handle designates (R7, R28): BAD_REQUEST above slot 47, BAD_HANDLE where the slot is FREE or its
generation differs. -/
def checkHandle (slot gen : Byte) (d : Device) : Except Result SlotNo :=
  if h : slot.toNat < 48 then
    if (d.slot ⟨slot.toNat, h⟩).content.isFree || (d.slot ⟨slot.toNat, h⟩).generation ≠ gen then .error .badHandle
    else .ok ⟨slot.toNat, h⟩
  else .error .badRequest

/-- The slot a handle designates for its owner (R28). -/
def checkOwned (who : Nat) (slot gen : Byte) (d : Device) : Except Result SlotNo :=
  match checkHandle slot gen d with
  | .error r => .error r
  | .ok i => if (d.slot i).content.owner? = some who then .ok i else .error .notOwner

/-- Whether some slot satisfies `p`. -/
def anySlot (p : Slot → Bool) (d : Device) : Bool := (List.finRange 48).any fun i => p (d.slot i)

/-- The lowest-numbered slot that satisfies `p`. -/
def findSlot (p : SlotNo → Slot → Bool) (d : Device) : Option SlotNo := (List.finRange 48).find? fun i => p i (d.slot i)

end Sys2Proof.Machine
end

