-- ==== Sys2Proof/Machine/Head.lean ====
section
/-! DEFINITION. Taking a request other than a record request from the head of the Request FIFO (R163), in one act with
its reply (R164). -/

namespace Sys2Proof.Machine

/-- What a request's reply carries beside the echoed kind and tag. -/
structure LinkReply where
  result : Result
  payload : List Byte
  deriving DecidableEq, Repr

/-- What taking a request comes to: the device after it and the reply placed in the same act, or `none` where the reply
is placed later (R140). -/
structure Taken where
  dev : Device
  reply : Option LinkReply
  deriving DecidableEq, Repr

/-- A request answered with a result and a payload. -/
def Device.answered (d : Device) (r : Result) (p : List Byte) : Taken := { dev := d, reply := some { result := r, payload := p } }

/-- The frame at the head of the Request FIFO leaves it. -/
def dropHead (d : Device) : Device := d.withSl { d.sl with requests := d.sl.requests.tail }

/-- The reply to a request placed with its kind and tag echoed (R164), and one free value drawn (log 6). -/
def finish (f : SpiRequest) (t : Taken) : Device :=
  match t.reply with
  | some r => placeReply f.kind f.tag r.result.code r.payload t.dev.draw
  | none => t.dev

/-- The frame at the head of the Request FIFO taken where it satisfies `mine`, in one act with its reply. Where it does
not, or the FIFO is empty, the command does not take place (log 1). -/
def takeHead (mine : Link → SpiRequest → Bool) (act : SpiRequest → Device → Taken) (d : Device) : Device :=
  match d.sl.requests with
  | [] => d
  | f :: _ => if mine d.sl f then finish f (act f (dropHead d)) else d

/-- A frame is taken by the block that owns its kind where the link accepts it (R163) and mirror mode is off; MIRROR and
LINK_RESET are taken in mirror mode too (R170). -/
def takenAs (k : ReqKind) (l : Link) (f : SpiRequest) : Bool :=
  f.accepted = some k && (!l.mirror || k = .mirror || k = .linkReset)

/-- A request of the given kind taken from the head. -/
def takeRequest (k : ReqKind) (act : SpiRequest → Device → Taken) : Device → Device := takeHead (takenAs k) act

end Sys2Proof.Machine
end

