-- ==== Sys2Proof/Machine/Modes.lean ====
section
/-! DEFINITION. The Mode Controller (chapter 7): its transitions, the KEY input, the park timers, START_DRIVE and
SLEEP. -/

namespace Sys2Proof.Machine

/-! ## Entries into a mode -/

/-- The NOT_NOW reply to a SLEEP request carries the mode and the genset state (R140). -/
def Device.modePayload (d : Device) : List Byte := [d.mc.mode.code, d.gs.state.code]

/-- A pending SLEEP cancelled: where a request set it, that request is answered NOT_NOW (R132, R140; log 24). -/
def cancelSleep (p : Option SleepCause) (d : Device) : Device :=
  match p with
  | some (.request t) => placeReply ReqKind.sleep.code t Result.notNow.code d.modePayload d
  | _ => d

/-- The split timer started for a time in ms. -/
def startSplit (ms : Nat) (d : Device) : Device := d.withSe { d.se with timer := .running ms }

/-- Entry into DRIVE (R132), with the cause that its broadcast carries (R133). -/
def driveEntry (c : ModeCause) (d : Device) : Device :=
  let p := d.mc.sleepPending
  let d := d.withMc { d.mc with mode := .drive, parkTimer := .stopped, floorTimer := .stopped, sleepPending := none }
  broadcastMode .drive c (cancelSleep p (startSplit 10 d))

/-- Park entry (R134). One made while the set of an earlier one waits leaves one set waiting, executed once (DEDUCED, log
17). -/
def parkEntry (d : Device) : Device :=
  let d := modeChangeStop d
  let d := d.withRau { d.rau with parkEntrySet := true }
  let d := d.withMc { d.mc with
    mode := .park, parkTimer := .start (d.cs.parkTimeMax.toNat * 60000), floorTimer := .stopped }
  broadcastMode .park .key d

/-- The Vehicle Bus Port at SLEEP entry (R139, R145). -/
def BusPort.asleep (c : SleepCause) (v : BusPort) : BusPort :=
  { emptyBusQueues v with
    roster := [], ctrl := .listening, txErrors := 0, busSilence := .stopped,
    tx := { TxQueue.cleared with modes := [{ dest := .broadcast, body := .mode .sleep c.modeCause }] } }

/-- The SLEEP reply as it enters the emptied Reply FIFO (R140). -/
def SleepCause.reply (c : SleepCause) (now : Nat) : ReplyEntry :=
  .enter ReqKind.sleep.code c.tag Result.ok.code [c.modeCause.code] false now

/-- The Supervisor Link at SLEEP entry (R139, R160). -/
def Link.asleep (c : SleepCause) (now : Nat) (l : Link) : Link :=
  { l with
    requests := [], replies := [c.reply now], overrun := false, crcError := false, frameError := false,
    lostReply := false, presented := none, notices := .cleared, mirror := false }

/-- SLEEP entry (R139). -/
def sleepEntry (c : SleepCause) (d : Device) : Device :=
  { d with
    tbl := .cleared, rau := .cleared, rta := Vector.replicate 48 .cleared, bc := .cleared, se := .cleared,
    gs := d.gs.asleep,
    mc := { d.mc with mode := .sleep, parkTimer := .stopped, floorTimer := .stopped, sleepPending := none },
    vbp := d.vbp.asleep c, sl := d.sl.asleep c d.now }

/-- A SLEEP cause taken in PARK (R138): the entry is made at once between passes; while a pass is in flight the mark is
set, and the first cause is kept. -/
def sleepCause (c : SleepCause) (d : Device) : Device :=
  match d.se.pass with
  | none => sleepEntry c d
  | some _ => d.withMc { d.mc with sleepPending := d.mc.sleepPending.or (some c) }

/-- The pending SLEEP entry made after a completion (R138). -/
def sleepIfPending (d : Device) : Device :=
  match d.mc.sleepPending with
  | some c => sleepEntry c d
  | none => d

/-- A wake (R142). -/
def wake (c : ModeCause) (d : Device) : Device :=
  let d := d.withMc { d.mc with mode := .standby }
  let d := d.withVbp { d.vbp with ctrl := .active, busSilence := .stopped }
  broadcastMode .standby c d

/-! ## Commands -/

/-- DEVICE_RESET (R22 and each block's table): every block takes its device-reset values. The count of free values drawn
is the model's own and goes on (log 6). -/
def deviceReset (rawKey : Bool) (straps : SpiMode) (d : Device) : Device :=
  (Device.afterReset rawKey straps).withDraws d.draws

/-- What a START_DRIVE refused in STANDBY names: 1 KEY, 2 VALID, 3 both (R131, R173). -/
def failedCondition (d : Device) : Byte :=
  if d.mc.key then 2 else if d.cs.valid then 1 else 3

/-- START_DRIVE (R131). A NOT_NOW carries the failed condition in STANDBY and the mode and genset state elsewhere, the two
items that R173 gives it (DEDUCED, log 34; SLEEP is a state that no run reaches here, log 27). -/
def startDriveAct (_ : SpiRequest) (d : Device) : Taken :=
  match d.mc.mode with
  | .standby =>
    if d.mc.key && d.cs.valid then (driveEntry .request d).answered .ok [] else d.answered .notNow [failedCondition d]
  | .drive => d.answered .ok []
  | .park | .sleep => d.answered .notNow d.modePayload

def startDrive : Device → Device := takeRequest .startDrive startDriveAct

/-- The genset is OFF or in LOCKOUT. -/
def GensetState.atRest : GensetState → Bool
  | .off | .lockout => true
  | _ => false

/-- SLEEP (R138, R140). -/
def sleepAct (f : SpiRequest) (d : Device) : Taken :=
  match d.mc.mode with
  | .park =>
    match d.mc.sleepPending with
    | some c => d.answered .ok [c.modeCause.code]
    | none =>
      if d.gs.state.atRest then { dev := sleepCause (.request f.tag) d, reply := none }
      else d.answered .notNow d.modePayload
  | .standby | .drive | .sleep => d.answered .notNow d.modePayload

def sleepRequest : Device → Device := takeRequest .sleep sleepAct

/-- The raw level of the KEY input changes (R130). A change to the level that stands already is none. -/
def keyChange (level : Bool) (d : Device) : Device :=
  if level = d.mc.rawKey then d
  else
    d.withMc { d.mc with
      rawKey := level,
      deglitchTimer := if level = d.mc.key then .stopped else .running d.cs.keyDeglitch.toNat }

/-- A KEY on or KEY off event (section 7.2). -/
def keyEvent (on : Bool) (d : Device) : Device :=
  match d.mc.mode, on with
  | .drive, false => parkEntry d
  | .park, true => driveEntry .key d
  | .sleep, true => wake .key d
  | _, _ => d

/-- The deglitch timer expires (R130). -/
def deglitchExpiry (d : Device) : Device :=
  if d.mc.deglitchTimer.isRunning then
    keyEvent d.mc.rawKey (d.withMc { d.mc with key := d.mc.rawKey, deglitchTimer := .stopped })
  else d

/-- The park timer expires (R136, R138). -/
def parkExpiry (d : Device) : Device :=
  if d.mc.parkTimer.isRunning then
    let d := d.withMc { d.mc with parkTimer := .stopped }
    if d.mc.mode = .park then sleepCause .parkTime d else d
  else d

/-- The floor timer expires (R137, R138). -/
def floorExpiry (d : Device) : Device :=
  if d.mc.floorTimer.isRunning then
    let d := d.withMc { d.mc with floorTimer := .stopped }
    if d.mc.mode = .park then sleepCause .parkFloor d else d
  else d

/-- The floor timer runs for 60 s (R137). -/
def floorMs : Nat := 60000

/-- The floor timer after the comparison made at a completion (R137). -/
def floorTimerAfter (s floor : Int) (t : Timer) : Timer :=
  if s ≤ floor then (if t.isRunning then t else .running floorMs) else .stopped

/-- The floor timer check at a completion in PARK of a pass whose snapshot mode was PARK (R137). -/
def floorCheck (snapMode : Mode) (d : Device) : Device :=
  if snapMode = .park && d.mc.mode = .park then
    d.withMc { d.mc with floorTimer := floorTimerAfter d.bc.s d.cs.parkFloor d.mc.floorTimer }
  else d

end Sys2Proof.Machine
end

