-- ==== Sys2Proof/Machine/Bus.lean ====
section
/-! DEFINITION. The Vehicle Bus Port (chapter 8): frames received and sent, the roster, awards leaving their queue,
bus-off and the supervisor's requests to the port. -/

namespace Sys2Proof.Machine

/-! ## HELLO (R150) -/

/-- What a HELLO comes to by R150's table: its result, and whether it enrols the node or changes its role. -/
inductive HelloOutcome where
  | refused (r : Result)
  | enrol (role : Role)
  | keep
  | change (role : Role)
  deriving DecidableEq, Repr

/-- The ENGINE role is asked for and held by another node. -/
def engineTaken (d : Device) (node : Nat) (role : Role) : Bool :=
  role = .engine && d.enginePeer.isSome && !d.isEngine node

/-- The role a HELLO carries; none where it is too short or the code is unknown (R146). -/
def helloRole (data : List Byte) : Option Role := if data.length < 2 then none else Role.ofByte (byteAt data 1)

/-- R150's table. -/
def helloOutcome (d : Device) (f : RxFrame) : HelloOutcome :=
  match helloRole f.data with
  | none => .refused .badRequest
  | some role =>
    match d.entryOf f.node with
    | none =>
      if 16 ≤ d.vbp.roster.length then .refused .rosterFull
      else if engineTaken d f.node role then .refused .duplicate
      else .enrol role
    | some e =>
      if engineTaken d f.node role then .refused .duplicate
      else if e.role = role then .keep
      else .change role

def HelloOutcome.result : HelloOutcome → Result
  | .refused r => r
  | .enrol _ | .keep | .change _ => .ok

/-- A role taken: an entry created or changed to role ENGINE clears the no-engine mark (R114, R150). -/
def roleTaken (role : Role) (d : Device) : Device :=
  if role = .engine then d.withGs { d.gs with noEngine := false } else d

/-- A roster entry at enrolment: JOINED, its silence timer started (R150, R151). -/
def RosterEntry.new (node : Nat) (role : Role) (timeout : Nat) : RosterEntry :=
  { node := node, role := role, state := .joined, timeout := timeout, silence := 0 }

/-- A node enrolled (R150). -/
def enrol (node : Nat) (role : Role) (d : Device) : Device :=
  let d := d.withVbp { d.vbp with
    roster := insertEntry (.new node role d.cs.silenceTimeout.toNat) d.vbp.roster }
  roleTaken role (raiseRoster node d)

/-- The role of an enrolled node replaced (R150); an entry that held ENGINE removes the engine peer (R124). -/
def changeRole (node : Nat) (role : Role) (d : Device) : Device :=
  let engine := d.isEngine node
  let d := d.withVbp { d.vbp with roster := mapEntry node (fun e => { e with role := role }) d.vbp.roster }
  let d := roleTaken role (raiseRoster node d)
  if engine then loseEnginePeer d else d

/-- The effect of a HELLO. -/
def applyHello (node : Nat) (o : HelloOutcome) (d : Device) : Device :=
  match o with
  | .refused _ | .keep => d
  | .enrol role => enrol node role d
  | .change role => changeRole node role d

/-- The reply to a HELLO: the result and the role held after it; where no role is held, that byte is open (R150, R173;
log 6). -/
def helloReply (node : Nat) (r : Result) (d : Device) : TxFrame :=
  { dest := .node node,
    body := .reply (pad8 [0x89, 0, 0, r.code,
      match d.entryOf node with
      | some e => e.role.code
      | none => Config.freeByte d.draws 4]) }

/-- HELLO: the oldest HELLO of the receive buffer is taken by the port while the transmit queue has room (R148, R150). -/
def hello (d : Device) : Device :=
  match d.vbp.rx.find? isHelloFrame with
  | none => d
  | some f =>
    if d.txRoom then
      let d := d.withVbp { d.vbp with rx := d.vbp.rx.eraseP isHelloFrame }
      let o := helloOutcome d f
      let d := applyHello f.node o d
      handFrame .reply (helloReply f.node o.result d) d.draw
    else d

/-! ## Frames received (R146, R148, R151) -/

/-- The node that a frame on the bus comes from, where it is an 11-bit data frame in the peer-to-part range (R146). -/
def senderOf (base : Int) (f : CanFrame) : Option Nat :=
  if !f.extended && !f.remote && base + 1 ≤ f.ident && f.ident ≤ base + 30 then some (f.ident - base).toNat else none

/-- The roster entry after a frame of its node was taken into the buffer (R151). -/
def RosterEntry.heard (timeout : Nat) (e : RosterEntry) : RosterEntry :=
  { e with state := .joined, timeout := timeout, silence := 0 }

/-- A frame of an enrolled node restarts its silence timer, and returns a SILENT entry to JOINED with notice ROSTER
(R148, R151). -/
def hearNode (node : Nat) (d : Device) : Device :=
  match d.entryOf node with
  | none => d
  | some e =>
    let d := d.withVbp { d.vbp with roster := mapEntry node (RosterEntry.heard d.cs.silenceTimeout.toNat) d.vbp.roster }
    if e.state = .silent then raiseRoster node d else d

/-- The receive buffer holds 8 frames (R148). -/
def rxCapacity : Nat := 8

/-- A frame in the peer-to-part range arrives: taken into the buffer, or lost with RX_OVERRUN (R148). -/
def bufferFrame (node : Nat) (data : List Byte) (d : Device) : Device :=
  if d.vbp.rx.length < rxCapacity then
    hearNode node (d.withVbp { d.vbp with rx := d.vbp.rx ++ [{ node := node, data := data }] })
  else raiseRxOverrun node d

/-- The 100 ms of bus silence started afresh (R158). -/
def restartBusSilence (d : Device) : Device := d.withVbp { d.vbp with busSilence := .running 100 }

/-- A frame on the bus. A BUS_OFF controller sees it as activity alone (R158), an IDLE one not at all (R147); in SLEEP a
frame in the range wakes the device and is then taken (R142). -/
def frameReceived (f : CanFrame) (d : Device) : Device :=
  match d.vbp.ctrl with
  | .idle => d
  | .busOff => restartBusSilence d
  | .active | .listening =>
    match senderOf d.vbp.baseInForce f with
    | none => d
    | some n => bufferFrame n f.data (if d.mc.mode = .sleep then wake .bus d else d)

/-! ## Transmission (R154, R155, R158) -/

/-- The class whose oldest frame the controller takes next (R154). -/
def TxQueue.next (q : TxQueue) : Option TxClass :=
  ([.order, .reply, .mode, .award] : List TxClass).find? fun c => !(q.get c).isEmpty

/-- The frame in transmission. -/
def TxQueue.current (q : TxQueue) : Option TxFrame := q.inTx.bind fun t => (q.get t.cls).head?

/-- The frame in transmission leaves the queue. -/
def TxQueue.popCurrent (q : TxQueue) : TxQueue :=
  match q.inTx with
  | some t => { q.set t.cls (q.get t.cls).tail with inTx := none }
  | none => q

/-- The controller can transmit (R147). -/
def Controller.sends : Controller → Bool
  | .active | .listening => true
  | .idle | .busOff => false

/-- The controller begins a transmission with a retry count of 0 (R154, R155). -/
def transmissionStart (d : Device) : Device :=
  if d.vbp.ctrl.sends && d.vbp.tx.inTx.isNone then
    match d.vbp.tx.next with
    | some c => d.withTx { d.vbp.tx with inTx := some { cls := c, retries := 0 } }
    | none => d
  else d

/-- The frame in transmission while the controller can transmit. -/
def Device.sending (d : Device) : Option InTx := if d.vbp.ctrl.sends then d.vbp.tx.inTx else none

/-- The frame in transmission is sent without error and acknowledged (R155). -/
def frameSent (d : Device) : Device :=
  match d.sending with
  | some _ => d.withVbp { d.vbp with tx := d.vbp.tx.popCurrent, txErrors := d.vbp.txErrors - 1 }
  | none => d

/-- The slot whose award a frame carries. -/
def TxFrame.awardSlot (f : TxFrame) : Option SlotNo :=
  match f.body with
  | .award i _ _ => some i
  | _ => none

/-- The slot's last sent award set to none (R155, R157). -/
def forgetAward (f : TxFrame) (d : Device) : Device :=
  match f.awardSlot with
  | some i => d.withVbp { d.vbp with lastAward := d.vbp.lastAward.set i none }
  | none => d

/-- The frame in transmission is dropped: it leaves the queue, LINK is raised with TX_DROPPED, and for an award the slot's
last sent award becomes none (R155). -/
def dropCurrent (d : Device) : Device :=
  match d.vbp.tx.current with
  | some f => forgetAward f (raiseTxDropped f.dest (d.withTx d.vbp.tx.popCurrent))
  | none => d

/-- A failed attempt: the frame is attempted again below the retry limit, else dropped (R155). A retry count above the
limit, met where the limit is lowered with a frame in transmission, is treated as one at the limit (DESIGN CHOICE, log
27). -/
def retryOrDrop (t : InTx) (d : Device) : Device :=
  if (t.retries : Int) < d.cs.canRetryLimit then
    d.withTx { d.vbp.tx with inTx := some { t with retries := t.retries + 1 } }
  else dropCurrent d

/-- The frame in transmission loses arbitration (R155). -/
def arbitrationLost (d : Device) : Device :=
  match d.sending with
  | some t => retryOrDrop t d
  | none => d

/-- The frame in transmission at a bus-off keeps its place with a retry count of 0 (R158). -/
def TxQueue.held (q : TxQueue) : TxQueue := { q with inTx := q.inTx.map fun t => { t with retries := 0 } }

/-- The controller enters BUS_OFF (R158). -/
def enterBusOff (d : Device) : Device :=
  raiseBusOff (d.withVbp { d.vbp with
    ctrl := .busOff, txErrors := 255, busSilence := .running 100, tx := d.vbp.tx.held })

/-- The frame in transmission meets a transmit error (R155, R158). -/
def transmitError (d : Device) : Device :=
  match d.sending with
  | some t =>
    if 255 < d.vbp.txErrors + 8 then enterBusOff d
    else retryOrDrop t (d.withVbp { d.vbp with txErrors := d.vbp.txErrors + 8 })
  | none => d

/-- The transmit queue at a rejoin: transmission resumes in the order of the classes, so a held frame of another class
than ORDER waits again behind the classes before its own (R154, R158; log 13). -/
def TxQueue.resumed (q : TxQueue) : TxQueue := if q.orderInTx then q else { q with inTx := none }

/-- The controller rejoins after 100 ms of silence (R158). -/
def busOffRejoin (d : Device) : Device :=
  if d.vbp.ctrl = .busOff then
    d.withVbp { d.vbp with ctrl := .active, txErrors := 0, busSilence := .stopped, tx := d.vbp.tx.resumed }
  else d

/-- Activity on the bus while the controller is BUS_OFF (R158). -/
def busActivity (d : Device) : Device := if d.vbp.ctrl = .busOff then restartBusSilence d else d

/-! ## Awards (R156) -/

/-- The AWARD frame of an award queue entry for an owner. -/
def AwardEntry.frame (e : AwardEntry) (owner : Nat) : TxFrame :=
  { dest := .node owner, body := .award e.slot e.generation e.answer }

/-- The oldest award queue entry enters the transmit queue while that holds fewer than 20 frames, and becomes the slot's
last sent award (R156). -/
def awardToQueue (d : Device) : Device :=
  match d.vbp.awardQueue with
  | [] => d
  | e :: rest =>
    match (d.slot e.slot).content.owner? with
    | none => d
    | some o =>
      if d.vbp.ctrl != .idle && d.vbp.tx.count < 20 then
        d.withVbp { d.vbp with
          awardQueue := rest, lastAward := d.vbp.lastAward.set e.slot (some e.answer),
          tx := d.vbp.tx.set .award (d.vbp.tx.awards ++ [e.frame o]) }
      else d

/-! ## Silence (R151, R152) -/

/-- The silence timer of a node passes T with the entry JOINED (R151). -/
def silenceExpiry (node : Nat) (d : Device) : Device :=
  match d.entryOf node with
  | none => d
  | some e =>
    if e.state = .joined then
      raiseRoster node (d.withVbp { d.vbp with
        roster := mapEntry node (fun e => { e with state := .silent }) d.vbp.roster })
    else d

/-- The silence timer of a node passes 3T: the node is declared LOST, and its purge set is handed to the Record Access
Unit (R152; log 17). -/
def peerDeclaredLost (node : Nat) (d : Device) : Device :=
  match d.entryOf node with
  | none => d
  | some e =>
    if e.state = .silent && !d.rau.peerLossSets.contains node then
      d.withRau { d.rau with peerLossSets := d.rau.peerLossSets ++ [node] }
    else d

/-! ## Supervisor requests to the port (R153, R159) -/

/-- The payload of a ROSTER_READ (R153, R173). -/
def rosterBytes (v : BusPort) : List Byte :=
  [natByte v.roster.length] ++ (v.roster.flatMap fun e => [natByte e.node, e.role.code, e.state.code]) ++
    [v.ctrl.code, natByte v.txErrors, natByte v.tx.count, natByte v.awardQueue.length]

/-- ROSTER_READ (R153). -/
def rosterReadAct (_ : SpiRequest) (d : Device) : Taken := d.answered .ok (rosterBytes d.vbp)

def rosterRead : Device → Device := takeRequest .rosterRead rosterReadAct

/-- The controller re-initialised to ACTIVE with its queues emptied (R147, R159). -/
def reinitialise (v : BusPort) : BusPort :=
  { emptyBusQueues v with ctrl := .active, txErrors := 0, busSilence := .stopped }

/-- BUS_RESTART (R159). -/
def busRestartAct (_ : SpiRequest) (d : Device) : Taken :=
  if d.vbp.ctrl = .idle then d.answered .notNow []
  else (gensetBusRestart (d.withVbp (reinitialise d.vbp))).answered .ok []

def busRestart : Device → Device := takeRequest .busRestart busRestartAct

end Sys2Proof.Machine
end

