-- ==== Sys2Proof/Machine/Records.lean ====
section
/-! DEFINITION. The record requests (chapters 1 to 3): CLAIM, AMEND, COMMIT, RENEW, RELEASE, PURGE, QUERY, LOOKUP; the
purge sets; and the edit and renewal expiries. -/

namespace Sys2Proof.Machine

/-! ## CLAIM (R30 to R32) -/

/-- A non-FREE record has the identity's label and owner, or is the one DEMAND or MEASURE there may be (R18, R30). -/
def clashes (x : Identity) (s : Slot) : Bool :=
  match s.content.ident? with
  | none => false
  | some y =>
    (y.owner = x.owner && y.label = x.label) ||
      (match x.cls with
       | .demand => y.cls = .demand
       | .measure q => y.cls = .measure q
       | _ => false)

/-- The banks in the order in which a CLAIM searches them (R31). -/
def searchOrder (owner : Nat) : List BankNo :=
  homeBank owner :: ([0, 1, 2, 3] : List BankNo).filter fun b => b ≠ homeBank owner

/-- The lowest-numbered FREE slot of a bank. -/
def freeSlotIn (d : Device) (b : BankNo) : Option SlotNo :=
  findSlot (fun i s => bankOf i = b && s.content.isFree) d

/-- The slot a CLAIM is given (R31). -/
def allocate (owner : Nat) (d : Device) : Except Result SlotNo :=
  match ((searchOrder owner).filter fun b => (d.buffer b).isNone).findSome? (freeSlotIn d) with
  | some i => .ok i
  | none => if anySlot (fun s => s.content.isFree) d then .error .bankBusy else .error .tableFull

/-- The time on a bank's edit timer when it is started or restarted, in ms (R3). -/
def editMs : Nat := 100

/-- A CLAIM given a slot (R32, R48). -/
def openDraft (x : Identity) (tier : Nat) (i : SlotNo) (d : Device) : Device :=
  let d := d.setSlot i { generation := (d.slot i).generation + 1, content := .draft x tier }
  let d := d.setBuffer (bankOf i)
    (some { slot := i, image := .default x.owner x.cls tier, marks := .clear, timer := editMs })
  d.setRta i { d.rtaOf i with timer := .stopped, lapse := 0 }

/-- CLAIM past the common checks. -/
def claimAct (o : Offer) (kind label extra : Byte) (d : Device) : Device × RauReply :=
  match RecordClass.ofClaim kind extra with
  | none => (d, refusal o .badRequest d)
  | some c =>
    let x : Identity := { cls := c, owner := o.who, label := label }
    if c = .demand && o.port = .bus then (d, refusal o .badRequest d)
    else if anySlot (clashes x) d then (d, refusal o .duplicate d)
    else if d.mc.mode.noPasses then (d, refusal o .notNow d)
    else
      match allocate o.who d with
      | .error r => (d, refusal o r d)
      | .ok i =>
        let d' := openDraft x (if c = .load then min extra.toNat 3 else 0) i d
        (d', .plain (if c = .load && 3 < extra.toNat then .clamped else .ok) (natByte i.val) (d'.slot i).generation)

/-! ## AMEND (R33, R34) -/

/-- A write refused whatever the record: unknown field id, or a field no request may write (R28, form). -/
def FieldWrite.malformed (w : FieldWrite) : Bool :=
  match FieldId.ofByte w.id with
  | none => true
  | some f => f.readOnly

/-- A write refused for a record of class `c` (R34). -/
def FieldWrite.refusedFor (c : RecordClass) (w : FieldWrite) : Bool :=
  match FieldId.ofByte w.id with
  | none => true
  | some f => f.readOnly || !f.ofClass c || (isMarker f w.value && !f.optional)

/-- One write applied to a working image and its marks; the Boolean says whether it was clamped (R11, R34). -/
def applyWrite (c : RecordClass) (img : Image) (m : Marks) (w : FieldWrite) : Image × Marks × Bool :=
  match FieldId.ofByte w.id with
  | none => (img, m, false)
  | some f =>
    if isMarker f w.value then (img.write f none, m.mark f, false)
    else
      (img.write f (some (clampField c f w.value.toInt)), m.mark f, clampField c f w.value.toInt ≠ w.value.toInt)

/-- The writes applied in frame order, with the list of which were clamped (R34). -/
def applyWrites (c : RecordClass) : List FieldWrite → Image → Marks → Image × Marks × List Bool
  | [], img, m => (img, m, [])
  | w :: ws, img, m =>
    let (img, m, k) := applyWrite c img m w
    let (img, m, ks) := applyWrites c ws img m
    (img, m, k :: ks)

/-- The class of the record a handle designates. -/
def designatedClass (slot gen : Byte) (d : Device) : Option RecordClass :=
  match checkHandle slot gen d with
  | .ok i => (d.slot i).content.ident?.map (·.cls)
  | .error _ => none

/-- The position, from 1, of the first refused write of an AMEND (R34; log 12). -/
def refusedPosition (slot gen : Byte) (ws : List FieldWrite) (d : Device) : Option Nat :=
  (match designatedClass slot gen d with
   | some c => ws.findIdx? fun w : FieldWrite => w.refusedFor c
   | none => ws.findIdx? fun w : FieldWrite => w.malformed).map (· + 1)

/-- The reply to an AMEND answered BAD_REQUEST (R34, R173). -/
def amendBadRequest (o : Offer) (slot gen : Byte) (ws : List FieldWrite) (d : Device) : RauReply :=
  match refusedPosition slot gen ws d with
  | some p => { result := .badRequest, link := [slot, gen, natByte p], handle := (slot, gen), bus := [] }
  | none => refusal o .badRequest d

/-- What an AMEND comes to: refused with a reply, or taken into the slot's Edit Buffer. -/
inductive AmendOutcome where
  | refused (r : RauReply)
  | taken (i : SlotNo) (d : Device) (clamped : List Bool)
  deriving DecidableEq, Repr

/-- The Edit Buffer an AMEND writes into (R33): the open one of the slot, or one opened with a copy of the committed
image. -/
def amendBuffer (i : SlotNo) (d : Device) : Except Result EditBuffer :=
  match (d.slot i).content with
  | .free => .error .badHandle
  | .retiring _ _ => .error .badState
  | .draft _ _ =>
    match d.openFor i with
    | some e => .ok e
    | none => .error .badState
  | .live r | .stale r =>
    match d.buffer (bankOf i) with
    | none => .ok { slot := i, image := r.image, marks := .clear, timer := editMs }
    | some e => if e.slot = i then .ok e else .error .bankBusy

/-- The AMEND part of an AMEND, up to its reply (R28, R33, R34). The form is checked before the handle: an unknown or
read-only field id is answered BAD_REQUEST where the handle designates no record too (DESIGN CHOICE, log 35). -/
def amendCore (o : Offer) (slot gen : Byte) (ws : List FieldWrite) (d : Device) : AmendOutcome :=
  if 48 ≤ slot.toNat || ws.isEmpty || ws.any (·.malformed) then .refused (amendBadRequest o slot gen ws d)
  else
    match checkHandle slot gen d with
    | .error r => .refused (refusal o r d)
    | .ok i =>
      match (d.slot i).content.ident? with
      | none => .refused (refusal o .badHandle d)
      | some x =>
        if ws.any (·.refusedFor x.cls) then .refused (amendBadRequest o slot gen ws d)
        else if x.owner ≠ o.who then .refused (refusal o .notOwner d)
        else
          match amendBuffer i d with
          | .error r => .refused (refusal o r d)
          | .ok e =>
            let (img, m, ks) := applyWrites x.cls ws e.image e.marks
            .taken i (d.setBuffer (bankOf i) (some { e with image := img, marks := m, timer := editMs })) ks

/-- The reply to an AMEND that was taken: CLAMPED when a write was clamped, and on the link one byte per write (R34,
R173). -/
def amendReply (slot gen : Byte) (ks : List Bool) : RauReply :=
  { result := if ks.any id then .clamped else .ok, link := [slot, gen] ++ ks.map flagByte, handle := (slot, gen),
    bus := [] }

/-- AMEND without commit flag past the common checks. -/
def amendAct (o : Offer) (slot gen : Byte) (ws : List FieldWrite) (d : Device) : Device × RauReply :=
  match amendCore o slot gen ws d with
  | .refused r => (d, r)
  | .taken _ d' ks => (d', amendReply slot gen ks)

/-! ## COMMIT (R36 to R39) -/

/-- Strictly ascending. -/
def ascending : List Int → Bool
  | a :: b :: rest => a < b && ascending (b :: rest)
  | _ => true

/-- The committed image with every marked field replaced by the buffer's value; count and places of the step list
together (R36, R39). -/
def mergeMarked (old work : Image) (m : Marks) : Image :=
  { period := if m.period then work.period else old.period,
    tolerance := if m.tolerance then work.tolerance else old.tolerance,
    body :=
      match old.body, work.body with
      | .demand a, .demand b => .demand (if m.primary then b else a)
      | .load a, .load b =>
        .load {
          request := if m.primary then b.request else a.request,
          floor := if m.floor then b.floor else a.floor,
          tier := if m.tier then b.tier else a.tier,
          parkCapable := if m.parkCapable then b.parkCapable else a.parkCapable,
          steps := if m.steps then b.steps else a.steps }
      | .bound v f, .bound v' f' => .bound (if m.primary then v' else v) (if m.fallback then f' else f)
      | .measure v, .measure v' => .measure (if m.primary then v' else v)
      | b, _ => b }

/-- The image that a COMMIT of the open edit would leave committed (R36). -/
def resultingImage (c : Content) (e : EditBuffer) : Image :=
  match c.record? with
  | some r => mergeMarked r.image e.image e.marks
  | none => e.image

/-- The fields of a LOAD checked in the order of R36. -/
def loadFailing (l : LoadFields) : Option FieldId :=
  match l.request with
  | none => some .request
  | some q =>
    if l.floor.any fun f => 0 < q && q < f then some .floor
    else if !ascending l.steps.listed then some .stepCount
    else if l.steps.listed ≠ [] && (l.floor.any fun f => f ∉ l.steps.listed) then some .floor
    else none

/-- The field named by the first failing check of R36; `none` where the image is valid. -/
def firstFailing (owner : Nat) (img : Image) : Option FieldId :=
  (match img.body with
   | .demand _ => none
   | .load l => loadFailing l
   | .bound none _ => some .boundValue
   | .bound (some _) _ => none
   | .measure none => some .measureValue
   | .measure (some _) => none).or
  (if owner ≠ 0 && img.period = 0 then some .period else none)

/-- A committed period and tolerance taken into force and the timer started for the full period; with a period of 0 the
timer is stopped (R49, R54, R57). -/
def RenewalEntry.takeForce (e : RenewalEntry) (img : Image) : RenewalEntry :=
  { e with timer := Timer.start (img.period * 10), periodInForce := img.period, toleranceInForce := img.tolerance }

/-- A COMMIT that passes validation: a DRAFT becomes LIVE (R38, R49); an edit replaces the committed image (R39, R54). -/
def commitImage (i : SlotNo) (img : Image) (d : Device) : Device :=
  let d := d.setBuffer (bankOf i) none
  match (d.slot i).content with
  | .draft x _ =>
    let a : Option Answer := if x.cls = .load then some { grant := 0, reason := .none } else none
    let d := d.setContent i (.live { ident := x, image := img, answer := a })
    d.setRta i { (d.rtaOf i).takeForce img with lapse := 0 }
  | c =>
    let d := d.setContent i (c.mapRecord fun r => { r with image := img })
    if (d.rtaOf i).periodInForce = 0 && img.period ≠ 0 then d.setRta i ((d.rtaOf i).takeForce img) else d

/-- What a COMMIT comes to. -/
inductive CommitOutcome where
  | refused (r : Result)
  | badFields (f : FieldId) (d : Device)
  | done (d : Device)
  deriving DecidableEq, Repr

/-- The COMMIT of the edit open for a slot (R36, R37). -/
def commitCore (owner : Nat) (i : SlotNo) (d : Device) : CommitOutcome :=
  if (d.slot i).content.isRetiring then .refused .badState
  else
    match d.openFor i with
    | none => .refused .badState
    | some e =>
      match firstFailing owner (resultingImage (d.slot i).content e) with
      | some f => .badFields f (d.setBuffer (bankOf i) (some { e with timer := editMs }))
      | none => .done (commitImage i (resultingImage (d.slot i).content e) d)

/-- The reply BAD_FIELDS, carrying the failing field id (R37, R173). To an AMEND with commit flag it carries that in the
place of the byte for each write (DESIGN CHOICE, log 36). -/
def badFieldsReply (slot gen : Byte) (f : FieldId) : RauReply :=
  { result := .badFields, link := [slot, gen, f.code], handle := (slot, gen), bus := [f.code] }

/-- COMMIT past the common checks. -/
def commitAct (o : Offer) (slot gen : Byte) (d : Device) : Device × RauReply :=
  match checkOwned o.who slot gen d with
  | .error r => (d, refusal o r d)
  | .ok i =>
    match commitCore o.who i d with
    | .refused r => (d, refusal o r d)
    | .badFields f d' => (d', badFieldsReply slot gen f)
    | .done d' => (d', .plain .ok slot gen)

/-- AMEND with commit flag past the common checks: the AMEND, followed at once by a COMMIT, with one reply (R35). -/
def amendCommitAct (o : Offer) (slot gen : Byte) (ws : List FieldWrite) (d : Device) : Device × RauReply :=
  match amendCore o slot gen ws d with
  | .refused r => (d, r)
  | .taken i d' ks =>
    match commitCore o.who i d' with
    | .refused r => (d', refusal o r d')
    | .badFields f d'' => (d'', badFieldsReply slot gen f)
    | .done d'' => (d'', amendReply slot gen ks)

/-! ## RENEW (R56 to R61) -/

/-- The value a RENEW stores in the primary field (R59, R60). -/
def renewedValue (c : RecordClass) (img : Image) (v : Int) : Int :=
  match img.floor with
  | some f => if 0 < v && v < f then f else clampField c c.primary v
  | none => clampField c c.primary v

/-- The image after a RENEW. -/
def renewedImage (c : RecordClass) (img : Image) : Option Half → Image
  | none => img
  | some v => img.write c.primary (some (renewedValue c img v.toInt))

/-- A LIVE or STALE record renewed (R57). -/
def renewRecord (i : SlotNo) (r : Record) (v : Option Half) (d : Device) : Device :=
  let img := renewedImage r.ident.cls r.image v
  let d := d.setContent i (.live { r with image := img })
  d.setRta i { (d.rtaOf i).takeForce img with lapse := 0 }

/-- The reply to a RENEW that was taken (R58); without a value the stored-value item is open (log 6). -/
def renewReply (slot gen : Byte) (lapse : Nat) (revived : Bool) (r : Record) (v : Option Half) (d : Device) : RauReply :=
  let stored :=
    match v with
    | some v => valueBytes (renewedValue r.ident.cls r.image v.toInt)
    | none => [Config.freeByte d.draws 6, Config.freeByte d.draws 7]
  let clamped : Bool :=
    match v with
    | some v => renewedValue r.ident.cls r.image v.toInt ≠ v.toInt
    | none => false
  { result := if clamped then .clamped else .ok,
    link := [slot, gen, natByte lapse, flagByte revived] ++ stored, handle := (slot, gen),
    bus := [natByte lapse, flagByte revived] ++ stored }

/-- RENEW, with or without value, past the common checks (R56). -/
def renewAct (o : Offer) (slot gen : Byte) (v : Option Half) (d : Device) : Device × RauReply :=
  match checkOwned o.who slot gen d with
  | .error r => (d, refusal o r d)
  | .ok i =>
    match (d.slot i).content with
    | .live r => (renewRecord i r v d, renewReply slot gen (d.rtaOf i).lapse false r v d)
    | .stale r => (renewRecord i r v d, renewReply slot gen (d.rtaOf i).lapse true r v d)
    | _ => (d, refusal o .badState d)

/-! ## RELEASE and PURGE (R43, R44) -/

/-- The records of a single slot. -/
def only (i : SlotNo) (j : SlotNo) : Bool := j = i

/-- RELEASE past the common checks. -/
def releaseAct (o : Offer) (slot gen : Byte) (d : Device) : Device × RauReply :=
  match checkOwned o.who slot gen d with
  | .error r => (d, refusal o r d)
  | .ok i => (endRecords (only i) d, .plain .ok slot gen)

/-- PURGE past the common checks: BAD_REQUEST from a peer, no owner check (R28, R44). -/
def purgeAct (o : Offer) (slot gen : Byte) (d : Device) : Device × RauReply :=
  if o.port = .bus then (d, refusal o .badRequest d)
  else
    match checkHandle slot gen d with
    | .error r => (d, refusal o r d)
    | .ok i => (endRecords (only i) d, .plain .ok slot gen)

/-! ## QUERY and LOOKUP (R19 to R21) -/

/-- The tier of a LOAD image. -/
def Image.tier (img : Image) : Nat :=
  match img.body with
  | .load l => l.tier
  | _ => 0

/-- The byte "quantity or tier" of a reading: the quantity of a BOUND or MEASURE, the tier of a LOAD (that of the CLAIM
while it is a DRAFT), open for a DEMAND (R19, R173; log 6, log 11). -/
def quantityOrTier (s : Slot) (d : Device) : Byte :=
  match s.content.ident? with
  | none => Config.freeByte d.draws 7
  | some x =>
    match x.cls with
    | .bound q => q.code
    | .measure q => q.code
    | .demand => Config.freeByte d.draws 7
    | .load =>
      match s.content with
      | .draft _ t => natByte t
      | .free => 0
      | .live r | .stale r | .retiring r _ => natByte r.image.tier

/-- The lapse count a reading reports (R10). -/
def Device.lapseOf (d : Device) (i : SlotNo) : Nat :=
  if (d.slot i).content.isDraft then 0 else (d.rtaOf i).lapse

/-- The fields of a kind in field id order (R173). -/
def RecordClass.fields : RecordClass → List FieldId
  | .demand => [.demand]
  | .load =>
    [.request, .floor, .tier, .parkCapable, .stepCount, .step 0, .step 1, .step 2, .step 3, .step 4, .step 5, .grant,
     .reason]
  | .bound _ => [.boundValue, .fallback]
  | .measure _ => [.measureValue]

/-- The whole reading of a slot (R19, R173). A FREE slot reads its life state and generation; what else its reading
carries on the link is open (log 6). -/
def wholeReading (i : SlotNo) (d : Device) : List Byte :=
  let s := d.slot i
  match s.content.ident? with
  | none => [s.content.lifeCode, s.generation] ++ openTail d 2
  | some x =>
    [s.content.lifeCode, s.generation, x.cls.kindCode, natByte x.owner, x.label, quantityOrTier s d,
     natByte (d.lapseOf i), flagByte (d.underEdit i)] ++
    (match s.content.record? with
     | none => []
     | some r =>
       (([.period, .tolerance] : List FieldId) ++ x.cls.fields).flatMap fun f =>
         valueBytes (r.read (d.lapseOf i) f).2)

/-- Byte 4 of a CAN reading: life state in bits 2–0, under-edit mark in bit 3, kind in bits 5–4; the kind bits of a FREE
slot are open (R173; log 6). -/
def readingByte (i : SlotNo) (d : Device) : Byte :=
  let s := d.slot i
  s.content.lifeCode ||| bit (d.underEdit i) 3 |||
    (match s.content.ident? with
     | some x => x.cls.kindCode <<< 4
     | none => Config.freeByte d.draws 4 &&& 0x30)

/-- CAN bytes 4 to 7 of a reading without field id (R20, R173). -/
def canReading (i : SlotNo) (d : Device) : List Byte :=
  let s := d.slot i
  match s.content.ident? with
  | none =>
    [readingByte i d, Config.freeByte d.draws 5, Config.freeByte d.draws 6, Config.freeByte d.draws 7]
  | some x =>
    [readingByte i d, natByte x.owner, x.label,
     (quantityOrTier s d &&& 0x0F) ||| (natByte (d.lapseOf i) <<< 4)]

/-- QUERY without field id past the common checks (R19). -/
def queryAct (o : Offer) (slot : Byte) (d : Device) : Device × RauReply :=
  if h : slot.toNat < 48 then
    let i : SlotNo := ⟨slot.toNat, h⟩
    (d, { result := .ok, link := wholeReading i d, handle := (slot, (d.slot i).generation), bus := canReading i d })
  else (d, refusal o .badRequest d)

/-- The step count that a field reading carries: that of a LOAD; open for the other kinds (R20; log 11). -/
def stepCountOf (r : Record) (d : Device) : Byte :=
  match r.image.body with
  | .load l => natByte l.steps.count
  | _ => Config.freeByte d.draws 5

/-- QUERY with a field id past the common checks (R20): BAD_REQUEST for an unknown field id, for a FREE or DRAFT slot,
and for a field the record's kind does not have. -/
def queryFieldAct (o : Offer) (slot field : Byte) (d : Device) : Device × RauReply :=
  if h : slot.toNat < 48 then
    let i : SlotNo := ⟨slot.toNat, h⟩
    match FieldId.ofByte field, (d.slot i).content.record? with
    | some f, some r =>
      if f.ofClass r.ident.cls then
        let x := r.read (d.lapseOf i) f
        (d,
          { result := .ok,
            link := [(d.slot i).content.lifeCode, (d.slot i).generation, flagByte (d.underEdit i), flagByte x.1,
              stepCountOf r d] ++ valueBytes x.2,
            handle := (slot, (d.slot i).generation),
            bus := [readingByte i d, flagByte x.1 ||| (stepCountOf r d <<< 4)] ++ valueBytes x.2 })
      else (d, refusal o .badRequest d)
    | _, _ => (d, refusal o .badRequest d)
  else (d, refusal o .badRequest d)

/-- LOOKUP past the common checks (R21). -/
def lookupAct (o : Offer) (owner label : Byte) (d : Device) : Device × RauReply :=
  if 30 < owner.toNat then (d, refusal o .badRequest d)
  else
    match findSlot (fun _ s => s.content.ident?.any fun x => x.owner = owner.toNat && x.label = label) d with
    | none => (d, refusal o .noRecord d)
    | some i =>
      let s := d.slot i
      (d, { result := .ok, link := [natByte i.val, s.generation, s.content.lifeCode],
            handle := (natByte i.val, s.generation), bus := [s.content.lifeCode] })

/-! ## The commands that take a record request -/

/-- CLAIM (R30). -/
def takeClaim : Device → Device :=
  takeRecord .claim fun o d =>
    match o.req with
    | .claim k l x => claimAct o k l x d
    | _ => (d, refusal o .badRequest d)

/-- AMEND (R33). -/
def takeAmend : Device → Device :=
  takeRecord .amend fun o d =>
    match o.req with
    | .amend s g ws _ => amendAct o s g ws d
    | _ => (d, refusal o .badRequest d)

/-- AMEND with commit flag (R35). -/
def takeAmendCommit : Device → Device :=
  takeRecord .amendCommit fun o d =>
    match o.req with
    | .amend s g ws _ => amendCommitAct o s g ws d
    | _ => (d, refusal o .badRequest d)

/-- COMMIT (R36). -/
def takeCommit : Device → Device :=
  takeRecord .commit fun o d =>
    match o.req with
    | .commit s g => commitAct o s g d
    | _ => (d, refusal o .badRequest d)

/-- RENEW without value (R57). -/
def takeRenew : Device → Device :=
  takeRecord .renew fun o d =>
    match o.req with
    | .renew s g v => renewAct o s g v d
    | _ => (d, refusal o .badRequest d)

/-- RENEW with value (R59). -/
def takeRenewWithValue : Device → Device :=
  takeRecord .renewWithValue fun o d =>
    match o.req with
    | .renew s g v => renewAct o s g v d
    | _ => (d, refusal o .badRequest d)

/-- RELEASE (R43). -/
def takeRelease : Device → Device :=
  takeRecord .release fun o d =>
    match o.req with
    | .release s g => releaseAct o s g d
    | _ => (d, refusal o .badRequest d)

/-- PURGE (R44). -/
def takePurge : Device → Device :=
  takeRecord .purge fun o d =>
    match o.req with
    | .purge s g => purgeAct o s g d
    | _ => (d, refusal o .badRequest d)

/-- QUERY without field id (R19). -/
def takeQuery : Device → Device :=
  takeRecord .query fun o d =>
    match o.req with
    | .query s _ => queryAct o s d
    | _ => (d, refusal o .badRequest d)

/-- QUERY with a field id (R20). -/
def takeQueryField : Device → Device :=
  takeRecord .queryField fun o d =>
    match o.req with
    | .query s (some f) => queryFieldAct o s f d
    | _ => (d, refusal o .badRequest d)

/-- LOOKUP (R21). -/
def takeLookup : Device → Device :=
  takeRecord .lookup fun o d =>
    match o.req with
    | .lookup w l => lookupAct o w l d
    | _ => (d, refusal o .badRequest d)

/-- A CAN frame of unknown kind or of length 0, taken as a record request and answered BAD_REQUEST (R28, R146). -/
def takeUnknown : Device → Device := takeRecord .unknown fun o d => (d, refusal o .badRequest d)

/-! ## Purge sets (R27, R45, R135, R152) -/

/-- The records that the peer-loss purge set of a node names (R45). -/
def ownedBy (d : Device) (node : Nat) (i : SlotNo) : Bool := (d.slot i).content.owner? = some node

/-- The records that the park-entry purge set names (R135). -/
def parkNamed (d : Device) (i : SlotNo) : Bool :=
  match (d.slot i).content.ident? with
  | none => false
  | some x => x.cls = .demand || !d.cs.retainMask.getLsbD (bankOf i).val

/-- The peer-loss purge set of a node executed (R45, R152). -/
def peerLossPurge (node : Nat) (d : Device) : Device :=
  if d.rau.peerLossSets.contains node then
    let named := ownedBy d node
    let engine := d.isEngine node
    let d := d.withRau { d.rau with peerLossSets := d.rau.peerLossSets.erase node }
    let d := endRecords named d
    let d := d.withVbp { d.vbp with
      roster := d.vbp.roster.filter (fun e => e.node ≠ node),
      awardQueue := d.vbp.awardQueue.filter (fun a => !named a.slot) }
    let d := raiseRoster node d
    if engine then loseEnginePeer d else d
  else d

/-- The park-entry purge set executed (R45, R135). -/
def parkEntryPurge (d : Device) : Device :=
  if d.rau.parkEntrySet then
    endRecords (parkNamed d) (d.withRau { d.rau with parkEntrySet := false })
  else d

/-! ## Expiries (R40, R41, R50, R51) -/

/-- The owner of an abandoned edit is told (R41). -/
def tellAbandoned (x : Identity) (i : SlotNo) (gen : Byte) (wasDraft : Bool) (d : Device) : Device :=
  if x.owner = 0 then raise .editAbandoned (BitVec.ofNat 16 i.val) d
  else handFrame .reply { dest := .node x.owner, body := .abandoned i gen wasDraft } d

/-- A bank's edit timer expires: the open edit is abandoned (R40) and the owner told (R41). -/
def editExpiry (b : BankNo) (d : Device) : Device :=
  match d.buffer b with
  | none => d
  | some e =>
    let s := d.slot e.slot
    let d := if s.content.isDraft then freeSlots (only e.slot) d else d.setBuffer b none
    match s.content.ident? with
    | some x => tellAbandoned x e.slot s.generation s.content.isDraft d
    | none => d

/-- A renewal expiry of a record with a nonzero committed period: the lapse counted, the timer restarted, and a LIVE
record at its tolerance gone STALE with RECORD_STALE raised (R50, R51). -/
def countLapse (i : SlotNo) (r : Record) (wasLive : Bool) (d : Device) : Device :=
  let lapse := min ((d.rtaOf i).lapse + 1) 15
  let d := d.setRta i { (d.rtaOf i).takeForce r.image with lapse := lapse }
  if wasLive && r.image.tolerance ≤ lapse then
    raise .recordStale (BitVec.ofNat 16 i.val) (d.setContent i (.stale r))
  else d

/-- The renewal expiry of a committed record as one act (R50). -/
def lapseRecord (i : SlotNo) (r : Record) (wasLive : Bool) (d : Device) : Device :=
  if r.image.period = 0 then d.setRta i { (d.rtaOf i).takeForce r.image with lapse := 0 }
  else countLapse i r wasLive d

/-- A renewal timer expires (R50). -/
def renewalExpiry (i : SlotNo) (d : Device) : Device :=
  if (d.rtaOf i).timer.isRunning then
    match (d.slot i).content with
    | .live r => lapseRecord i r true d
    | .stale r => lapseRecord i r false d
    | _ => d
  else d

end Sys2Proof.Machine
end

