-- ==== Sys2Proof/Machine/Combine.lean ====
section
/-! DEFINITION. The Bound Combiner's combination on a snapshot (chapter 4). -/

namespace Sys2Proof.Machine

/-- A ceiling or absent default of a power quantity. -/
def PowerValues.get (v : PowerValues) : PowerQty → Int
  | .battDis => v.battDis
  | .battChg => v.battChg
  | .genMax => v.genMax
  | .motorDrive => v.motorDrive
  | .motorRegen => v.motorRegen

def PowerValues.set (v : PowerValues) (q : PowerQty) (x : Int) : PowerValues :=
  match q with
  | .battDis => { v with battDis := x }
  | .battChg => { v with battChg := x }
  | .genMax => { v with genMax := x }
  | .motorDrive => { v with motorDrive := x }
  | .motorRegen => { v with motorRegen := x }

/-- The fallback of a BOUND image, where it has one. -/
def Image.fallback (img : Image) : Option Int :=
  match img.body with
  | .bound _ f => f
  | _ => none

/-- What a slot contributes to a bound quantity (R67): the committed value of a LIVE record, the fallback or 0 of a STALE
one, nothing otherwise. -/
def contribution (q : BoundQty) (s : Slot) : Option Int :=
  match s.content with
  | .live r => if r.ident.cls = .bound q then some (r.image.primary.getD 0) else none
  | .stale r => if r.ident.cls = .bound q then some (r.image.fallback.getD 0) else none
  | _ => none

/-- The contributions to a bound quantity in a pass (R67). -/
def contributions (q : BoundQty) (snap : Snapshot) : List Int := snap.slots.toList.filterMap (contribution q)

/-- A quantity is present in a pass when at least one record contributes (R67). -/
def isPresent (q : BoundQty) (snap : Snapshot) : Bool := !(contributions q snap).isEmpty

/-- The effective value of a power quantity: the smallest contribution, or the absent default, lowered to the ceiling
(R68, R69). -/
def effectivePower (q : PowerQty) (snap : Snapshot) : Int :=
  match contributions (.power q) snap with
  | [] => min (snap.cfg.absents.get q) (snap.cfg.ceilings.get q)
  | v :: vs => min (vs.foldl min v) (snap.cfg.ceilings.get q)

/-- The effective ENGINE_PERMIT (R71). -/
def effectivePermit (snap : Snapshot) : Bool :=
  match contributions .enginePermit snap with
  | [] => snap.cfg.absentPermit = 1
  | vs => vs.all (· = 1)

/-- The value a slot gives to a measure, and whether the record is STALE (R72 to R74). -/
def measured (q : MeasureQty) (s : Slot) : Option (Int × Bool) :=
  match s.content with
  | .live r => if r.ident.cls = .measure q then some (r.image.primary.getD 0, false) else none
  | .stale r => if r.ident.cls = .measure q then some (r.image.primary.getD 0, true) else none
  | _ => none

/-- The measure of a quantity in a pass, where its record is LIVE or STALE. -/
def measure (q : MeasureQty) (snap : Snapshot) : Option (Int × Bool) := snap.slots.toList.findSome? (measured q)

/-- The effective state of charge (R72). -/
def effectiveSoc (snap : Snapshot) : Int :=
  match measure .soc snap with
  | some (v, _) => v
  | none => snap.cfg.sStart

/-- Gav of a DRIVE pass (R76). -/
def driveGav (snap : Snapshot) : Int :=
  if effectivePermit snap then
    match snap.genset with
    | .warmup => min (effectivePower .genMax snap) snap.cfg.warmCap
    | .running => effectivePower .genMax snap
    | _ => 0
  else 0

/-- The combination of a pass on its snapshot (R66), with the PARK overrides (R75) and Gav (R76). -/
def combine (snap : Snapshot) : Combiner :=
  let park := snap.mode = .park
  let s := effectiveSoc snap
  { bd := if park && s ≤ snap.cfg.parkFloor then 0 else effectivePower .battDis snap,
    bc := effectivePower .battChg snap,
    genMax := effectivePower .genMax snap,
    md := if park then 0 else effectivePower .motorDrive snap,
    mr := if park then 0 else effectivePower .motorRegen snap,
    permit := effectivePermit snap,
    gav := if park then 0 else driveGav snap,
    s := s,
    speed := ((measure .speed snap).map (·.1)).getD 0,
    coolant := ((measure .coolant snap).map (·.1)).getD 0,
    coolantPresent := (measure .coolant snap).isSome,
    boundDefaulted := !([PowerQty.battDis, .battChg, .genMax, .motorDrive, .motorRegen].all
      fun q => isPresent (.power q) snap),
    socStale := ((measure .soc snap).map (·.2)).getD false,
    socDefaulted := (measure .soc snap).isNone,
    episodeBattDis := !isPresent (.power .battDis) snap,
    episodeBattChg := !isPresent (.power .battChg) snap,
    episodeSoc := (measure .soc snap).isNone }

/-- A SUPPLY_FAULT is raised where an episode opens (R70). -/
def raiseIfOpens (before after : Bool) (q : SupplyQty) (d : Device) : Device :=
  if after && !before then raise .supplyFault q.code d else d

/-- The combination made: the Bound Combiner's state replaced, and SUPPLY_FAULT raised for each quantity whose episode
opens, in the order BATT_DIS, BATT_CHG, SOC (R65, R70). -/
def makeCombination (snap : Snapshot) (d : Device) : Device :=
  let new := combine snap
  let d' := raiseIfOpens d.bc.episodeBattDis new.episodeBattDis .battDis d
  let d' := raiseIfOpens d.bc.episodeBattChg new.episodeBattChg .battChg d'
  let d' := raiseIfOpens d.bc.episodeSoc new.episodeSoc .soc d'
  d'.withBc new

end Sys2Proof.Machine
end

