-- ==== Sys2Proof/Machine/Split.lean ====
section
/-! DEFINITION. The stages of the split arithmetic (sections 5.2 to 5.8), a computation on the snapshot and its
combination alone (R81), exact on whole steps (R86). -/

namespace Sys2Proof.Machine

/-! ## Stage 2: the traction request (R87, R88) -/

/-- A previous demand image ramped toward 0 by the step, not across it (R88). -/
def rampToZero (step prev : Power) : Power :=
  if 0 < prev then max (prev - step) 0 else if prev < 0 then min (prev + step) 0 else 0

/-- The life state and demand of the DEMAND record of the snapshot: `some (demand, stale)` where it is LIVE or STALE. -/
def demandOf (s : Slot) : Option (Power × Bool) :=
  match s.content with
  | .live r => if r.ident.cls = .demand then some (r.image.primary.getD 0, false) else none
  | .stale r => if r.ident.cls = .demand then some (r.image.primary.getD 0, true) else none
  | _ => none

/-- The demand image D (R87). -/
def demandImage (snap : Snapshot) : Power :=
  if snap.mode = .drive then
    match snap.slots.toList.findSome? demandOf with
    | some (v, false) => v
    | some (_, true) => rampToZero snap.cfg.rampStep snap.demandImage
    | none => 0
  else 0

/-! ## Stage 4: allotment (R90 to R96) -/

/-- A LOAD that takes part in the allotment: its slot, tier, request, floor (0 where absent) and listed steps. -/
structure LoadClaim where
  slot : SlotNo
  tier : Nat
  request : Power
  floor : Power
  steps : List Power
  deriving DecidableEq, Repr

/-- The claim of a committed LOAD record. -/
def LoadClaim.ofFields (i : SlotNo) (l : LoadFields) : LoadClaim :=
  { slot := i, tier := l.tier, request := l.request.getD 0, floor := l.floor.getD 0, steps := l.steps.listed }

/-- Whether a slot's LOAD takes part: LIVE, and in a PARK pass park-capable (R90). -/
def claimOf (mode : Mode) (i : SlotNo) (s : Slot) : Option LoadClaim :=
  match s.content with
  | .live r =>
    match r.image.body with
    | .load l => if mode ≠ .park || l.parkCapable then some (.ofFields i l) else none
    | _ => none
  | _ => none

/-- The participating loads in ascending slot order. -/
def participants (snap : Snapshot) : List LoadClaim :=
  (List.finRange 48).filterMap fun i => claimOf snap.mode i snap.slots[i]

/-- What step (a) makes of a load (R92). -/
inductive Served where
  | idle | floored | shed
  deriving DecidableEq, Repr

/-- Step (a): floors served first fit in slot order from the remainder (R92). -/
def serveFloors : Power → List LoadClaim → List (LoadClaim × Served) × Power
  | x, [] => ([], x)
  | x, c :: cs =>
    if c.request = 0 then (((c, .idle) :: (serveFloors x cs).1), (serveFloors x cs).2)
    else if c.floor ≤ x then
      (((c, .floored) :: (serveFloors (x - c.floor) cs).1), (serveFloors (x - c.floor) cs).2)
    else (((c, .shed) :: (serveFloors x cs).1), (serveFloors x cs).2)

/-- The sum of the excesses of the loads that were given their floors (R93). -/
def totalExcess (l : List (LoadClaim × Served)) : Power :=
  (l.map fun p => if p.2 = .floored then p.1.request - p.1.floor else 0).sum

/-- Step (b): the grant of a load from the remainder x and the total excess e (R93). -/
def shareOf (x e : Power) (p : LoadClaim × Served) : Power :=
  match p.2 with
  | .floored => if e ≤ x then p.1.request else p.1.floor + (p.1.request - p.1.floor) * x / e
  | _ => 0

/-- The largest step not above the grant, or 0 where no step is (R94). -/
def largestStep (steps : List Power) (g : Power) : Power := (steps.filter (· ≤ g)).foldl max 0

/-- Step (c): a grant snapped to the step list, where there is one (R94). -/
def snapTo (steps : List Power) (g : Power) : Power := if steps.isEmpty then g else largestStep steps g

/-- The reason of a final grant against the request (R95). -/
def reasonOf (grant request : Power) : GrantReason :=
  if grant = request then .full else if 0 < grant then .shared else .shed

/-- The final grants of a tier entered with remainder x (steps (a) to (c)). -/
def tierGrants (x : Power) (cs : List LoadClaim) : List (LoadClaim × Power) :=
  let a := serveFloors x cs
  let e := totalExcess a.1
  a.1.map fun p => (p.1, snapTo p.1.steps (shareOf a.2 e p))

def sumGrants (g : List (LoadClaim × Power)) : Power := (g.map (·.2)).sum

/-- The loads of a tier. -/
def ofTier (t : Nat) (cs : List LoadClaim) : List LoadClaim := cs.filter fun c => c.tier = t

/-- The outcome of the allotment: the grants of the participating loads, the granted traction, what is left. -/
structure Allotment where
  grants : List (LoadClaim × Power)
  tg : Power
  left : Power
  deriving DecidableEq, Repr

/-- The granted traction from the remainder (R91). -/
def tractionGrant (tm x : Power) : Power := if 0 < tm then min tm x else tm

/-- Allotment (R91): tier 0, driving traction, tiers 1 to 3, each from what the ones before it left (R95). -/
def allot (p tm : Power) (cs : List LoadClaim) : Allotment :=
  let g0 := tierGrants p (ofTier 0 cs)
  let x0 := p - sumGrants g0
  let tg := tractionGrant tm x0
  let x := x0 - max tg 0
  let g1 := tierGrants x (ofTier 1 cs)
  let x1 := x - sumGrants g1
  let g2 := tierGrants x1 (ofTier 2 cs)
  let x2 := x1 - sumGrants g2
  let g3 := tierGrants x2 (ofTier 3 cs)
  { grants := g0 ++ g1 ++ g2 ++ g3, tg := tg, left := x2 - sumGrants g3 }

/-! ## Stage 6: the genset setpoint (R98 to R100) -/

/-- Of two points, the one nearer to Gd; of two equally near, the lower (R100). -/
def nearer (gd a b : Power) : Power :=
  if (a - gd).natAbs < (b - gd).natAbs then a
  else if (b - gd).natAbs < (a - gd).natAbs then b
  else min a b

/-- The nearest of a list of points. -/
def nearest (gd : Power) : List Power → Option Power
  | [] => none
  | p :: ps => some (ps.foldl (nearer gd) p)

/-- The operating points in use: the first point-count places (R174). -/
def ConfigSet.usedPoints (c : ConfigSet) : List Power := c.points.toList.take c.pointCount.toNat

/-- The admissible points (R100). -/
def admissible (snap : Snapshot) : List Power :=
  if snap.genset = .running || snap.genset = .warmup then 0 :: snap.cfg.usedPoints else snap.cfg.usedPoints

/-- Gset and OFFPOINT (R100). -/
def chooseSetpoint (snap : Snapshot) (gav l u gd : Power) : Power × Bool :=
  if gav = 0 then (0, false)
  else
    match nearest gd ((admissible snap).filter fun p => l ≤ p && p ≤ u) with
    | some p => (p, false)
    | none => (gd, true)

/-! ## The pass -/

/-- The figures of a pass from its snapshot, its combination and its allotment (stages 1 to 7). -/
def figuresOf (snap : Snapshot) (b : Combiner) (d tm r p : Power) (al : Allotment) : Figures :=
  let n := sumGrants al.grants + al.tg
  let pp := clamp (-b.bc) b.bd (snap.cfg.kp * (b.s - snap.cfg.sTarget))
  let l := max (n - b.bd) 0
  let u := min b.gav (max (n + b.bc) 0)
  let gd := clamp l u (n - pp)
  let gset := (chooseSetpoint snap b.gav l u gd).1
  let cut := if n + b.bc < 0 then -b.bc - (n - gset) else 0
  { bd := b.bd, bc := b.bc, gav := b.gav, md := b.md, mr := b.mr, s := b.s, speed := b.speed,
    d := d, tm := tm, r := r, p := p,
    tg := al.tg + cut, regenCut := cut, n := n + cut, pp := pp, l := l, u := u, gd := gd, gset := gset,
    pb := n + cut - gset,
    tractionCut := 0 < tm && al.tg < tm,
    tier0Short := al.grants.any fun g => g.1.tier = 0 && g.2 ≠ g.1.request,
    regenCutFlag := n + b.bc < 0,
    offpoint := (chooseSetpoint snap b.gav l u gd).2,
    boundDefaulted := b.boundDefaulted, socStale := b.socStale, socDefaulted := b.socDefaulted }

/-- The grant and reason computed for a slot of the snapshot (R90, R95). -/
def computedAnswer (snap : Snapshot) (al : Allotment) (i : SlotNo) : Option Answer :=
  match snap.slots[i].content with
  | .live r =>
    if r.ident.cls = .load then
      match al.grants.find? fun g => g.1.slot = i with
      | some g => some { grant := g.2, reason := reasonOf g.2 g.1.request }
      | none => some { grant := 0, reason := .parkDormant }
    else none
  | .stale r => if r.ident.cls = .load then some { grant := 0, reason := .staleZero } else none
  | _ => none

/-- The whole pass on a snapshot and its combination. -/
def computePass (snap : Snapshot) (b : Combiner) : Pass :=
  let d := demandImage snap
  let tm := clamp (-b.mr) b.md d
  let r := max (-tm) 0
  let p := b.bd + b.gav + r
  let al := allot p tm (participants snap)
  { snap := snap, fig := figuresOf snap b d tm r p al, grants := Vector.ofFn (computedAnswer snap al) }

end Sys2Proof.Machine
end

