-- ==== Sys2Proof/Machine/ConfigCmds.lean ====
section
/-! DEFINITION. The Configuration Set (chapter 10): its fields, the requests that write, read and close them, and the
two requests to the Genset Sequencer that are taken from the link. -/

namespace Sys2Proof.Machine

/-! ## Fields (R174) -/

/-- The fields of R174's table, the valid mark apart. -/
inductive ConfigField where
  | sTarget | sStart | sStop | kp | rampStep | replyTrigger | noticeEnables | pointCount
  | point (n : Fin 8)
  | minOnTime | minOffTime | crankTimeout | crankLimit | warmCap | warmThreshold | warmTimeMax | cooldown
  | orderRetryLimit
  | ceiling (q : PowerQty)
  | absent (q : PowerQty)
  | absentPermit | parkFloor | retainMask | parkTimeMax | keyDeglitch | canBase | canRate | canRetryLimit
  | silenceTimeout
  deriving DecidableEq, Repr

def ConfigField.number : ConfigField → Nat
  | .sTarget => 0x01
  | .sStart => 0x02
  | .sStop => 0x03
  | .kp => 0x04
  | .rampStep => 0x05
  | .replyTrigger => 0x06
  | .noticeEnables => 0x07
  | .pointCount => 0x08
  | .point n => 0x09 + n.val
  | .minOnTime => 0x11
  | .minOffTime => 0x12
  | .crankTimeout => 0x13
  | .crankLimit => 0x14
  | .warmCap => 0x15
  | .warmThreshold => 0x16
  | .warmTimeMax => 0x17
  | .cooldown => 0x18
  | .orderRetryLimit => 0x19
  | .ceiling q => 0x20 + q.code.toNat
  | .absent q => 0x28 + q.code.toNat
  | .absentPermit => 0x2D
  | .parkFloor => 0x30
  | .retainMask => 0x31
  | .parkTimeMax => 0x32
  | .keyDeglitch => 0x33
  | .canBase => 0x38
  | .canRate => 0x39
  | .canRetryLimit => 0x3A
  | .silenceTimeout => 0x3B

def ConfigField.all : List ConfigField :=
  [.sTarget, .sStart, .sStop, .kp, .rampStep, .replyTrigger, .noticeEnables, .pointCount, .point 0, .point 1, .point 2,
   .point 3, .point 4, .point 5, .point 6, .point 7, .minOnTime, .minOffTime, .crankTimeout, .crankLimit, .warmCap,
   .warmThreshold, .warmTimeMax, .cooldown, .orderRetryLimit, .ceiling .battDis, .ceiling .battChg, .ceiling .genMax,
   .ceiling .motorDrive, .ceiling .motorRegen, .absent .battDis, .absent .battChg, .absent .genMax,
   .absent .motorDrive, .absent .motorRegen, .absentPermit, .parkFloor, .retainMask, .parkTimeMax, .keyDeglitch,
   .canBase, .canRate, .canRetryLimit, .silenceTimeout]

def ConfigField.ofByte (b : Byte) : Option ConfigField := ConfigField.all.find? fun f => f.number = b.toNat

/-- The live fields (R174). -/
def ConfigField.live : ConfigField → Bool
  | .sTarget | .sStart | .sStop | .kp | .rampStep | .replyTrigger | .noticeEnables => true
  | _ => false

/-- The value held by a field. -/
def ConfigSet.get (c : ConfigSet) : ConfigField → Int
  | .sTarget => c.sTarget
  | .sStart => c.sStart
  | .sStop => c.sStop
  | .kp => c.kp
  | .rampStep => c.rampStep
  | .replyTrigger => c.replyTrigger
  | .noticeEnables => c.noticeEnables.toNat
  | .pointCount => c.pointCount
  | .point n => c.points[n]
  | .minOnTime => c.minOnTime
  | .minOffTime => c.minOffTime
  | .crankTimeout => c.crankTimeout
  | .crankLimit => c.crankLimit
  | .warmCap => c.warmCap
  | .warmThreshold => c.warmThreshold
  | .warmTimeMax => c.warmTimeMax
  | .cooldown => c.cooldown
  | .orderRetryLimit => c.orderRetryLimit
  | .ceiling q => c.ceilings.get q
  | .absent q => c.absents.get q
  | .absentPermit => c.absentPermit
  | .parkFloor => c.parkFloor
  | .retainMask => c.retainMask.toNat
  | .parkTimeMax => c.parkTimeMax
  | .keyDeglitch => c.keyDeglitch
  | .canBase => c.canBase
  | .canRate => c.canRate
  | .canRetryLimit => c.canRetryLimit
  | .silenceTimeout => c.silenceTimeout

/-- A field set to a value that its range admits. -/
def ConfigSet.set (c : ConfigSet) (f : ConfigField) (v : Int) : ConfigSet :=
  match f with
  | .sTarget => { c with sTarget := v }
  | .sStart => { c with sStart := v }
  | .sStop => { c with sStop := v }
  | .kp => { c with kp := v }
  | .rampStep => { c with rampStep := v }
  | .replyTrigger => { c with replyTrigger := v }
  | .noticeEnables => { c with noticeEnables := BitVec.ofInt 7 v }
  | .pointCount => { c with pointCount := v }
  | .point n => { c with points := c.points.set n v }
  | .minOnTime => { c with minOnTime := v }
  | .minOffTime => { c with minOffTime := v }
  | .crankTimeout => { c with crankTimeout := v }
  | .crankLimit => { c with crankLimit := v }
  | .warmCap => { c with warmCap := v }
  | .warmThreshold => { c with warmThreshold := v }
  | .warmTimeMax => { c with warmTimeMax := v }
  | .cooldown => { c with cooldown := v }
  | .orderRetryLimit => { c with orderRetryLimit := v }
  | .ceiling q => { c with ceilings := c.ceilings.set q v }
  | .absent q => { c with absents := c.absents.set q v }
  | .absentPermit => { c with absentPermit := v }
  | .parkFloor => { c with parkFloor := v }
  | .retainMask => { c with retainMask := BitVec.ofInt 4 v }
  | .parkTimeMax => { c with parkTimeMax := v }
  | .keyDeglitch => { c with keyDeglitch := v }
  | .canBase => { c with canBase := v }
  | .canRate => { c with canRate := v }
  | .canRetryLimit => { c with canRetryLimit := v }
  | .silenceTimeout => { c with silenceTimeout := v }

/-- How a value sent is brought into a field's range (R174, R175). -/
inductive ConfigRange where
  /-- A numeric range. -/
  | numeric (lo hi : Int)
  /-- Listed values, ascending. -/
  | listed (first : Int) (rest : List Int)
  /-- A numeric range of multiples of a unit. -/
  | multiple (lo hi unit : Int)
  /-- Bits kept, with the bits that are always set. -/
  | bits (kept always : Half)
  deriving DecidableEq, Repr

/-- The range column of R174. -/
def ConfigField.range : ConfigField → ConfigRange
  | .sTarget | .sStart | .sStop | .parkFloor => .numeric 0 1000
  | .kp => .numeric 0 20
  | .rampStep => .numeric 1 500
  | .replyTrigger => .listed 1 [2, 6, 12]
  | .noticeEnables => .bits 0x7F 0
  | .pointCount => .numeric 1 8
  | .point _ => .numeric 10 1500
  | .minOnTime | .minOffTime | .warmTimeMax => .numeric 0 600
  | .crankTimeout => .numeric 5 50
  | .crankLimit => .numeric 1 5
  | .warmCap => .numeric 0 1500
  | .warmThreshold => .numeric (-40) 150
  | .cooldown => .numeric 0 30
  | .orderRetryLimit => .numeric 1 8
  | .ceiling _ | .absent _ => .numeric 0 10000
  | .absentPermit => .numeric 0 1
  | .retainMask => .bits 0xF 1
  | .parkTimeMax => .numeric 0 1440
  | .keyDeglitch => .listed 20 [50, 100, 200]
  | .canBase => .multiple 0 0x7C0 0x40
  | .canRate => .listed 125 [250, 500]
  | .canRetryLimit => .numeric 1 31
  | .silenceTimeout => .numeric 100 2000

/-- The first listed value at or above the one sent, else the largest (R175). -/
def nextListed (v first : Int) : List Int → Int
  | [] => first
  | x :: xs => if v ≤ first then first else nextListed v x xs

/-- A value brought into range (R175, step 3). -/
def ConfigRange.bring (r : ConfigRange) (sent : Half) : Int :=
  match r with
  | .numeric lo hi => clamp lo hi sent.toInt
  | .listed first rest => nextListed sent.toInt first rest
  | .multiple lo hi unit => clamp lo hi sent.toInt / unit * unit
  | .bits kept always => ((sent &&& kept) ||| always).toNat

/-- s_start < s* < s_stop (R175, R176). -/
def ConfigSet.levelsOrdered (c : ConfigSet) : Bool := c.sStart < c.sTarget && c.sTarget < c.sStop

/-- The fields whose live write is judged by the ordering (R175, step 4). -/
def ConfigField.isLevel : ConfigField → Bool
  | .sTarget | .sStart | .sStop => true
  | _ => false

/-! ## CONFIG_WRITE (R175) -/

/-- The reply payload: the field number and the value as stored (R175, R177). -/
def fieldPayload (f : ConfigField) (c : ConfigSet) : List Byte := natByte f.number :: valueBytes (c.get f)

/-- A write of the crank limit adjusts the crank failure count (R128). -/
def adjustForField (f : ConfigField) (v : Int) (g : Genset) : Genset :=
  match f with
  | .crankLimit => adjustCrankCount v g
  | _ => g

/-- A value stored: in STANDBY the valid mark is cleared with it (R175). -/
def storeField (f : ConfigField) (v : Int) (d : Device) : Device :=
  let c := d.cs.set f v
  (d.withCs (if d.mc.mode = .standby then { c with valid := false } else c)).withGs (adjustForField f v d.gs)

/-- The value sent was changed on its way in. -/
def wasClamped (f : ConfigField) (sent : Half) : Bool := BitVec.ofInt 16 (f.range.bring sent) ≠ sent

/-- A write of a known field (R175, steps 2 to 4). -/
def writeField (f : ConfigField) (sent : Half) (d : Device) : Taken :=
  let v := f.range.bring sent
  if d.mc.mode ≠ .standby && !f.live then d.answered .notNow (fieldPayload f d.cs)
  else if d.mc.mode ≠ .standby && f.isLevel && !(d.cs.set f v).levelsOrdered then
    d.answered .badConfig (fieldPayload f d.cs)
  else
    (storeField f v d).answered (if wasClamped f sent then .clamped else .ok) (fieldPayload f (d.cs.set f v))

/-- The value of the valid mark as it is read (R174, R177). -/
def validBytes (c : ConfigSet) : List Byte := valueBytes (if c.valid then 1 else 0)

/-- The stored value of a field number not in the table, which a refusal's reply has no value for (log 6). -/
def openValue (d : Device) : List Byte := [Config.freeByte d.draws 6, Config.freeByte d.draws 7]

/-- CONFIG_WRITE (R175). -/
def configWriteAct (f : SpiRequest) (d : Device) : Taken :=
  match ConfigField.ofByte (byteAt f.payload 0) with
  | some x => writeField x (halfOf (byteAt f.payload 1) (byteAt f.payload 2)) d
  | none =>
    d.answered .badRequest
      (byteAt f.payload 0 :: if byteAt f.payload 0 = 0 then validBytes d.cs else openValue d)

def configWrite : Device → Device := takeRequest .configWrite configWriteAct

/-- CONFIG_READ (R177). -/
def configReadAct (f : SpiRequest) (d : Device) : Taken :=
  match ConfigField.ofByte (byteAt f.payload 0) with
  | some x => d.answered .ok (fieldPayload x d.cs)
  | none =>
    if byteAt f.payload 0 = 0 then d.answered .ok (0 :: validBytes d.cs)
    else d.answered .badRequest (byteAt f.payload 0 :: openValue d)

def configRead : Device → Device := takeRequest .configRead configReadAct

/-! ## CONFIG_DONE (R176, R147) -/

/-- The base and bit rate of the Configuration Set taken into force (R147): the controller leaves IDLE, or is
re-initialised where they differ from those in force, or stays as it is (log 23). -/
def takeBusForce (c : ConfigSet) (v : BusPort) : BusPort :=
  let v' := { v with baseInForce := c.canBase, rateInForce := c.canRate }
  if v.ctrl = .idle then { v' with ctrl := .active }
  else if c.canBase = v.baseInForce && c.canRate = v.rateInForce then v
  else reinitialise v'

/-- CONFIG_DONE that passes both checks (R176). -/
def configAccepted (d : Device) : Device :=
  (d.withCs { d.cs with valid := true }).withVbp (takeBusForce d.cs d.vbp)

/-- CONFIG_DONE (R176). -/
def configDoneAct (_ : SpiRequest) (d : Device) : Taken :=
  if d.mc.mode = .standby then
    if !d.cs.levelsOrdered then d.answered .badConfig [0x02]
    else if !ascending d.cs.usedPoints then d.answered .badConfig [0x08]
    else (configAccepted d).answered .ok []
  else d.answered .ok []

def configDone : Device → Device := takeRequest .configDone configDoneAct

/-! ## FORCE_GENSET and CLEAR_LOCKOUT (R126, R127) -/

/-- FORCE_GENSET (R126). -/
def forceGensetAct (f : SpiRequest) (d : Device) : Taken :=
  match Force.ofByte (byteAt f.payload 0) with
  | some x => (applyForce x d).answered .ok (applyForce x d).gensetPayload
  | none => d.answered .badRequest d.gensetPayload

def forceGenset : Device → Device := takeRequest .forceGenset forceGensetAct

/-- CLEAR_LOCKOUT (R127). -/
def clearLockoutAct (_ : SpiRequest) (d : Device) : Taken := (clearLockout d).answered .ok (clearLockout d).gensetPayload

def takeClearLockout : Device → Device := takeRequest .clearLockout clearLockoutAct

end Sys2Proof.Machine
end

