-- ==== Sys2Proof/Machine/LinkCmds.lean ====
section
/-! DEFINITION. The Supervisor Link (chapter 9): transactions, its own requests, mirror mode, and the passing of 2 ms at
the head of the Reply FIFO. -/

namespace Sys2Proof.Machine

/-! ## Transactions (R161, R162, R164, R165) -/

/-- Chip select falls (R161). In SLEEP this wakes the device, and the status byte is composed after the wake (R142; log
20). A fall while chip select is low is none. -/
def chipSelectFalling (d : Device) : Device :=
  if d.sl.csLow then d
  else
    let waking : Bool := d.mc.mode = .sleep
    let d := if waking then wake .link d else d
    d.withSl { d.sl with presented := some (present d), csLow := true, waking := waking }

/-- What the judgement of a collected request comes to (R162). -/
inductive Judgement where
  | noRequest
  | frameError
  | crcError
  | frame (f : SpiRequest)
  deriving DecidableEq, Repr

/-- The request frame in the first 4 + n bytes clocked (R162, checks 1 and 2; R173). -/
def judgeFrame (mosi : List Byte) : Judgement :=
  let n := (byteAt mosi 2).toNat
  if mosi.length < 3 || 30 < n || mosi.length < 4 + n then .frameError
  else if byteAt mosi (3 + n) ≠ crc8 (mosi.take (3 + n)) then .crcError
  else .frame { kind := byteAt mosi 0, tag := byteAt mosi 1, payload := (mosi.drop 3).take n }

/-- The request of a transaction: in SLEEP or in a waking transaction discarded with FRAME_ERROR whatever it carried (R142,
R162), also where no byte was clocked or the first one is 0, of which R161 says that it raises no flag (DESIGN CHOICE, log
37); else none where no byte was clocked or the first byte is 0 (R161). -/
def judge (asleep : Bool) (mosi : List Byte) : Judgement :=
  if asleep then .frameError
  else
    match mosi with
    | [] => .noRequest
    | b :: _ => if b = 0 then .noRequest else judgeFrame mosi

/-- A judged request taken into the link (R162): the room check is the last. -/
def Link.receive (l : Link) : Judgement → Link
  | .noRequest => l
  | .frameError => { l with frameError := true }
  | .crcError => { l with crcError := true }
  | .frame f => if l.requests.length < 16 then { l with requests := l.requests ++ [f] } else { l with overrun := true }

/-- The link flags that a status byte shifted out has shown are cleared (R165, R173). -/
def Link.clearShown (status : Byte) (l : Link) : Link :=
  { l with
    frameError := l.frameError && !status.getLsbD 4,
    crcError := l.crcError && !status.getLsbD 3,
    overrun := l.overrun && !status.getLsbD 2 }

/-- The head of the Reply FIFO marked REPEAT (R164). -/
def markRepeat : List ReplyEntry → List ReplyEntry
  | [] => []
  | r :: rs => { r with repeatMark := true } :: rs

/-- The Reply FIFO after a rise with `clocked` bytes (R164). -/
def settleReplies (p : Presented) (clocked : Nat) (l : List ReplyEntry) : List ReplyEntry :=
  match p.source with
  | .head => if p.bytes.length ≤ clocked then l.tail else markRepeat l
  | .idle | .gone => l

/-- The presented reply dealt with at the rise: the flags its status byte showed are cleared where that byte was shifted
out, and its entry leaves the FIFO or is marked REPEAT (R164, R165). -/
def Link.settle (clocked : Nat) (l : Link) : Link :=
  match l.presented with
  | none => l
  | some p =>
    let l := if 1 ≤ clocked then l.clearShown (byteAt p.bytes 0) else l
    { l with replies := settleReplies p clocked l.replies, presented := none }

/-- Chip select rises after `mosi` was clocked (R162, R164). A rise while chip select is high is none. -/
def chipSelectRising (mosi : List Byte) (d : Device) : Device :=
  if d.sl.csLow then
    let l := (d.sl.settle mosi.length).receive (judge (d.sl.waking || d.mc.mode = .sleep) mosi)
    d.withSl { l with csLow := false, waking := false }
  else d

/-! ## The link's own requests -/

/-- The entry that a NOTICE_READ names (R168): by kind where the frame carries one, else that of highest priority;
`none` where no entry answers. -/
def namedNotice (k : Option NoticeKind) (n : NoticeSet) : Option (NoticeKind × NoticeEntry) :=
  (k.or n.top).bind fun k => (n.get k).map fun e => (k, e)

/-- The notice read and removed (R168). Where no entry answers, the reply's count and details are open (log 6). -/
def readNotice (k : Option NoticeKind) (d : Device) : Taken :=
  match namedNotice k d.sl.notices with
  | none =>
    d.answered .ok
      ([0] ++ (List.range 5).map (fun i => Config.freeByte d.draws (6 + i)) ++ [d.sl.notices.mask])
  | some (k, e) =>
    let n := d.sl.notices.set k none
    (d.withSl { d.sl with notices := n }).answered .ok
      ([natByte k.number, natByte e.count] ++ halfBytes e.first ++ halfBytes e.last ++ [n.mask])

/-- NOTICE_READ (R168). -/
def noticeReadAct (f : SpiRequest) (d : Device) : Taken :=
  match f.payload with
  | [] => readNotice none d
  | b :: _ =>
    match NoticeKind.ofByte b with
    | some k => readNotice (some k) d
    | none => d.answered .badRequest (openTail d 0)

def noticeRead : Device → Device := takeRequest .noticeRead noticeReadAct

/-- RESULT_READ (R163). -/
def resultReadAct (_ : SpiRequest) (d : Device) : Taken := d.answered .ok d.se.result.bytes

def resultRead : Device → Device := takeRequest .resultRead resultReadAct

/-- The link emptied by a LINK_RESET (R171); the reply in presentation is kept, its entry gone (R160, R164). -/
def Link.emptied (l : Link) : Link :=
  { l with
    requests := [], replies := [], overrun := false, crcError := false, frameError := false, lostReply := false,
    mirror := false, presented := l.presented.map Presented.orphaned }

/-- LINK_RESET (R171). -/
def linkResetAct (_ : SpiRequest) (d : Device) : Taken := (d.withSl d.sl.emptied).answered .ok []

def linkReset : Device → Device := takeRequest .linkReset linkResetAct

/-- MIRROR (R169). -/
def mirrorAct (f : SpiRequest) (d : Device) : Taken :=
  if byteAt f.payload 0 = 1 then (d.withSl { d.sl with mirror := true }).answered .ok []
  else if byteAt f.payload 0 = 0 then (d.withSl { d.sl with mirror := false }).answered .ok []
  else d.answered .badRequest []

def mirror : Device → Device := takeRequest .mirror mirrorAct

/-- A frame whose kind is MIRROR or LINK_RESET (R170). -/
def SpiRequest.passesMirror (f : SpiRequest) : Bool := f.kind = ReqKind.mirror.code || f.kind = ReqKind.linkReset.code

/-- A mirrored frame: the link's copy of it is the reply (R170). -/
def mirroredFrame : Device → Device :=
  takeHead (fun l f => l.mirror && !f.passesMirror) fun f d => d.answered .ok f.payload

/-- Whether R173's layout gives a reply of this kind no payload under BAD_REQUEST: none in any reply of MIRROR, LINK_RESET
and BUS_RESTART; in one of START_DRIVE, SLEEP and CONFIG_DONE only under other results (DEDUCED, log 34). -/
def ReqKind.bareBadRequest : ReqKind → Bool
  | .mirror | .linkReset | .busRestart | .startDrive | .sleep | .configDone => true
  | _ => false

/-- The payload of the BAD_REQUEST with which the link answers a frame of its own account: none where the layout of the
frame's kind gives none, else open (R173; log 6, log 34). -/
def badRequestPayload (f : SpiRequest) (d : Device) : List Byte :=
  if (ReqKind.ofByte f.kind).any (·.bareBadRequest) then [] else openTail d 0

/-- A frame that the link answers BAD_REQUEST (R163), in mirror mode only one of kind MIRROR or LINK_RESET (R170). -/
def linkBadRequest : Device → Device :=
  takeHead (fun l f => f.accepted.isNone && (!l.mirror || f.passesMirror)) fun f d =>
    d.answered .badRequest (badRequestPayload f d)

/-- The reply at the head of the Reply FIFO passes 2 ms since its entry (R166; log 25). -/
def markAged : List ReplyEntry → List ReplyEntry
  | [] => []
  | r :: rs => { r with aged := true } :: rs

def replyAgeExpiry (d : Device) : Device := d.withSl { d.sl with replies := markAged d.sl.replies }

end Sys2Proof.Machine
end

