-- ==== Sys2Proof/Machine/Pass.lean ====
section
/-! DEFINITION. The life of a pass (sections 5.1, 5.9 to 5.11): its beginning at a split timer expiry and its
completion. -/

namespace Sys2Proof.Machine

/-! ## The beginning (R80, R81) -/

/-- The snapshot (R81). -/
def takeSnapshot (d : Device) : Snapshot :=
  { slots := d.tbl.slots, genset := d.gs.state, mode := d.mc.mode, demandImage := d.se.demandImage, cfg := d.cs }

/-- A RETIRING slot with its retire mark set (R46). -/
def Content.marked : Content → Content
  | .retiring r _ => .retiring r true
  | c => c

/-- Every RETIRING slot has its retire mark set (R81). -/
def markRetiring (d : Device) : Device :=
  d.withTbl { d.tbl with slots := vmap (fun _ s => { s with content := s.content.marked }) d.tbl.slots }

/-- The split period of a mode in ms (R80). -/
def Mode.period : Mode → Nat
  | .park => 100
  | _ => 10

/-- The act of a split timer expiry (R80, R81). -/
def beginPass (d : Device) : Device :=
  let snap := takeSnapshot d
  let d := makeCombination snap (startSplit d.mc.mode.period (markRetiring d))
  d.withSe { d.se with pass := some (computePass snap (combine snap)) }

/-- The split timer expires. A pass in flight at an expiry does not arise (R80; log 19). -/
def splitExpiry (d : Device) : Device :=
  if d.se.timer.isRunning && d.se.pass.isNone then beginPass d else d

/-! ## Answer parts (R84) -/

/-- A grant fitted to an image: lowered to its request, snapped down to its step list, and set to 0 below its floor
(R84). -/
def fitGrant (img : Image) (g : Power) : Power :=
  let g := snapTo img.steps (min g (img.primary.getD 0))
  if img.floor.any fun f => g < f then 0 else g

/-- Two images of a LOAD agree in request, floor and step list (R84). -/
def sameAsk (a b : Image) : Bool := a.primary = b.primary && a.floor = b.floor && a.steps = b.steps

/-- A computed answer fitted to the committed image at completion where it differs from that of the snapshot. Only an
answer of the allotment is fitted; STALE_ZERO and PARK_DORMANT stand (R64, R84; log 15). -/
def fitAnswer (snapped now : Image) (a : Answer) : Answer :=
  if a.reason = .staleZero || a.reason = .parkDormant || sameAsk snapped now then a
  else { grant := fitGrant now a.grant, reason := reasonOf (fitGrant now a.grant) (now.primary.getD 0) }

/-- The answer part that the completion writes for a slot, if any (R84). -/
def writtenAnswer (p : Pass) (i : SlotNo) (now : Slot) : Option Answer :=
  if p.snap.slots[i].generation = now.generation then
    match p.grants[i], p.snap.slots[i].content.record?, now.content with
    | some a, some old, .live r | some a, some old, .stale r => some (fitAnswer old.image r.image a)
    | some _, some _, .retiring _ _ => some { grant := 0, reason := .retiringZero }
    | _, _, _ => none
  else none

/-- The answers that the completion writes, slot by slot. -/
def writtenAnswers (p : Pass) (slots : Vector Slot 48) : Vector (Option Answer) 48 :=
  Vector.ofFn fun i => writtenAnswer p i slots[i]

/-- The slots with the answers written. -/
def writeAnswers (ws : Vector (Option Answer) 48) (slots : Vector Slot 48) : Vector Slot 48 :=
  vmap (fun i s =>
    match ws[i] with
    | some a => { s with content := s.content.mapRecord fun r => { r with answer := some a } }
    | none => s) slots

/-! ## Publication (R102, R103, R105) -/

/-- A figure narrowed to the power range for publication (R86). -/
def publish (x : Power) : Power := clamp (-32768) 32767 x

/-- The shortfall run count after a completion (R103). -/
def nextRun (f : Figures) (run : Nat) : Nat :=
  if f.tractionCut || f.tier0Short then min (run + 1) 255 else 0

/-- The Split Result Record of a completion (R102). -/
def resultOf (p : Pass) (number : Half) (run : Nat) : SplitResult :=
  let f := p.fig
  { passNumber := number, mode := p.snap.mode, genset := p.snap.genset,
    bd := publish f.bd, bc := publish f.bc, gav := publish f.gav, md := publish f.md, mr := publish f.mr,
    s := f.s, speed := f.speed, d := publish f.d, tm := publish f.tm, p := publish f.p, tg := publish f.tg,
    regenCut := publish f.regenCut, n := publish f.n, pp := publish f.pp, gd := publish f.gd, gset := publish f.gset,
    pb := publish f.pb,
    tractionCut := f.tractionCut, tier0Short := f.tier0Short, regenCutFlag := f.regenCutFlag, offpoint := f.offpoint,
    boundDefaulted := f.boundDefaulted, socStale := f.socStale, socDefaulted := f.socDefaulted, runCount := run }

/-- The Split Engine after a completion (R83). -/
def SplitEngine.completed (p : Pass) (e : SplitEngine) : SplitEngine :=
  { e with
    pass := none, demandImage := p.fig.d, passNumber := e.passNumber + 1,
    result := resultOf p (e.passNumber + 1) (nextRun p.fig e.shortfall), shortfall := nextRun p.fig e.shortfall }

/-- The detail of a SHORTFALL notice: 1 TRACTION, 2 TIER0, 3 BOTH (R105, R173). -/
def shortfallDetail (f : Figures) : Half :=
  if f.tractionCut && f.tier0Short then 3 else if f.tractionCut then 1 else 2

/-- SHORTFALL is raised at the completion at which the run count becomes 3 (R105). -/
def raiseShortfall (f : Figures) (before : Nat) (d : Device) : Device :=
  if before ≠ 3 && nextRun f before = 3 then raise .shortfall (shortfallDetail f) d else d

/-! ## Awards (R85, R156) -/

/-- The award that a completion hands the port for a slot: that of a peer-owned LOAD whose answer part was written and
whose owner has a roster entry. -/
def handedAward (ws : Vector (Option Answer) 48) (d : Device) (i : SlotNo) : Option AwardEntry :=
  match ws[i], (d.slot i).content.owner? with
  | some a, some o =>
    if o ≠ 0 && d.enrolled o then some { slot := i, generation := (d.slot i).generation, answer := a } else none
  | _, _ => none

/-- The awards that a completion hands the port. -/
def handedAwards (ws : Vector (Option Answer) 48) (d : Device) : List AwardEntry :=
  (List.finRange 48).filterMap (handedAward ws d)

/-- What becomes of an entry queued before the completion: removed where the peer already holds the new value, else its
grant and reason are replaced in place. -/
def updateEntry (new : List AwardEntry) (last : Vector (Option Answer) 48) (e : AwardEntry) : Option AwardEntry :=
  match new.find? fun a => a.slot = e.slot with
  | none => some e
  | some a => if last[e.slot] = some a.answer then none else some { e with answer := a.answer }

/-- The handed awards that are added to the queue. -/
def addedEntries (new : List AwardEntry) (last : Vector (Option Answer) 48) (queue : List AwardEntry) :
    List AwardEntry :=
  new.filter fun a => last[a.slot] ≠ some a.answer && !(queue.any fun e => e.slot = a.slot)

/-- The entries added by one completion in their order, which the manual leaves open (log 16). -/
def rankEntries (draws : Nat) (l : List AwardEntry) : List AwardEntry :=
  l.insertionSort fun a b => Config.awardRank draws a.slot.val ≤ Config.awardRank draws b.slot.val

/-- The awards handed to the port and merged into its award queue (R156). -/
def queueAwards (new : List AwardEntry) (d : Device) : Device :=
  (d.withVbp { d.vbp with
    awardQueue := d.vbp.awardQueue.filterMap (updateEntry new d.vbp.lastAward) ++
      rankEntries d.draws (addedEntries new d.vbp.lastAward d.vbp.awardQueue) }).draw

/-! ## The completion -/

/-- What the completion hands the Genset Sequencer (R106). -/
def handedFigures (p : Pass) (run : Nat) : Handed :=
  { gset := p.fig.gset, n := p.fig.n, pp := p.fig.pp, runCount := run, mode := p.snap.mode }

/-- The part of the completion that is the Split Engine's: answer parts, record, notice, marked slots freed (R83). -/
def publishPass (p : Pass) (d : Device) : Device :=
  let d' := d.withTbl { d.tbl with slots := writeAnswers (writtenAnswers p d.tbl.slots) d.tbl.slots }
  let d' := raiseShortfall p.fig d.se.shortfall (d'.withSe (d.se.completed p))
  freeSlots (fun i => (d.slot i).content.isMarked) d'

/-- A pass completes: one act (R83), followed at once by the floor timer check (R137) and by a pending SLEEP entry
(R138). -/
def completePass (p : Pass) (d : Device) : Device :=
  let d' := publishPass p d
  let d' := queueAwards (handedAwards (writtenAnswers p d.tbl.slots) d') d'
  let d' := evaluate (handedFigures p d'.se.shortfall) d'
  sleepIfPending (floorCheck p.snap.mode d')

/-- The pass in flight completes. -/
def passCompletion (d : Device) : Device :=
  match d.se.pass with
  | some p => completePass p d
  | none => d

end Sys2Proof.Machine
end

