-- ==== Sys2Proof/Machine/Commands.lean ====
section
/-! DEFINITION. The meaning of each command: its act on the device; the queue is step's alone. No command faults or is
refused: the manual gives each an outcome in every state, and one whose event cannot take place in the state at hand
leaves it as it is (log 1). -/

namespace Sys2Proof.Machine

/-- An act on the device as a command's outcome. -/
def onDevice (f : Device → Device) (s : State) : Host.Outcome State Fault Refusal := .next { s with dev := f s.dev }

/-- The edit timer of bank `b` expires; there are four banks (R1). -/
def editExpiryOf (b : Nat) (d : Device) : Device := if h : b < 4 then editExpiry ⟨b, h⟩ d else d

/-- The renewal timer of slot `i` expires; there are 48 slots (R1). -/
def renewalExpiryOf (i : Nat) (d : Device) : Device := if h : i < 48 then renewalExpiry ⟨i, h⟩ d else d

/-- DEVICE_RESET (R22). -/
def execDeviceReset (rawKey : Bool) (straps : SpiMode) (s : State) : Host.Outcome State Fault Refusal :=
  onDevice (deviceReset rawKey straps) s

/-- CLAIM (R30). -/
def execClaim (s : State) : Host.Outcome State Fault Refusal := onDevice takeClaim s

/-- AMEND (R33). -/
def execAmend (s : State) : Host.Outcome State Fault Refusal := onDevice takeAmend s

/-- AMEND_COMMIT (R35). -/
def execAmendCommit (s : State) : Host.Outcome State Fault Refusal := onDevice takeAmendCommit s

/-- COMMIT (R36). -/
def execCommit (s : State) : Host.Outcome State Fault Refusal := onDevice takeCommit s

/-- RENEW (R57). -/
def execRenew (s : State) : Host.Outcome State Fault Refusal := onDevice takeRenew s

/-- RENEW_WITH_VALUE (R59). -/
def execRenewWithValue (s : State) : Host.Outcome State Fault Refusal := onDevice takeRenewWithValue s

/-- RELEASE (R43). -/
def execRelease (s : State) : Host.Outcome State Fault Refusal := onDevice takeRelease s

/-- PURGE (R44). -/
def execPurge (s : State) : Host.Outcome State Fault Refusal := onDevice takePurge s

/-- QUERY (R19). -/
def execQuery (s : State) : Host.Outcome State Fault Refusal := onDevice takeQuery s

/-- QUERY_FIELD (R20). -/
def execQueryField (s : State) : Host.Outcome State Fault Refusal := onDevice takeQueryField s

/-- LOOKUP (R21). -/
def execLookup (s : State) : Host.Outcome State Fault Refusal := onDevice takeLookup s

/-- CONFIG_WRITE (R175). -/
def execConfigWrite (s : State) : Host.Outcome State Fault Refusal := onDevice configWrite s

/-- CONFIG_READ (R177). -/
def execConfigRead (s : State) : Host.Outcome State Fault Refusal := onDevice configRead s

/-- CONFIG_DONE (R176). -/
def execConfigDone (s : State) : Host.Outcome State Fault Refusal := onDevice configDone s

/-- START_DRIVE (R131). -/
def execStartDrive (s : State) : Host.Outcome State Fault Refusal := onDevice startDrive s

/-- SLEEP (R140). -/
def execSleep (s : State) : Host.Outcome State Fault Refusal := onDevice sleepRequest s

/-- FORCE_GENSET (R126). -/
def execForceGenset (s : State) : Host.Outcome State Fault Refusal := onDevice forceGenset s

/-- CLEAR_LOCKOUT (R127). -/
def execClearLockout (s : State) : Host.Outcome State Fault Refusal := onDevice takeClearLockout s

/-- NOTICE_READ (R168). -/
def execNoticeRead (s : State) : Host.Outcome State Fault Refusal := onDevice noticeRead s

/-- RESULT_READ (R163). -/
def execResultRead (s : State) : Host.Outcome State Fault Refusal := onDevice resultRead s

/-- ROSTER_READ (R153). -/
def execRosterRead (s : State) : Host.Outcome State Fault Refusal := onDevice rosterRead s

/-- LINK_RESET (R171). -/
def execLinkReset (s : State) : Host.Outcome State Fault Refusal := onDevice linkReset s

/-- BUS_RESTART (R159). -/
def execBusRestart (s : State) : Host.Outcome State Fault Refusal := onDevice busRestart s

/-- MIRROR (R169). -/
def execMirror (s : State) : Host.Outcome State Fault Refusal := onDevice mirror s

/-- MIRRORED_FRAME (R170). -/
def execMirroredFrame (s : State) : Host.Outcome State Fault Refusal := onDevice mirroredFrame s

/-- LINK_BAD_REQUEST (R163). -/
def execLinkBadRequest (s : State) : Host.Outcome State Fault Refusal := onDevice linkBadRequest s

/-- HELLO (R150). -/
def execHello (s : State) : Host.Outcome State Fault Refusal := onDevice hello s

/-- ENGINE_REPORT (R109). -/
def execEngineReport (s : State) : Host.Outcome State Fault Refusal := onDevice engineReport s

/-- CHIP_SELECT_FALLING (R161). -/
def execChipSelectFalling (s : State) : Host.Outcome State Fault Refusal := onDevice chipSelectFalling s

/-- CHIP_SELECT_RISING (R162). -/
def execChipSelectRising (mosi : List Byte) (s : State) : Host.Outcome State Fault Refusal :=
  onDevice (chipSelectRising mosi) s

/-- FRAME_RECEIVED (R148). -/
def execFrameReceived (frame : CanFrame) (s : State) : Host.Outcome State Fault Refusal :=
  onDevice (frameReceived frame) s

/-- TRANSMISSION_START (R154). -/
def execTransmissionStart (s : State) : Host.Outcome State Fault Refusal := onDevice transmissionStart s

/-- FRAME_SENT (R155). -/
def execFrameSent (s : State) : Host.Outcome State Fault Refusal := onDevice frameSent s

/-- ARBITRATION_LOST (R155). -/
def execArbitrationLost (s : State) : Host.Outcome State Fault Refusal := onDevice arbitrationLost s

/-- TRANSMIT_ERROR (R155). -/
def execTransmitError (s : State) : Host.Outcome State Fault Refusal := onDevice transmitError s

/-- BUS_OFF_REJOIN (R158). -/
def execBusOffRejoin (s : State) : Host.Outcome State Fault Refusal := onDevice busOffRejoin s

/-- AWARD_TO_TRANSMIT_QUEUE (R156). -/
def execAwardToTransmitQueue (s : State) : Host.Outcome State Fault Refusal := onDevice awardToQueue s

/-- PEER_LOSS_PURGE_SET (R152). -/
def execPeerLossPurgeSet (node : Nat) (s : State) : Host.Outcome State Fault Refusal :=
  onDevice (peerLossPurge node) s

/-- PARK_ENTRY_PURGE_SET (R135). -/
def execParkEntryPurgeSet (s : State) : Host.Outcome State Fault Refusal := onDevice parkEntryPurge s

/-- EDIT_TIMER_EXPIRY (R40). -/
def execEditTimerExpiry (bank : Nat) (s : State) : Host.Outcome State Fault Refusal :=
  onDevice (editExpiryOf bank) s

/-- RENEWAL_EXPIRY (R50). -/
def execRenewalExpiry (slot : Nat) (s : State) : Host.Outcome State Fault Refusal :=
  onDevice (renewalExpiryOf slot) s

/-- SPLIT_TIMER_EXPIRY (R81). -/
def execSplitTimerExpiry (s : State) : Host.Outcome State Fault Refusal := onDevice splitExpiry s

/-- PASS_COMPLETION (R83). -/
def execPassCompletion (s : State) : Host.Outcome State Fault Refusal := onDevice passCompletion s

/-- CRANK_TIMER_EXPIRY (R115). -/
def execCrankTimerExpiry (s : State) : Host.Outcome State Fault Refusal := onDevice crankExpiry s

/-- WARM_TIMER_EXPIRY (R117). -/
def execWarmTimerExpiry (s : State) : Host.Outcome State Fault Refusal := onDevice warmExpiry s

/-- COOLDOWN_TIMER_EXPIRY (R121). -/
def execCooldownTimerExpiry (s : State) : Host.Outcome State Fault Refusal := onDevice cooldownExpiry s

/-- MIN_ON_TIMER_EXPIRY (R108). -/
def execMinOnTimerExpiry (s : State) : Host.Outcome State Fault Refusal := onDevice minOnExpiry s

/-- MIN_OFF_TIMER_EXPIRY (R108). -/
def execMinOffTimerExpiry (s : State) : Host.Outcome State Fault Refusal := onDevice minOffExpiry s

/-- ACKNOWLEDGEMENT_TIMER_EXPIRY (R111). -/
def execAcknowledgementTimerExpiry (s : State) : Host.Outcome State Fault Refusal := onDevice ackExpiry s

/-- KEY_LEVEL_CHANGE (R130). -/
def execKeyLevelChange (level : Bool) (s : State) : Host.Outcome State Fault Refusal :=
  onDevice (keyChange level) s

/-- DEGLITCH_TIMER_EXPIRY (R130). -/
def execDeglitchTimerExpiry (s : State) : Host.Outcome State Fault Refusal := onDevice deglitchExpiry s

/-- PARK_TIMER_EXPIRY (R136). -/
def execParkTimerExpiry (s : State) : Host.Outcome State Fault Refusal := onDevice parkExpiry s

/-- FLOOR_TIMER_EXPIRY (R137). -/
def execFloorTimerExpiry (s : State) : Host.Outcome State Fault Refusal := onDevice floorExpiry s

/-- SILENCE_EXPIRY (R151). -/
def execSilenceExpiry (node : Nat) (s : State) : Host.Outcome State Fault Refusal :=
  onDevice (silenceExpiry node) s

/-- PEER_DECLARED_LOST (R152). -/
def execPeerDeclaredLost (node : Nat) (s : State) : Host.Outcome State Fault Refusal :=
  onDevice (peerDeclaredLost node) s

/-- REPLY_AGE_EXPIRY (R166). -/
def execReplyAgeExpiry (s : State) : Host.Outcome State Fault Refusal := onDevice replyAgeExpiry s

/-- BUS_ACTIVITY (R158). -/
def execBusActivity (s : State) : Host.Outcome State Fault Refusal := onDevice busActivity s

/-- UNKNOWN_KIND_RECORD_REQUEST (R28). -/
def execUnknownKindRecordRequest (s : State) : Host.Outcome State Fault Refusal := onDevice takeUnknown s

end Sys2Proof.Machine
end

