-- ==== Sys2Proof/Machine/Dispatch.lean ====
section
/-! DEFINITION. The dispatch: one arm for each command, one direct call of its meaning. -/

namespace Sys2Proof.Machine

def exec (i : Instr) (s : State) : Host.Outcome State Fault Refusal :=
  match i with
  | .deviceReset rawKey straps => Sys2Proof.Machine.execDeviceReset rawKey straps s
  | .claim => Sys2Proof.Machine.execClaim s
  | .amend => Sys2Proof.Machine.execAmend s
  | .amendCommit => Sys2Proof.Machine.execAmendCommit s
  | .commit => Sys2Proof.Machine.execCommit s
  | .renew => Sys2Proof.Machine.execRenew s
  | .renewWithValue => Sys2Proof.Machine.execRenewWithValue s
  | .release => Sys2Proof.Machine.execRelease s
  | .purge => Sys2Proof.Machine.execPurge s
  | .query => Sys2Proof.Machine.execQuery s
  | .queryField => Sys2Proof.Machine.execQueryField s
  | .lookup => Sys2Proof.Machine.execLookup s
  | .configWrite => Sys2Proof.Machine.execConfigWrite s
  | .configRead => Sys2Proof.Machine.execConfigRead s
  | .configDone => Sys2Proof.Machine.execConfigDone s
  | .startDrive => Sys2Proof.Machine.execStartDrive s
  | .sleep => Sys2Proof.Machine.execSleep s
  | .forceGenset => Sys2Proof.Machine.execForceGenset s
  | .clearLockout => Sys2Proof.Machine.execClearLockout s
  | .noticeRead => Sys2Proof.Machine.execNoticeRead s
  | .resultRead => Sys2Proof.Machine.execResultRead s
  | .rosterRead => Sys2Proof.Machine.execRosterRead s
  | .linkReset => Sys2Proof.Machine.execLinkReset s
  | .busRestart => Sys2Proof.Machine.execBusRestart s
  | .mirror => Sys2Proof.Machine.execMirror s
  | .mirroredFrame => Sys2Proof.Machine.execMirroredFrame s
  | .linkBadRequest => Sys2Proof.Machine.execLinkBadRequest s
  | .hello => Sys2Proof.Machine.execHello s
  | .engineReport => Sys2Proof.Machine.execEngineReport s
  | .chipSelectFalling => Sys2Proof.Machine.execChipSelectFalling s
  | .chipSelectRising mosi => Sys2Proof.Machine.execChipSelectRising mosi s
  | .frameReceived frame => Sys2Proof.Machine.execFrameReceived frame s
  | .transmissionStart => Sys2Proof.Machine.execTransmissionStart s
  | .frameSent => Sys2Proof.Machine.execFrameSent s
  | .arbitrationLost => Sys2Proof.Machine.execArbitrationLost s
  | .transmitError => Sys2Proof.Machine.execTransmitError s
  | .busOffRejoin => Sys2Proof.Machine.execBusOffRejoin s
  | .awardToTransmitQueue => Sys2Proof.Machine.execAwardToTransmitQueue s
  | .peerLossPurgeSet node => Sys2Proof.Machine.execPeerLossPurgeSet node s
  | .parkEntryPurgeSet => Sys2Proof.Machine.execParkEntryPurgeSet s
  | .editTimerExpiry bank => Sys2Proof.Machine.execEditTimerExpiry bank s
  | .renewalExpiry slot => Sys2Proof.Machine.execRenewalExpiry slot s
  | .splitTimerExpiry => Sys2Proof.Machine.execSplitTimerExpiry s
  | .passCompletion => Sys2Proof.Machine.execPassCompletion s
  | .crankTimerExpiry => Sys2Proof.Machine.execCrankTimerExpiry s
  | .warmTimerExpiry => Sys2Proof.Machine.execWarmTimerExpiry s
  | .cooldownTimerExpiry => Sys2Proof.Machine.execCooldownTimerExpiry s
  | .minOnTimerExpiry => Sys2Proof.Machine.execMinOnTimerExpiry s
  | .minOffTimerExpiry => Sys2Proof.Machine.execMinOffTimerExpiry s
  | .acknowledgementTimerExpiry => Sys2Proof.Machine.execAcknowledgementTimerExpiry s
  | .keyLevelChange level => Sys2Proof.Machine.execKeyLevelChange level s
  | .deglitchTimerExpiry => Sys2Proof.Machine.execDeglitchTimerExpiry s
  | .parkTimerExpiry => Sys2Proof.Machine.execParkTimerExpiry s
  | .floorTimerExpiry => Sys2Proof.Machine.execFloorTimerExpiry s
  | .silenceExpiry node => Sys2Proof.Machine.execSilenceExpiry node s
  | .peerDeclaredLost node => Sys2Proof.Machine.execPeerDeclaredLost node s
  | .replyAgeExpiry => Sys2Proof.Machine.execReplyAgeExpiry s
  | .busActivity => Sys2Proof.Machine.execBusActivity s
  | .unknownKindRecordRequest => Sys2Proof.Machine.execUnknownKindRecordRequest s

end Sys2Proof.Machine
end

