-- ==== Sys2Proof/Machine/Tick.lean ====
section
/-! DEFINITION. The passing of 1 ms, which is what step does on an empty queue (log 2). No timer acts here: the expiries
are commands. -/

namespace Sys2Proof.Machine

/-- 1 ms less on a running timer, not below 0. -/
def Timer.tick : Timer → Timer
  | .stopped => .stopped
  | .running n => .running (n - 1)

def PhaseTimer.tick : PhaseTimer → PhaseTimer
  | .running n => .running (n - 1)
  | t => t

def EditBuffer.tick (e : EditBuffer) : EditBuffer := { e with timer := e.timer - 1 }

def RenewalEntry.tick (e : RenewalEntry) : RenewalEntry := { e with timer := e.timer.tick }

def InFlight.tick (o : InFlight) : InFlight := { o with timer := o.timer - 1 }

def Genset.tick (g : Genset) : Genset :=
  { g with
    inFlight := g.inFlight.map InFlight.tick, crankTimer := g.crankTimer.tick, warmTimer := g.warmTimer.tick,
    cooldownTimer := g.cooldownTimer.tick, minOn := g.minOn.tick, minOff := g.minOff.tick }

def ModeController.tick (m : ModeController) : ModeController :=
  { m with
    deglitchTimer := m.deglitchTimer.tick, parkTimer := m.parkTimer.tick, floorTimer := m.floorTimer.tick }

def RosterEntry.tick (e : RosterEntry) : RosterEntry := { e with silence := e.silence + 1 }

def BusPort.tick (v : BusPort) : BusPort :=
  { v with roster := v.roster.map RosterEntry.tick, busSilence := v.busSilence.tick }

/-- The device 1 ms later. -/
def tick (d : Device) : Device :=
  { d with
    now := d.now + 1,
    tbl := { d.tbl with buffers := d.tbl.buffers.map (·.map EditBuffer.tick) },
    rta := d.rta.map RenewalEntry.tick,
    se := { d.se with timer := d.se.timer.tick },
    gs := d.gs.tick,
    mc := d.mc.tick,
    vbp := d.vbp.tick }

end Sys2Proof.Machine
end

