-- ==== Sys2Proof/WellFormed.lean ====
section
/-! DEFINITION. Which commands are well formed: the operand ranges the manual gives. -/

namespace Sys2Proof

/-- A peer's node id is 1 to 30 (00_scope, "Handles and owners"). -/
abbrev isNode (n : Nat) : Bool := 1 ≤ n && n ≤ 30

/-- A frame the CAN bus can carry: an 11-bit or a 29-bit identifier, at most 8 data bytes, none in a remote frame
(R146). -/
def CanFrame.wellFormed (f : CanFrame) : Bool :=
  (if f.extended then f.ident < 2 ^ 29 else f.ident < 2 ^ 11) && f.data.length ≤ 8 && (!f.remote || f.data.isEmpty)

/-- Well-formed commands: slots 0 to 47, banks 0 to 3, nodes 1 to 30, frames the bus can carry. -/
def Instr.wellFormed : Instr → Bool
  | .frameReceived f => f.wellFormed
  | .peerLossPurgeSet n | .silenceExpiry n | .peerDeclaredLost n => isNode n
  | .editTimerExpiry b => b < 4
  | .renewalExpiry i => i < 48
  | .deviceReset _ _ | .claim | .amend | .amendCommit | .commit | .renew | .renewWithValue | .release | .purge | .query
  | .queryField | .lookup | .configWrite | .configRead | .configDone | .startDrive | .sleep | .forceGenset
  | .clearLockout | .noticeRead | .resultRead | .rosterRead | .linkReset | .busRestart | .mirror | .mirroredFrame
  | .linkBadRequest | .hello | .engineReport | .chipSelectFalling | .chipSelectRising _ | .transmissionStart
  | .frameSent | .arbitrationLost | .transmitError | .busOffRejoin | .awardToTransmitQueue | .parkEntryPurgeSet
  | .splitTimerExpiry | .passCompletion | .crankTimerExpiry | .warmTimerExpiry | .cooldownTimerExpiry
  | .minOnTimerExpiry | .minOffTimerExpiry | .acknowledgementTimerExpiry | .keyLevelChange _ | .deglitchTimerExpiry
  | .parkTimerExpiry | .floorTimerExpiry | .replyAgeExpiry | .busActivity | .unknownKindRecordRequest => true

end Sys2Proof
end

