-- ==== Sys2Proof/Safety.lean ====
section
/-! DEFINITION. What a sound state of the device is, in the terms that claims use: one predicate for each promise that
the manual makes of every moment. Each is decidable. No command faults or is refused, so a safe run is one whose states
are sound. -/

namespace Sys2Proof.Machine

/-! ## Buffers and queues -/

/-- Every FIFO, buffer, queue and the roster within its capacity (R145, R160); at most one award entry for a slot
(R156). -/
abbrev QueueSound (d : Device) : Prop :=
  d.sl.requests.length ≤ 16 ∧ d.sl.replies.length ≤ 16 ∧ d.vbp.rx.length ≤ 8 ∧ d.vbp.tx.count ≤ 24 ∧
    d.vbp.roster.length ≤ 16 ∧ (d.vbp.awardQueue.map (·.slot)).Nodup

/-- The waiting frames of the ORDER class, the frame in transmission apart. -/
def TxQueue.waitingOrders (q : TxQueue) : List TxFrame := if q.orderInTx then q.orders.tail else q.orders

/-- The ORDER class holds at most one waiting START or STOP and at most one waiting SETPOINT, and nothing else (R154). -/
abbrev OrderSound (d : Device) : Prop :=
  (d.vbp.tx.waitingOrders.filter TxFrame.isOrder).length ≤ 1 ∧
    (d.vbp.tx.waitingOrders.filter TxFrame.isSetpoint).length ≤ 1 ∧
    ∀ f ∈ d.vbp.tx.orders, f.isOrder || f.isSetpoint

/-! ## Roster -/

/-- The roster lies in strictly ascending node ids from 1 to 30, with at most one ENGINE (R145, R150), and every frame in
the receive buffer comes from such a node (R146). -/
abbrev RosterSound (d : Device) : Prop :=
  (d.vbp.roster.map (·.node)).Pairwise (· < ·) ∧ (∀ e ∈ d.vbp.roster, isNode e.node) ∧
    (d.vbp.roster.filter fun e => e.role = .engine).length ≤ 1 ∧ ∀ f ∈ d.vbp.rx, isNode f.node

/-! ## Allotment Table -/

/-- An open Edit Buffer is open for a DRAFT, LIVE or STALE slot of its own bank, and a DRAFT has its bank's buffer open
for it (R2, R5). -/
abbrev BufferSound (d : Device) : Prop :=
  (∀ b : BankNo, ∀ e ∈ d.buffer b,
    bankOf e.slot = b ∧ ((d.slot e.slot).content.isDraft || (d.slot e.slot).content.isUsed)) ∧
  ∀ i : SlotNo, (d.slot i).content.isDraft → d.underEdit i

/-- Two records that R18 does not admit together: one label twice for an owner, two DEMANDs, two MEASUREs of one
quantity. -/
def Identity.excludes (x y : Identity) : Bool :=
  (x.owner = y.owner && x.label = y.label) || (x.cls = .demand && y.cls = .demand) ||
    (x.cls = y.cls && x.cls.kindCode = 3)

/-- Uniqueness (R18). -/
abbrev UniqueSound (d : Device) : Prop :=
  ∀ i j : SlotNo, i ≠ j → ∀ x ∈ (d.slot i).content.ident?, ∀ y ∈ (d.slot j).content.ident?, x.excludes y = false

/-- Every non-FREE record that is not RETIRING is owned by SUPERVISOR or by a peer in the roster (R45). -/
abbrev OwnerSound (d : Device) : Prop :=
  ∀ i : SlotNo, ((d.slot i).content.isDraft || (d.slot i).content.isUsed) →
    ∀ o ∈ (d.slot i).content.owner?, o = 0 ∨ d.enrolled o

/-- A value lies in an interval. -/
abbrev within (lo hi v : Int) : Prop := lo ≤ v ∧ v ≤ hi

/-- A LOAD's fields in their ranges (R13, R14). -/
abbrev LoadFields.InRange (l : LoadFields) : Prop :=
  (∀ q ∈ l.request, within 0 32767 q) ∧ (∀ f ∈ l.floor, within 1 32767 f) ∧ l.tier ≤ 3 ∧ l.steps.count ≤ 6 ∧
    ∀ n : Fin 6, within 1 32767 l.steps.places[n]

/-- A body is that of its record's kind, its fields in their ranges (R12 to R17). -/
def Body.inRange (c : RecordClass) (b : Body) : Bool :=
  match c, b with
  | .demand, .demand p => within (-32768) 32767 p
  | .load, .load l => l.InRange
  | .bound q, .bound v f => (v.all fun x => within q.range.1 q.range.2 x) && f.all fun x => within q.range.1 q.range.2 x
  | .measure q, .measure v => v.all fun x => within q.range.1 q.range.2 x
  | _, _ => false

/-- An image of a record of class `c` in its ranges (R9, R11). -/
abbrev Image.InRange (c : RecordClass) (img : Image) : Prop :=
  img.period ≤ 250 ∧ 1 ≤ img.tolerance ∧ img.tolerance ≤ 8 ∧ img.body.inRange c

/-- A committed record: its image in range and passing the validation of COMMIT (R36), an answer part exactly for a LOAD
(R15). -/
abbrev Record.Sound (r : Record) : Prop :=
  r.image.InRange r.ident.cls ∧ firstFailing r.ident.owner r.image = none ∧ (r.answer.isSome ↔ r.ident.cls = .load)

/-- Every committed record sound, and every working image in the ranges of its slot's kind. -/
abbrev ImageSound (d : Device) : Prop :=
  (∀ i : SlotNo, ∀ r ∈ (d.slot i).content.record?, r.Sound) ∧
  ∀ b : BankNo, ∀ e ∈ d.buffer b, ∀ x ∈ (d.slot e.slot).content.ident?, e.image.InRange x.cls

/-! ## Renewal Timer Array -/

/-- A renewal timer runs only for a LIVE or STALE record with a nonzero period in force; a FREE or DRAFT slot has a lapse
count of 0, and no count passes 15 (R48). -/
abbrev RenewalSound (d : Device) : Prop :=
  ∀ i : SlotNo,
    ((d.rtaOf i).timer.isRunning → (d.slot i).content.isUsed ∧ (d.rtaOf i).periodInForce ≠ 0) ∧
    ((d.slot i).content.isFree || (d.slot i).content.isDraft → (d.rtaOf i).lapse = 0) ∧ (d.rtaOf i).lapse ≤ 15

/-! ## Modes and genset -/

/-- The Mode Controller's promises: which timers run in which mode (R80, R129), when a pass can be in flight (R80), a
pending SLEEP waits in PARK for a pass (R138), the KEY levels (R130, R139). -/
abbrev ModeSound (d : Device) : Prop :=
  (d.mc.parkTimer.isRunning → d.mc.mode = .park) ∧ (d.mc.floorTimer.isRunning → d.mc.mode = .park) ∧
    (d.se.timer.isRunning ↔ d.mc.mode.noPasses = false) ∧ (d.se.pass.isSome → d.mc.mode.noPasses = false) ∧
    (d.mc.sleepPending.isSome → d.mc.mode = .park ∧ d.se.pass.isSome) ∧
    (d.mc.deglitchTimer.isRunning ↔ d.mc.rawKey ≠ d.mc.key) ∧
    (d.mc.mode = .drive → d.mc.key = true) ∧ (d.mc.mode = .park ∨ d.mc.mode = .sleep → d.mc.key = false)

/-- In STANDBY and SLEEP the table is empty (R23); in SLEEP no request waits and the roster is empty (R139, R144). -/
abbrev EmptySound (d : Device) : Prop :=
  (d.mc.mode.noPasses → (∀ i : SlotNo, (d.slot i).content.isFree) ∧ ∀ b : BankNo, d.buffer b = none) ∧
    (d.mc.mode = .sleep → d.sl.requests = [] ∧ d.vbp.rx = [] ∧ d.vbp.roster = [] ∧ d.vbp.awardQueue = [])

/-- The crank failure count never exceeds the crank limit and equals it exactly in LOCKOUT (R115, R128); outside DRIVE
the genset is OFF or in LOCKOUT (R107, R139); the crank, warm and cooldown timers run in their own states alone (R108). -/
abbrev GensetSound (d : Device) : Prop :=
  1 ≤ d.cs.crankLimit ∧ (d.gs.crankCount : Int) ≤ d.cs.crankLimit ∧
    (d.gs.state = .lockout ↔ (d.gs.crankCount : Int) = d.cs.crankLimit) ∧ (d.mc.mode ≠ .drive → d.gs.state.atRest) ∧
    (d.gs.crankTimer.isRunning → d.gs.state = .cranking) ∧ (d.gs.warmTimer.isRunning → d.gs.state = .warmup) ∧
    (d.gs.cooldownTimer.isRunning → d.gs.state = .cooldown)

/-! ## Configuration -/

/-- A value that a field's range admits (R174). -/
def ConfigRange.admits (r : ConfigRange) (v : Int) : Bool :=
  match r with
  | .numeric lo hi => within lo hi v
  | .listed first rest => v ∈ first :: rest
  | .multiple lo hi unit => within lo hi v && v % unit = 0
  | .bits kept always => 0 ≤ v && v ≤ 0xFFFF && BitVec.ofInt 16 v &&& kept = BitVec.ofInt 16 v &&
      BitVec.ofInt 16 v &&& always = always

/-- Every configuration field in its range (R174). -/
abbrev ConfigSet.InRange (c : ConfigSet) : Prop := ∀ f ∈ ConfigField.all, f.range.admits (c.get f)

/-- The valid mark stands only over ordered charge levels and ascending operating points, and it stands in every mode but
STANDBY (R175, R176). -/
abbrev ConfigSound (d : Device) : Prop :=
  d.cs.InRange ∧ (d.cs.valid → d.cs.levelsOrdered ∧ ascending d.cs.usedPoints) ∧ (d.mc.mode ≠ .standby → d.cs.valid)

/-! ## Passes -/

/-- What a pass may rest on: every LIVE or STALE record of the snapshot sound, the configuration in its ranges. -/
abbrev Snapshot.Sound (s : Snapshot) : Prop :=
  (∀ i : SlotNo, ∀ r ∈ s.slots[i].content.record?, r.Sound) ∧ s.cfg.InRange

/-- The pass in flight, where there is one, is the computation on its own snapshot (R81), and that snapshot is sound. -/
abbrev PassSound (d : Device) : Prop :=
  ∀ p ∈ d.se.pass, p = computePass p.snap (combine p.snap) ∧ p.snap.Sound

/-- Every record that the snapshot of the pass in flight holds LIVE or STALE is still held by its slot, under the same
generation and identity: it can have entered RETIRING, but is not freed before the completion (R46, R47). -/
abbrev HeldSound (d : Device) : Prop :=
  ∀ p ∈ d.se.pass, ∀ i : SlotNo, p.snap.slots[i].content.isUsed →
    (d.slot i).generation = p.snap.slots[i].generation ∧ (d.slot i).content.record?.isSome ∧
      (d.slot i).content.ident? = p.snap.slots[i].content.ident?

/-! ## Records in the terms of chapters 1 and 2 -/

/-- `v` is `x` brought into an interval: raised to its bottom or lowered to its top where it lies outside (00_scope,
clamp; R11). -/
abbrev Brought (lo hi x v : Int) : Prop := (x < lo → v = lo) ∧ (hi < x → v = hi) ∧ (within lo hi x → v = x)

/-- A declared field of an image: `none` where it is absent or the image's kind does not have it (R9, R12 to R17). A flag
is 0 or 1, and a step count of 0 says that there is no step list (R14). -/
def Image.fieldOf (img : Image) (f : FieldId) : Option Int :=
  match f, img.body with
  | .period, _ => some img.period
  | .tolerance, _ => some img.tolerance
  | .demand, .demand p => some p
  | .request, .load l => l.request
  | .floor, .load l => l.floor
  | .tier, .load l => some l.tier
  | .parkCapable, .load l => some (if l.parkCapable then 1 else 0)
  | .stepCount, .load l => some l.steps.count
  | .step n, .load l => some l.steps.places[n]
  | .boundValue, .bound v _ => v
  | .fallback, .bound _ v => v
  | .measureValue, .measure v => v
  | _, _ => none

/-- The written mark of a field is set (R2). STEP_COUNT and the places share one mark (R14), and so do the primary fields
of the kinds, of which a record has one. -/
def Marks.has (m : Marks) : FieldId → Bool
  | .period => m.period
  | .tolerance => m.tolerance
  | .demand | .request | .boundValue | .measureValue => m.primary
  | .floor => m.floor
  | .tier => m.tier
  | .parkCapable => m.parkCapable
  | .stepCount | .step _ => m.steps
  | .fallback => m.fallback
  | _ => false

/-- The fields whose written mark is that of `f`: itself; for a primary field those of the other kinds; for STEP_COUNT and
the places each other (R14). -/
def FieldId.sharesMark (g f : FieldId) : Bool :=
  g = f || Marks.has { Marks.clear with primary := true } g && Marks.has { Marks.clear with primary := true } f ||
    Marks.has { Marks.clear with steps := true } g && Marks.has { Marks.clear with steps := true } f

/-- A write of an AMEND to field `f` of a record of class `c` turns an image into another (R11, R14, R34): the absence
marker makes the field absent, a step count 0; another value is brought into the field's range; every other field
stands. -/
abbrev FieldWrite.Turns (w : FieldWrite) (c : RecordClass) (f : FieldId) (img img' : Image) : Prop :=
  (w.value = 0x8000 → f ≠ .demand → img'.fieldOf f = if f = .stepCount then some 0 else none) ∧
  (¬(w.value = 0x8000 ∧ f ≠ .demand) →
    ∃ v, img'.fieldOf f = some v ∧ Brought (f.range c).1 (f.range c).2 w.value.toInt v) ∧
  ∀ g ≠ f, img'.fieldOf g = img.fieldOf g

/-- `r` names the field of the first of some failures that is met, and is `none` where none is. -/
def FirstOf : List (Prop × FieldId) → Option FieldId → Prop
  | [], r => r = none
  | (p, f) :: rest, r => (p → r = some f) ∧ (¬p → FirstOf rest r)

/-- The ways in which the resulting image of a COMMIT can fail, in the order of R36, each with the field that is named. -/
def Image.failures (owner : Nat) (img : Image) : List (Prop × FieldId) :=
  [(∃ l, img.body = .load l ∧ l.request = none, .request),
   (∃ f, img.body = .bound none f, .boundValue),
   (img.body = .measure none, .measureValue),
   (∃ q ∈ img.fieldOf .request, ∃ f ∈ img.fieldOf .floor, 0 < q ∧ q < f, .floor),
   (¬img.steps.Pairwise (· < ·), .stepCount),
   (img.steps ≠ [] ∧ ∃ f ∈ img.fieldOf .floor, f ∉ img.steps, .floor),
   (owner ≠ 0 ∧ img.period = 0, .period)]

/-! ## Passes in the terms of chapters 4 and 5 -/

/-- A BOUND record of the snapshot contributes `x` to its quantity (R67): a LIVE one its value, a STALE one its fallback, or
0 where it has none. -/
def Snapshot.Offers (snap : Snapshot) (q : BoundQty) (x : Int) : Prop :=
  ∃ (i : SlotNo) (r : Record), r.ident.cls = .bound q ∧
    (snap.slots[i].content = .live r ∧ r.image.fieldOf .boundValue = some x ∨
      snap.slots[i].content = .stale r ∧ x = (r.image.fieldOf .fallback).getD 0)

/-- `v` is the effective value of a power quantity: the smallest contribution lowered to the ceiling (R68), or where none
contributes the absent default lowered to it (R69). -/
def Snapshot.Effective (snap : Snapshot) (q : PowerQty) (v : Int) : Prop :=
  ((∃ x, snap.Offers (.power q) x) →
    v ≤ snap.cfg.ceilings.get q ∧ (∀ x, snap.Offers (.power q) x → v ≤ x) ∧
      (v = snap.cfg.ceilings.get q ∨ snap.Offers (.power q) v)) ∧
  ((∀ x, ¬snap.Offers (.power q) x) → v = min (snap.cfg.absents.get q) (snap.cfg.ceilings.get q))

/-- The LIVE or STALE record of class `c` in the snapshot holds `v` in its primary field `f` (R72 to R74, R87). -/
def Snapshot.Holds (snap : Snapshot) (c : RecordClass) (f : FieldId) (stale : Bool) (v : Int) : Prop :=
  ∃ (i : SlotNo) (r : Record), r.ident.cls = c ∧ r.image.fieldOf f = some v ∧
    snap.slots[i].content = if stale then .stale r else .live r

/-- No record of class `c` is LIVE or STALE in the snapshot. -/
def Snapshot.Lacks (snap : Snapshot) (c : RecordClass) (f : FieldId) : Prop := ∀ st v, ¬snap.Holds c f st v

/-- The combination of a snapshot (R66): the effective values (R67 to R69), the engine permit (R71), the measures (R72 to
R74), the PARK overrides (R75), Gav by the genset state (R76), the pass marks and the absent episodes (R69, R70, R72). -/
def Snapshot.CombinesTo (snap : Snapshot) (b : Combiner) : Prop :=
  snap.Effective .battChg b.bc ∧ snap.Effective .genMax b.genMax ∧
  (b.permit = true ↔
    (∀ x, snap.Offers .enginePermit x → x = 1) ∧
      ((∀ x, ¬snap.Offers .enginePermit x) → snap.cfg.absentPermit = 1)) ∧
  (snap.mode = .park →
    b.md = 0 ∧ b.mr = 0 ∧ b.gav = 0 ∧ (b.s ≤ snap.cfg.parkFloor → b.bd = 0) ∧
    (snap.cfg.parkFloor < b.s → snap.Effective .battDis b.bd)) ∧
  (snap.mode = .drive →
    snap.Effective .battDis b.bd ∧ snap.Effective .motorDrive b.md ∧ snap.Effective .motorRegen b.mr ∧
    (b.permit = false ∨ (snap.genset ≠ .warmup ∧ snap.genset ≠ .running) → b.gav = 0) ∧
    (b.permit = true → snap.genset = .warmup → b.gav = min b.genMax snap.cfg.warmCap) ∧
    (b.permit = true → snap.genset = .running → b.gav = b.genMax)) ∧
  (∀ st v, snap.Holds (.measure .soc) .measureValue st v → b.s = v ∧ b.socStale = st ∧ b.socDefaulted = false) ∧
  (snap.Lacks (.measure .soc) .measureValue → b.s = snap.cfg.sStart ∧ b.socDefaulted = true) ∧
  (∀ st v, snap.Holds (.measure .speed) .measureValue st v → b.speed = v) ∧
  (snap.Lacks (.measure .speed) .measureValue → b.speed = 0) ∧
  (∀ st v, snap.Holds (.measure .coolant) .measureValue st v → b.coolant = v ∧ b.coolantPresent = true) ∧
  (snap.Lacks (.measure .coolant) .measureValue → b.coolant = 0 ∧ b.coolantPresent = false) ∧
  (b.boundDefaulted = true ↔ ∃ q : PowerQty, ∀ x, ¬snap.Offers (.power q) x) ∧
  (b.episodeBattDis = true ↔ ∀ x, ¬snap.Offers (.power .battDis) x) ∧
  (b.episodeBattChg = true ↔ ∀ x, ¬snap.Offers (.power .battChg) x) ∧
  (b.episodeSoc = true ↔ snap.Lacks (.measure .soc) .measureValue)

/-- The demand image D of a snapshot (R87), with the ramp of a STALE record, which does not cross 0 (R88). -/
def Snapshot.Demands (snap : Snapshot) (d : Power) : Prop :=
  (snap.mode = .park → d = 0) ∧
  (snap.mode = .drive →
    (∀ v, snap.Holds .demand .demand false v → d = v) ∧
    ((∃ v, snap.Holds .demand .demand true v) →
      (0 < snap.demandImage → d = max (snap.demandImage - snap.cfg.rampStep) 0) ∧
      (snap.demandImage < 0 → d = min (snap.demandImage + snap.cfg.rampStep) 0) ∧
      (snap.demandImage = 0 → d = 0)) ∧
    (snap.Lacks .demand .demand → d = 0))

/-- `g` is a grant of `x` snapped to a step list: the largest step not above it, or 0 where no step is; `x` itself where
there is no list (R94). -/
abbrev SnapsTo (steps : List Power) (x g : Power) : Prop :=
  (steps = [] → g = x) ∧
  (steps ≠ [] → (g ∈ steps ∧ g ≤ x ∧ ∀ y ∈ steps, y ≤ x → y ≤ g) ∨ (g = 0 ∧ ∀ y ∈ steps, x < y))

/-- The reason of a grant against its request (R95). -/
abbrev ReasonFits (grant request : Power) (r : GrantReason) : Prop :=
  r = if grant = request then .full else if 0 < grant then .shared else .shed

/-- The loads of a tier entered with remainder `x`, served in their order (R92 to R94): `rem` is the remainder that each
load's floor meets, `exc` the sum of the excesses before it; a load that asks for nothing or whose floor does not fit gets
0, any other its request or its floor and share, snapped to its steps. -/
def TierServed (x : Power) (cs : List LoadClaim) (gs : List (LoadClaim × Power)) : Prop :=
  gs.map (·.1) = cs ∧
  ∃ rem exc : Nat → Power, rem 0 = x ∧ exc 0 = 0 ∧
    (∀ n c, cs[n]? = some c →
      (c.request ≠ 0 ∧ c.floor ≤ rem n →
        rem (n + 1) = rem n - c.floor ∧ exc (n + 1) = exc n + (c.request - c.floor)) ∧
      (¬(c.request ≠ 0 ∧ c.floor ≤ rem n) → rem (n + 1) = rem n ∧ exc (n + 1) = exc n)) ∧
    ∀ n c g, gs[n]? = some (c, g) →
      (¬(c.request ≠ 0 ∧ c.floor ≤ rem n) → g = 0) ∧
      (c.request ≠ 0 ∧ c.floor ≤ rem n →
        (exc cs.length ≤ rem cs.length → SnapsTo c.steps c.request g) ∧
        (rem cs.length < exc cs.length →
          SnapsTo c.steps (c.floor + (c.request - c.floor) * rem cs.length / exc cs.length) g))

/-- Two LOAD images ask for the same: request, floor and step list agree (R84). -/
abbrev Image.SameAsk (a b : Image) : Prop :=
  a.fieldOf .request = b.fieldOf .request ∧ a.fieldOf .floor = b.fieldOf .floor ∧ a.steps = b.steps

/-- A computed grant `g` fitted to a LOAD's request, floor and steps is `a` (R84): lowered to the request, snapped to the
steps, set to 0 below the floor, the reason taken from what is left. -/
abbrev FittedAnswer (l : LoadFields) (q g : Power) (a : Answer) : Prop :=
  (∃ x : Power, SnapsTo l.steps.listed (min g q) x ∧ a.grant = if ∃ f ∈ l.floor, x < f then 0 else x) ∧
  ReasonFits a.grant q a.reason

/-! ## What a command leaves alone -/

/-- The blocks that no record request touches stand as they were. -/
abbrev Device.keepsCore (d d' : Device) : Prop :=
  d'.now = d.now ∧ d'.bc = d.bc ∧ d'.se = d.se ∧ d'.gs = d.gs ∧ d'.mc = d.mc ∧ d'.cs = d.cs

/-- The Allotment Table and the Renewal Timer Array stand as they were, the table but for slot `i` and the buffer of its
bank, the array but for entry `i`. -/
abbrev Device.keepsOtherRecords (d d' : Device) (i : SlotNo) : Prop :=
  (∀ j ≠ i, d'.slot j = d.slot j ∧ d'.rtaOf j = d.rtaOf j) ∧ ∀ b ≠ bankOf i, d'.buffer b = d.buffer b

/-- The roster entry, the identifiers, the controller and the error count of the port stand as they were. -/
abbrev BusPort.keepsStanding (v v' : BusPort) : Prop :=
  v'.baseInForce = v.baseInForce ∧ v'.rateInForce = v.rateInForce ∧ v'.roster = v.roster ∧ v'.ctrl = v.ctrl ∧
    v'.txErrors = v.txErrors ∧ v'.busSilence = v.busSilence

/-- The command of the table that takes a record request of a row. -/
def RauRow.command : RauRow → Instr
  | .claim => .claim
  | .amend => .amend
  | .amendCommit => .amendCommit
  | .commit => .commit
  | .renew => .renew
  | .renewWithValue => .renewWithValue
  | .release => .release
  | .purge => .purge
  | .query => .query
  | .queryField => .queryField
  | .lookup => .lookup
  | .unknown => .unknownKindRecordRequest

/-- The request that the Record Access Unit takes next is `o`, and it is admitted: a peer's node is enrolled (R28). -/
abbrev Admitted (d : Device) (o : Offer) : Prop := rauOffer d = some o ∧ (o.port = .bus → d.enrolled o.who)

/-- A link reply with a given result and payload was placed by taking the request at the head `f` (R164): it stands at the
tail of the Reply FIFO, or was lost because the FIFO held 16; the head frame left the Request FIFO, and nothing else of the
link changed. -/
def Link.repliedTo (l l' : Link) (f : SpiRequest) (r : Result) (payload : List Byte) (now : Nat) : Prop :=
  l' = if l.replies.length < 16 then
      { l with
        requests := l.requests.tail,
        replies := l.replies ++ [.enter f.kind f.tag r.code payload l.lostReply now], lostReply := false }
    else { l with requests := l.requests.tail, lostReply := true }

/-- As `Link.repliedTo`, but for the Notice Set, which the act of the request may have raised a notice in. -/
def Link.repliedBesideNotices (l l' : Link) (f : SpiRequest) (r : Result) (payload : List Byte) (now : Nat) : Prop :=
  { l with notices := l'.notices }.repliedTo l' f r payload now

/-- A START or STOP has been issued (R110, R154): the order sequence has risen by one, the order is in flight with a fresh
acknowledgement timer, and where an engine peer is enrolled and the transmit queue has room for it, its frame stands in the
ORDER class. (One place more is asked for, which a SETPOINT handed before it in the same act may take.) -/
def Device.issued (d d' : Device) (k : OrderKind) : Prop :=
  d'.gs.seq = d.gs.seq + 1 ∧ d'.gs.inFlight = some { kind := k, seq := d.gs.seq + 1, resends := 0, timer := 100 } ∧
    ∀ n, d.enginePeer = some n → d.vbp.ctrl ≠ .idle → d.vbp.tx.count + 1 < 24 →
      ({ dest := .node n, body := .order k (d.gs.seq + 1) } : TxFrame) ∈ d'.vbp.tx.orders

/-- What a command of the Genset Sequencer leaves alone: the table, the records' timers, the unit, the combination, the
Split Engine, the mode, the configuration, the roster, the award state, the controller, and of the transmit queue the three
classes that are not its own. -/
abbrev Device.keepsBesideGenset (d d' : Device) : Prop :=
  d'.now = d.now ∧ d'.tbl = d.tbl ∧ d'.rta = d.rta ∧ d'.rau = d.rau ∧ d'.bc = d.bc ∧ d'.se = d.se ∧ d'.mc = d.mc ∧
    d'.cs = d.cs ∧
    d'.vbp = { d.vbp with rx := d'.vbp.rx, tx := { d.vbp.tx with orders := d'.vbp.tx.orders } }

/-- Of the link nothing changes but the notices GENSET_FAULT and LINK. -/
abbrev Link.keepsBesideGensetNotices (l l' : Link) : Prop :=
  l' = { l with notices := { l.notices with gensetFault := l'.notices.gensetFault, link := l'.notices.link } }

/-- What SLEEP entry with a cause leaves (R139, R140, R145, R160): the table, the records' timers, the combination and the
Split Engine at their device-reset values; of the Genset Sequencer the state, the crank failure count and the order
sequence kept, its timers stopped and the min-off time elapsed (R107); the roster and the bus queues empty but for the MODE
broadcast, the controller LISTENING, base and rate in force kept; the link empty but for the SLEEP reply with the notices
and flags cleared, mirror mode off and the reply in presentation none; KEY, chip select, the configuration and the time
kept. -/
def Device.IsAsleep (d d' : Device) (c : SleepCause) : Prop :=
  (∀ i : SlotNo, d'.slot i = { generation := 0, content := .free } ∧
    d'.rtaOf i = { timer := .stopped, lapse := 0, periodInForce := 0, toleranceInForce := 3 } ∧
    d'.vbp.lastAward[i] = none) ∧
  (∀ b : BankNo, d'.buffer b = none) ∧ d'.rau.turn = .link ∧ d'.bc = .cleared ∧
  d'.se.timer = .stopped ∧ d'.se.pass = none ∧ d'.se.demandImage = 0 ∧ d'.se.passNumber = 0 ∧ d'.se.result = .zero ∧
  d'.se.shortfall = 0 ∧
  d'.gs.state = d.gs.state ∧ d'.gs.crankCount = d.gs.crankCount ∧ d'.gs.seq = d.gs.seq ∧ d'.gs.force = .auto ∧
  d'.gs.inFlight = none ∧ d'.gs.setpoint = 0 ∧ d'.gs.lastSent = none ∧ d'.gs.crankTimer = .stopped ∧
  d'.gs.warmTimer = .stopped ∧ d'.gs.cooldownTimer = .stopped ∧ d'.gs.minOn = .stopped ∧ d'.gs.minOff = .elapsed ∧
  d'.gs.noEngine = false ∧
  d'.mc.mode = .sleep ∧ d'.mc.rawKey = d.mc.rawKey ∧ d'.mc.key = d.mc.key ∧
  d'.mc.deglitchTimer = d.mc.deglitchTimer ∧ d'.mc.parkTimer = .stopped ∧ d'.mc.floorTimer = .stopped ∧
  d'.mc.sleepPending = none ∧
  d'.vbp.roster = [] ∧ d'.vbp.rx = [] ∧ d'.vbp.awardQueue = [] ∧ d'.vbp.ctrl = .listening ∧ d'.vbp.txErrors = 0 ∧
  d'.vbp.baseInForce = d.vbp.baseInForce ∧ d'.vbp.rateInForce = d.vbp.rateInForce ∧ d'.vbp.busSilence = .stopped ∧
  d'.vbp.tx.orders = [] ∧ d'.vbp.tx.replies = [] ∧ d'.vbp.tx.awards = [] ∧ d'.vbp.tx.inTx = none ∧
  d'.vbp.tx.modes = [{ dest := .broadcast, body := .mode .sleep c.modeCause }] ∧
  d'.sl.requests = [] ∧
  d'.sl.replies = [.enter ReqKind.sleep.code c.tag Result.ok.code [c.modeCause.code] false d.now] ∧
  d'.sl.overrun = false ∧ d'.sl.crcError = false ∧ d'.sl.frameError = false ∧ d'.sl.lostReply = false ∧
  (∀ k : NoticeKind, d'.sl.notices.get k = none) ∧ d'.sl.mirror = false ∧ d'.sl.clockMode = d.sl.clockMode ∧
  d'.sl.presented = none ∧ (∀ k, d'.sl.miso k = if d.sl.csLow then some 0 else none) ∧
  d'.sl.csLow = d.sl.csLow ∧ d'.sl.waking = d.sl.waking ∧
  d'.cs = d.cs ∧ d'.now = d.now

/-- The head of the Request FIFO is a frame that its block takes as a request of kind `k`: accepted by the link (R163) and
outside mirror mode, or MIRROR or LINK_RESET in it (R170). -/
abbrev HeadIs (d : Device) (k : ReqKind) (f : SpiRequest) : Prop :=
  d.sl.requests.head? = some f ∧ f.accepted = some k ∧ (d.sl.mirror = true → k = .mirror ∨ k = .linkReset)

/-- What a slot holds after a COMMIT with the resulting image (R38, R39). -/
def Content.committedAs (img : Image) : Content → Content
  | .draft x _ =>
    .live { ident := x, image := img, answer := if x.cls = .load then some { grant := 0, reason := .none } else none }
  | c => c.mapRecord fun r => { r with image := img }

/-- The entry of the Renewal Timer Array after a COMMIT with the resulting image (R49, R54). -/
def RenewalEntry.committedAs (img : Image) (draft : Bool) (e : RenewalEntry) : RenewalEntry :=
  if draft || (e.periodInForce = 0 && img.period ≠ 0) then
    { timer := if img.period = 0 then .stopped else .running (img.period * 10),
      lapse := if draft then 0 else e.lapse, periodInForce := img.period, toleranceInForce := img.tolerance }
  else e

/-- The values that device reset gives every block, with the raw KEY level and the straps as sampled then (R22, R24, R48,
R65, R79, R107, R129, R145, R160, R174). -/
def Device.IsReset (rawKey : Bool) (straps : SpiMode) (d : Device) : Prop :=
  (∀ i : SlotNo, d.slot i = { generation := 0, content := .free } ∧
    d.rtaOf i = { timer := .stopped, lapse := 0, periodInForce := 0, toleranceInForce := 3 } ∧
    d.vbp.lastAward[i] = none) ∧
  (∀ b : BankNo, d.buffer b = none) ∧ d.rau.turn = .link ∧
  d.bc = .cleared ∧ d.bc.permit = false ∧ d.bc.coolantPresent = false ∧
  d.se.timer = .stopped ∧ d.se.pass = none ∧ d.se.demandImage = 0 ∧ d.se.passNumber = 0 ∧ d.se.result = .zero ∧
  d.se.shortfall = 0 ∧
  d.gs.state = .off ∧ d.gs.crankCount = 0 ∧ d.gs.force = .auto ∧ d.gs.seq = 0 ∧ d.gs.inFlight = none ∧
  d.gs.setpoint = 0 ∧ d.gs.lastSent = some 0 ∧ d.gs.crankTimer = .stopped ∧ d.gs.warmTimer = .stopped ∧
  d.gs.cooldownTimer = .stopped ∧ d.gs.minOn = .stopped ∧ d.gs.minOff = .elapsed ∧ d.gs.noEngine = false ∧
  d.mc.mode = .standby ∧ d.mc.rawKey = rawKey ∧ d.mc.key = false ∧
  d.mc.deglitchTimer.isRunning = rawKey ∧ d.mc.parkTimer = .stopped ∧ d.mc.floorTimer = .stopped ∧
  d.mc.sleepPending = none ∧
  d.vbp.roster = [] ∧ d.vbp.rx = [] ∧ d.vbp.tx.count = 0 ∧ d.vbp.awardQueue = [] ∧ d.vbp.ctrl = .idle ∧
  d.vbp.txErrors = 0 ∧
  d.sl.requests = [] ∧ d.sl.replies = [] ∧ d.sl.overrun = false ∧ d.sl.crcError = false ∧ d.sl.frameError = false ∧
  d.sl.lostReply = false ∧ d.sl.presented = none ∧ (∀ k : NoticeKind, d.sl.notices.get k = none) ∧
  d.sl.mirror = false ∧ d.sl.clockMode = straps ∧
  d.cs.valid = false ∧
  ConfigField.all.map d.cs.get =
    [600, 450, 750, 2, 20, 1, 3, 3, 120, 200, 280, 1500, 1500, 1500, 1500, 1500, 20, 10, 15, 3, 150, 60, 120, 4, 3, 1200,
     800, 400, 1200, 800, 100, 50, 400, 300, 0, 1, 200, 1, 0, 50, 256, 500, 16, 500]

/-! ## The whole -/

/-- A sound device. -/
abbrev Device.Sound (d : Device) : Prop :=
  QueueSound d ∧ OrderSound d ∧ RosterSound d ∧ BufferSound d ∧ UniqueSound d ∧ OwnerSound d ∧ ImageSound d ∧
    RenewalSound d ∧ ModeSound d ∧ EmptySound d ∧ GensetSound d ∧ ConfigSound d ∧ PassSound d ∧ HeldSound d

end Sys2Proof.Machine
end

