-- ==== Sys2Proof/Certificates/Slice0/Obligations.lean ====
section
/-! DEFINITION. The statements for the provers. In every statement about a command the queue of waiting commands is left
as it is: its conclusion gives the next state as the old one with another device. -/

open Sys2Proof Sys2Proof.Machine

/-! ## The machine -/

/-- A step runs the command at the front of the queue with the queue's rest. -/
def Obligations.StepRunsFrontCommand : Prop :=
  ∀ (s : State) (c : Instr) (rest : List Instr), s.pending = c :: rest →
    step s = exec c { s with pending := rest }

/-- On an empty queue 1 ms passes (the model's choice, log 2): the device time is 1 ms later, every running timer has 1 ms
less but not below 0, every silence count is 1 ms higher, a stopped or elapsed timer stays so, and nothing else changes. -/
def Obligations.IdleStepPassesOneMillisecond : Prop :=
  ∀ (s : State) (less : Timer → Timer) (lessPhase : PhaseTimer → PhaseTimer), s.pending = [] →
    less .stopped = .stopped → (∀ n, less (.running n) = .running (n - 1)) →
    lessPhase .stopped = .stopped → lessPhase .elapsed = .elapsed → (∀ n, lessPhase (.running n) = .running (n - 1)) →
    ∃ d', step s = .next { dev := d', pending := [] } ∧ d'.now = s.dev.now + 1 ∧ d'.draws = s.dev.draws ∧
      (∀ i : SlotNo, d'.slot i = s.dev.slot i ∧
        d'.rtaOf i = { s.dev.rtaOf i with timer := less (s.dev.rtaOf i).timer }) ∧
      (∀ b : BankNo, d'.buffer b = (s.dev.buffer b).map fun e => { e with timer := e.timer - 1 }) ∧
      d'.rau = s.dev.rau ∧ d'.bc = s.dev.bc ∧ d'.se = { s.dev.se with timer := less s.dev.se.timer } ∧
      d'.gs =
        { s.dev.gs with
          inFlight := s.dev.gs.inFlight.map fun o => { o with timer := o.timer - 1 },
          crankTimer := less s.dev.gs.crankTimer, warmTimer := less s.dev.gs.warmTimer,
          cooldownTimer := less s.dev.gs.cooldownTimer, minOn := lessPhase s.dev.gs.minOn,
          minOff := lessPhase s.dev.gs.minOff } ∧
      d'.mc =
        { s.dev.mc with
          deglitchTimer := less s.dev.mc.deglitchTimer, parkTimer := less s.dev.mc.parkTimer,
          floorTimer := less s.dev.mc.floorTimer } ∧
      d'.vbp =
        { s.dev.vbp with
          roster := s.dev.vbp.roster.map fun e => { e with silence := e.silence + 1 },
          busSilence := less s.dev.vbp.busSilence } ∧
      d'.sl = s.dev.sl ∧ d'.cs = s.dev.cs

/-- Every command answers a next state, and leaves the queue to step: none faults, none is refused. (That a command whose event
cannot take place in the state at hand answers next too is the model's choice, log 1.) -/
def Obligations.EveryCommandAnswersNext : Prop :=
  ∀ (c : Instr) (s : State), ∃ d', exec c s = .next { s with dev := d' }

/-- The state after reset holds the values the manual gives every block, raw KEY off and clock mode 0 (log 4), with an
empty queue; and DEVICE_RESET, taken in any state, ends in those values with the raw KEY level and straps it samples. -/
def Obligations.ResetGivesEveryBlockItsValues : Prop :=
  State.reset.dev.IsReset false .mode0 ∧ State.reset.pending = [] ∧
    ∀ (s : State) (rawKey : Bool) (straps : SpiMode),
      ∃ d', exec (.deviceReset rawKey straps) s = .next { s with dev := d' } ∧ d'.IsReset rawKey straps ∧
        (rawKey = true → d'.mc.deglitchTimer = .running 50)

/-! ## The Record Access Unit -/

/-- The request of the port named by the turn is taken when that port has one, else the other port's; a CAN request held
back by a full transmit queue is not offered; and after each request taken the turn names the port from which it did not
come (R26). -/
def Obligations.PortTurnDecidesBetweenPorts : Prop :=
  (∀ d : Device,
    (∀ o, linkOffer d = some o → d.rau.turn = .link ∨ busOffer d = none → rauOffer d = some o ∧ o.port = .link) ∧
    (∀ o, busOffer d = some o → d.rau.turn = .bus ∨ linkOffer d = none → rauOffer d = some o ∧ o.port = .bus) ∧
    (linkOffer d = none → busOffer d = none → rauOffer d = none) ∧ (d.txRoom = false → busOffer d = none)) ∧
  ∀ (s : State) (o : Offer), rauOffer s.dev = some o →
    ∃ d', exec o.row.command s = .next { s with dev := d' } ∧
      d'.rau.turn = (match o.port with
        | .link => .bus
        | .bus => .link)

/-- Whatever record request is taken, of any row and from either port: its frame leaves its port, the port turn names the
other port, and one reply is placed on its own port: on the link at the tail of the Reply FIFO with kind and tag echoed, or
lost with the lost-reply mark set; on the bus at the tail of the REPLY class, addressed to the requester, with 8 data bytes
(the model's choice, log 9). No purge set is touched, and beside the table, the renewal entries and the award state nothing
else changes. -/
def Obligations.RecordRequestAnsweredOnce : Prop :=
  ∀ (s : State) (o : Offer), rauOffer s.dev = some o →
    ∃ d', exec o.row.command s = .next { s with dev := d' } ∧ s.dev.keepsCore d' ∧
      d'.rau = { s.dev.rau with turn := o.port.other } ∧
      (o.port = .link → ∃ f rest r p, s.dev.sl.requests = f :: rest ∧ s.dev.sl.repliedTo d'.sl f r p s.dev.now ∧
        d'.vbp = { s.dev.vbp with awardQueue := d'.vbp.awardQueue, lastAward := d'.vbp.lastAward }) ∧
      (o.port = .bus → ∃ f ∈ s.dev.vbp.rx, f.node = o.who ∧ ∃ data,
        data.length = 8 ∧ d'.sl = s.dev.sl ∧
        d'.vbp =
          { s.dev.vbp with
            rx := s.dev.vbp.rx.eraseP isRecordFrame,
            tx := { s.dev.vbp.tx with
              replies := s.dev.vbp.tx.replies ++ [{ dest := .node o.who, body := .reply data }] },
            awardQueue := d'.vbp.awardQueue, lastAward := d'.vbp.lastAward })

/-- A record request answered with any code but OK, CLAMPED and BAD_FIELDS changes nothing in the table, the
Edit Buffers or the Renewal Timer Array (R28). The reply is read where the port carries it. -/
def Obligations.RefusedRecordRequestChangesNoRecord : Prop :=
  ∀ (s t : State) (o : Offer), rauOffer s.dev = some o → exec o.row.command s = .next t →
    (o.port = .link → s.dev.sl.replies.length < 16 → ∀ r ∈ t.dev.sl.replies.getLast?,
      r.result ≠ Result.ok.code → r.result ≠ Result.clamped.code → r.result ≠ Result.badFields.code →
      t.dev.tbl = s.dev.tbl ∧ t.dev.rta = s.dev.rta) ∧
    (o.port = .bus → ∀ x data, t.dev.vbp.tx.replies.getLast? = some { dest := x, body := .reply data } →
      byteAt data 3 ≠ Result.ok.code → byteAt data 3 ≠ Result.clamped.code → byteAt data 3 ≠ Result.badFields.code →
      t.dev.tbl = s.dev.tbl ∧ t.dev.rta = s.dev.rta)

/-- CLAIM (R32): an admitted CLAIM of a known class that no record excludes, in DRIVE or PARK, given slot `i`, makes it a
DRAFT under the advanced generation with its bank's Edit Buffer open at the defaults of the kind. -/
def Obligations.ClaimOpensDraft : Prop :=
  ∀ (s : State) (o : Offer) (kind label extra : Byte) (c : RecordClass) (i : SlotNo),
    Admitted s.dev o → o.row = .claim → o.req = .claim kind label extra → RecordClass.ofClaim kind extra = some c →
    ¬(c = .demand ∧ o.port = .bus) →
    (∀ j : SlotNo, clashes { cls := c, owner := o.who, label := label } (s.dev.slot j) = false) →
    s.dev.mc.mode.noPasses = false → allocate o.who s.dev = .ok i →
    ∃ d', exec .claim s = .next { s with dev := d' } ∧
      d'.slot i =
        { generation := (s.dev.slot i).generation + 1,
          content := .draft { cls := c, owner := o.who, label := label } (if c = .load then min extra.toNat 3 else 0) } ∧
      d'.buffer (bankOf i) =
        some
          { slot := i, image := .default o.who c (if c = .load then min extra.toNat 3 else 0), marks := .clear,
            timer := 100 } ∧
      d'.rtaOf i = { s.dev.rtaOf i with timer := .stopped, lapse := 0 } ∧ s.dev.keepsOtherRecords d' i ∧
      s.dev.keepsCore d'

/-- Allocation (R31): the slot given is the lowest FREE one of the first bank, in the search order, that has a closed
buffer and a FREE slot; where there is none, BANK_BUSY tells that a FREE slot exists and TABLE_FULL that none does. -/
def Obligations.ClaimAllocatesLowestFreeSlot : Prop :=
  ∀ (d : Device) (who : Nat),
    (∀ i : SlotNo, allocate who d = .ok i →
      (d.slot i).content.isFree ∧ d.buffer (bankOf i) = none ∧
      (∀ j : SlotNo, bankOf j = bankOf i → (d.slot j).content.isFree → i ≤ j) ∧
      ∀ j : SlotNo, (d.slot j).content.isFree → d.buffer (bankOf j) = none → bankOf j ≠ bankOf i →
        bankOf i = homeBank who ∨ (bankOf j ≠ homeBank who ∧ bankOf i < bankOf j)) ∧
    (allocate who d = .error .bankBusy ↔
      (∃ i : SlotNo, (d.slot i).content.isFree) ∧ ∀ i : SlotNo, (d.slot i).content.isFree → d.buffer (bankOf i) ≠ none) ∧
    (allocate who d = .error .tableFull ↔ ∀ i : SlotNo, (d.slot i).content.isFree = false)

/-- AMEND without commit flag (R33, R34, R11): admitted, owned and with every write acceptable, it goes by the life state
and the bank's buffer. A DRAFT's buffer, or one open for the slot, takes the writes; a closed one opens for a LIVE or STALE
record with a copy of its committed image and no mark set; one open for another slot gives BANK_BUSY and a RETIRING record
BAD_STATE, and nothing changes. Taken writes restart the edit timer from 100 ms, and the slot, its renewal entry and every
other record stand; on the link the reply tells of each write whether it was clamped. The writes apply in frame order, each
to its own field with its mark set: brought into its range (CLAMPED where it lay outside), or made absent by the marker. -/
def Obligations.AmendWritesIntoEditBuffer : Prop :=
  (∀ (s : State) (o : Offer) (slot gen : Byte) (ws : List FieldWrite) (i : SlotNo) (x : Identity),
    Admitted s.dev o → o.row = .amend → o.req = .amend slot gen ws false → checkOwned o.who slot gen s.dev = .ok i →
    (s.dev.slot i).content.ident? = some x → ws ≠ [] → (∀ w ∈ ws, w.refusedFor x.cls = false) →
    ∃ d', exec .amend s = .next { s with dev := d' } ∧ s.dev.keepsCore d' ∧
      (∀ j : SlotNo, d'.slot j = s.dev.slot j ∧ d'.rtaOf j = s.dev.rtaOf j) ∧
      (∀ e r, amendBuffer i s.dev = .ok e → r = applyWrites x.cls ws e.image e.marks →
        d'.buffer (bankOf i) = some { e with image := r.1, marks := r.2.1, timer := 100 } ∧
        s.dev.keepsOtherRecords d' i ∧
        (o.port = .link → ∃ q, s.dev.sl.requests.head? = some q ∧
          s.dev.sl.repliedTo d'.sl q (if true ∈ r.2.2 then .clamped else .ok) ([slot, gen] ++ r.2.2.map flagByte)
            s.dev.now)) ∧
      (∀ c, amendBuffer i s.dev = .error c → d'.tbl = s.dev.tbl ∧
        (o.port = .link → ∃ q p, s.dev.sl.requests.head? = some q ∧ s.dev.sl.repliedTo d'.sl q c p s.dev.now))) ∧
  (∀ (d : Device) (i : SlotNo) (r : Record) (e : EditBuffer),
    ((d.slot i).content.isDraft → d.openFor i = some e → amendBuffer i d = .ok e) ∧
    ((d.slot i).content = .live r ∨ (d.slot i).content = .stale r →
      (d.buffer (bankOf i) = none →
        amendBuffer i d = .ok { slot := i, image := r.image, marks := .clear, timer := 100 }) ∧
      (d.buffer (bankOf i) = some e → e.slot = i → amendBuffer i d = .ok e) ∧
      (d.buffer (bankOf i) = some e → e.slot ≠ i → amendBuffer i d = .error .bankBusy)) ∧
    ((d.slot i).content.isRetiring → amendBuffer i d = .error .badState)) ∧
  (∀ f : FieldId, Marks.clear.has f = false) ∧
  (∀ (c : RecordClass) (w : FieldWrite) (f : FieldId) (img : Image) (m : Marks), FieldId.ofByte w.id = some f →
    w.refusedFor c = false → img.InRange c →
    ∀ one, one = applyWrites c [w] img m →
      one.1.InRange c ∧ w.Turns c f img one.1 ∧ (∀ g : FieldId, one.2.1.has g = (m.has g || g.sharesMark f)) ∧
      one.2.2 =
        [decide (¬(w.value = 0x8000 ∧ f ≠ .demand) ∧ ¬within (f.range c).1 (f.range c).2 w.value.toInt)] ∧
      ∀ ws rest, rest = applyWrites c ws one.1 one.2.1 →
        applyWrites c (w :: ws) img m = (rest.1, rest.2.1, one.2.2 ++ rest.2.2)) ∧
  (∀ (c : RecordClass) (img : Image) (m : Marks), applyWrites c [] img m = (img, m, [])) ∧
  ([FieldId.period, .tolerance, .request, .floor, .tier, .parkCapable, .stepCount, .step 0, .step 5].map
      (FieldId.range .load) =
    [(0, 250), (1, 8), (0, 32767), (1, 32767), (0, 3), (0, 1), (0, 6), (1, 32767), (1, 32767)]) ∧
  FieldId.demand.range .demand = (-32768, 32767) ∧
  (∀ q : PowerQty, FieldId.boundValue.range (.bound (.power q)) = (0, 32767) ∧
    FieldId.fallback.range (.bound (.power q)) = (0, 32767)) ∧
  FieldId.boundValue.range (.bound .enginePermit) = (0, 1) ∧ FieldId.fallback.range (.bound .enginePermit) = (0, 1) ∧
  FieldId.measureValue.range (.measure .soc) = (0, 1000) ∧ FieldId.measureValue.range (.measure .speed) = (0, 2000) ∧
  FieldId.measureValue.range (.measure .coolant) = (-40, 150)

/-- COMMIT of the edit open for slot `i` (R36 to R39, R49, R54). Where the resulting image passes every check, the record
is committed with it and the buffer closes; where a check fails, the slot stands and the buffer stays open with its timer
restarted. An AMEND with commit flag does the same on the buffer its writes leave (R35; the writes as the statement on AMEND
gives them). The resulting image is the working image of a DRAFT, else the committed image with every marked field as the
buffer has it. Its checks, in this order, name: a missing request or value; the floor, where a request above 0 lies below it;
the step count, where the listed steps do not ascend; the floor, where it is none of the listed steps; the period, where a
peer's is 0. -/
def Obligations.CommitEndsEditOrKeepsIt : Prop :=
  (∀ (s : State) (o : Offer) (slot gen : Byte) (i : SlotNo) (x : Identity) (e : EditBuffer),
    Admitted s.dev o → checkOwned o.who slot gen s.dev = .ok i → (s.dev.slot i).content.ident? = some x →
    (s.dev.slot i).content.isRetiring = false →
    (o.row = .commit ∧ o.req = .commit slot gen ∧ s.dev.openFor i = some e ∨
      o.row = .amendCommit ∧ ∃ ws e₀, o.req = .amend slot gen ws true ∧ ws ≠ [] ∧
        (∀ w ∈ ws, w.refusedFor x.cls = false) ∧ amendBuffer i s.dev = .ok e₀ ∧
        e =
          { e₀ with
            image := (applyWrites x.cls ws e₀.image e₀.marks).1, marks := (applyWrites x.cls ws e₀.image e₀.marks).2.1,
            timer := 100 }) →
    ∃ d', exec o.row.command s = .next { s with dev := d' } ∧ s.dev.keepsOtherRecords d' i ∧ s.dev.keepsCore d' ∧
      (firstFailing x.owner (resultingImage (s.dev.slot i).content e) = none →
        d'.slot i =
          { s.dev.slot i with
            content := (s.dev.slot i).content.committedAs (resultingImage (s.dev.slot i).content e) } ∧
        d'.buffer (bankOf i) = none ∧
        d'.rtaOf i =
          (s.dev.rtaOf i).committedAs (resultingImage (s.dev.slot i).content e) (s.dev.slot i).content.isDraft) ∧
      (∀ f, firstFailing x.owner (resultingImage (s.dev.slot i).content e) = some f →
        d'.slot i = s.dev.slot i ∧ d'.buffer (bankOf i) = some { e with timer := 100 } ∧ d'.rtaOf i = s.dev.rtaOf i)) ∧
  (∀ x t e, resultingImage (.draft x t) e = e.image) ∧
  (∀ (r : Record) (e : EditBuffer) (c : Content), c = .live r ∨ c = .stale r → r.image.InRange r.ident.cls →
    e.image.InRange r.ident.cls →
    (resultingImage c e).InRange r.ident.cls ∧
    ∀ f : FieldId, (resultingImage c e).fieldOf f = if e.marks.has f then e.image.fieldOf f else r.image.fieldOf f) ∧
  ∀ (owner : Nat) (img : Image), FirstOf (img.failures owner) (firstFailing owner img)

/-- RENEW, with or without value, of a LIVE or STALE record (R57, R59, R60): the record is LIVE with the committed period
and tolerance in force, the lapse count 0 and the timer at a full period; a value goes into the primary field of the
committed image, raised to the committed floor where it lies above 0 and below it, else brought into the field's range; the
answer part and every Edit Buffer stand. -/
def Obligations.RenewRestartsAndRevives : Prop :=
  ∀ (s : State) (o : Offer) (slot gen : Byte) (v : Option Half) (i : SlotNo) (r : Record),
    Admitted s.dev o → o.row = (if v.isSome then .renewWithValue else .renew) → o.req = .renew slot gen v →
    checkOwned o.who slot gen s.dev = .ok i →
    ((s.dev.slot i).content = .live r ∨ (s.dev.slot i).content = .stale r) →
    ∃ d' img, exec o.row.command s = .next { s with dev := d' } ∧
      d'.slot i = { s.dev.slot i with content := .live { r with image := img } } ∧
      (v = none → img = r.image) ∧
      (∀ w : Half, v = some w →
        (∀ f : Int, r.image.floor = some f → 0 < w.toInt → w.toInt < f →
          img = r.image.write r.ident.cls.primary (some f)) ∧
        ((∀ f : Int, r.image.floor = some f → ¬(0 < w.toInt ∧ w.toInt < f)) →
          img = r.image.write r.ident.cls.primary (some (clampField r.ident.cls r.ident.cls.primary w.toInt)))) ∧
      d'.rtaOf i =
        { timer := if r.image.period = 0 then .stopped else .running (r.image.period * 10), lapse := 0,
          periodInForce := r.image.period, toleranceInForce := r.image.tolerance } ∧
      (∀ b : BankNo, d'.buffer b = s.dev.buffer b) ∧ s.dev.keepsOtherRecords d' i ∧ s.dev.keepsCore d'

/-- RELEASE by the owner and PURGE by the supervisor (R43, R44, R47): a DRAFT becomes FREE, a LIVE or STALE record
RETIRING with its mark clear (FREE in STANDBY and SLEEP), a RETIRING record stands; an edit open for the slot is closed;
generation kept; every other record stands. -/
def Obligations.ReleaseAndPurgeEndRecord : Prop :=
  ∀ (s : State) (o : Offer) (slot gen : Byte) (i : SlotNo),
    Admitted s.dev o →
    (o.row = .release ∧ o.req = .release slot gen ∧ checkOwned o.who slot gen s.dev = .ok i ∨
      o.row = .purge ∧ o.req = .purge slot gen ∧ o.port = .link ∧ checkHandle slot gen s.dev = .ok i) →
    ∃ d' c, exec o.row.command s = .next { s with dev := d' } ∧ d'.slot i = { s.dev.slot i with content := c } ∧
      ((s.dev.slot i).content.isDraft → c = .free) ∧
      ((s.dev.slot i).content.isUsed → s.dev.mc.mode.noPasses = true → c = .free) ∧
      (∀ r, ((s.dev.slot i).content = .live r ∨ (s.dev.slot i).content = .stale r) → s.dev.mc.mode.noPasses = false →
        c = .retiring r false ∧ d'.rtaOf i = { s.dev.rtaOf i with timer := .stopped }) ∧
      ((s.dev.slot i).content.isRetiring → c = (s.dev.slot i).content ∧ d'.tbl = s.dev.tbl ∧ d'.rta = s.dev.rta) ∧
      (c = .free → d'.rtaOf i = { s.dev.rtaOf i with timer := .stopped, lapse := 0 } ∧ d'.vbp.lastAward[i] = none) ∧
      (c ≠ (s.dev.slot i).content → d'.openFor i = none) ∧
      (∀ j ≠ i, d'.slot j = s.dev.slot j ∧ d'.rtaOf j = s.dev.rtaOf j ∧ d'.vbp.lastAward[j] = s.dev.vbp.lastAward[j]) ∧
      (∀ b : BankNo, (∀ e ∈ s.dev.buffer b, e.slot ≠ i) → d'.buffer b = s.dev.buffer b) ∧ s.dev.keepsCore d'

/-- QUERY, without and with a field id (R19, R20): no record, buffer or renewal entry changes; the reply is OK and reads
the slot as it stands: life state and generation always; of a non-FREE slot the identity, the lapse count (0 in a DRAFT)
and the under-edit mark; of a sound committed record its image and answer part, 0x8000 standing for an absent optional
field; with a field id that field of the committed record, present or absent. Where each item stands among the reply's bytes
is the model's reading of the layouts (log 11), as are the 8 bytes of a bus reply (log 9). -/
def Obligations.QueryReadsWithoutChange : Prop :=
  ∀ (s : State) (o : Offer) (slot : Byte) (i : SlotNo), Admitted s.dev o → slot.toNat = i.val →
    (∀ fb, o.row = .queryField → o.req = .query slot (some fb) →
      ∃ d', exec .queryField s = .next { s with dev := d' } ∧ d'.tbl = s.dev.tbl ∧ d'.rta = s.dev.rta ∧
        s.dev.keepsCore d' ∧
        ∀ f r, FieldId.ofByte fb = some f → (s.dev.slot i).content.record? = some r → f.ofClass r.ident.cls →
          o.port = .link →
          ∃ q n, s.dev.sl.requests.head? = some q ∧
            s.dev.sl.repliedTo d'.sl q .ok
              ([(s.dev.slot i).content.lifeCode, (s.dev.slot i).generation, flagByte (s.dev.underEdit i),
                flagByte (r.read (s.dev.rtaOf i).lapse f).1, n] ++ valueBytes (r.read (s.dev.rtaOf i).lapse f).2)
              s.dev.now ∧
            ∀ l, r.image.body = .load l → n = natByte l.steps.count) ∧
    (o.row = .query → o.req = .query slot none →
      ∃ d', exec .query s = .next { s with dev := d' } ∧ d'.tbl = s.dev.tbl ∧ d'.rta = s.dev.rta ∧
        s.dev.keepsCore d' ∧
        (o.port = .link → ∃ q p, s.dev.sl.requests.head? = some q ∧ s.dev.sl.repliedTo d'.sl q .ok p s.dev.now ∧
          p.take 2 = [(s.dev.slot i).content.lifeCode, (s.dev.slot i).generation] ∧
          (∀ x, (s.dev.slot i).content.ident? = some x → ∃ qt,
            p.take 8 =
              [(s.dev.slot i).content.lifeCode, (s.dev.slot i).generation, x.cls.kindCode, natByte x.owner, x.label, qt,
               natByte (if (s.dev.slot i).content.isDraft then 0 else (s.dev.rtaOf i).lapse),
               flagByte (s.dev.underEdit i)] ∧
            (∀ b, x.cls = .bound b → qt = b.code) ∧ (∀ m, x.cls = .measure m → qt = m.code) ∧
            (∀ y t, (s.dev.slot i).content = .draft y t → x.cls = .load → qt = natByte t)) ∧
          (∀ r, (s.dev.slot i).content.record? = some r → r.Sound →
            (∀ v, r.image.body = .demand v → p.drop 8 =
              valueBytes r.image.period ++ valueBytes r.image.tolerance ++ valueBytes v) ∧
            (∀ v f, r.image.body = .bound (some v) f → p.drop 8 =
              valueBytes r.image.period ++ valueBytes r.image.tolerance ++ valueBytes v ++
                valueBytes (f.getD (-32768))) ∧
            (∀ v, r.image.body = .measure (some v) → p.drop 8 =
              valueBytes r.image.period ++ valueBytes r.image.tolerance ++ valueBytes v) ∧
            (∀ l q a, r.image.body = .load l → l.request = some q → r.answer = some a → p.drop 8 =
              valueBytes r.image.period ++ valueBytes r.image.tolerance ++ valueBytes q ++
                valueBytes (l.floor.getD (-32768)) ++ valueBytes l.tier ++ valueBytes (if l.parkCapable then 1 else 0) ++
                valueBytes l.steps.count ++ l.steps.places.toList.flatMap valueBytes ++ valueBytes a.grant ++
                valueBytes a.reason.code.toNat))) ∧
        (o.port = .bus → ∀ x, (s.dev.slot i).content.ident? = some x → ∃ b7,
          d'.vbp.tx.replies.getLast? =
            some (.mk (.node o.who) (.reply
              [0x86, slot, (s.dev.slot i).generation, 0,
               (s.dev.slot i).content.lifeCode ||| bit (s.dev.underEdit i) 3 ||| (x.cls.kindCode <<< 4),
               natByte x.owner, x.label, b7]))))

/-- LOOKUP (R21): nothing changes; an owner above 30 is answered BAD_REQUEST; where a non-FREE record has the owner and
label (at most one by R18) its handle and life state are returned; where none has, NO_RECORD. That a bus reply has 8 bytes,
filled with 0, is the model's choice (log 9). -/
def Obligations.LookupFindsRecord : Prop :=
  ∀ (s : State) (o : Offer) (owner label : Byte), Admitted s.dev o → o.row = .lookup → o.req = .lookup owner label →
    UniqueSound s.dev →
    ∃ d', exec .lookup s = .next { s with dev := d' } ∧ d'.tbl = s.dev.tbl ∧ d'.rta = s.dev.rta ∧ s.dev.keepsCore d' ∧
      (o.port = .link → ∃ q r p, s.dev.sl.requests.head? = some q ∧ s.dev.sl.repliedTo d'.sl q r p s.dev.now ∧
        (30 < owner.toNat → r = .badRequest) ∧
        (owner.toNat ≤ 30 →
          (∀ (i : SlotNo) (x : Identity), (s.dev.slot i).content.ident? = some x → x.owner = owner.toNat →
            x.label = label →
            r = .ok ∧ p = [natByte i.val, (s.dev.slot i).generation, (s.dev.slot i).content.lifeCode]) ∧
          ((∀ (i : SlotNo) (x : Identity), (s.dev.slot i).content.ident? = some x →
            ¬(x.owner = owner.toNat ∧ x.label = label)) → r = .noRecord))) ∧
      (o.port = .bus → ∀ (i : SlotNo) (x : Identity), (s.dev.slot i).content.ident? = some x →
        x.owner = owner.toNat → owner.toNat ≤ 30 → x.label = label →
        d'.vbp.tx.replies.getLast? =
          some (.mk (.node o.who) (.reply
            [0x87, natByte i.val, (s.dev.slot i).generation, 0, (s.dev.slot i).content.lifeCode, 0, 0, 0])))

/-- A CAN frame of unknown kind or of length 0 (R28, R146): no record changes, and it is answered BAD_REQUEST, or
NOT_ENROLLED where its node has no roster entry. That a frame of a kind for the supervisor alone (0x10 and above) counts as
of unknown kind is the model's deduction (log 8). -/
def Obligations.UnknownKindRefused : Prop :=
  ∀ (s : State) (o : Offer), rauOffer s.dev = some o → o.row = .unknown →
    ∃ d' data, exec .unknownKindRecordRequest s = .next { s with dev := d' } ∧ d'.tbl = s.dev.tbl ∧
      d'.rta = s.dev.rta ∧ s.dev.keepsCore d' ∧ o.port = .bus ∧
      d'.vbp.tx.replies = s.dev.vbp.tx.replies ++ [{ dest := .node o.who, body := .reply data }] ∧
      byteAt data 3 = (if s.dev.enrolled o.who then Result.badRequest.code else Result.notEnrolled.code)

/-! ## Purge sets and expiries of the table -/

/-- A purge set executed (R45, R47): each record it names, by its life state; the others stand. A peer-loss set also
removes the node from the roster with notice ROSTER, drops the award entries of its slots, and takes the engine peer from
the Genset Sequencer where it was that (R124, R152). The park-entry set names the DEMAND record and every record outside
the retain mask (R135). Each set is executed once. -/
def Obligations.PurgeSetsEndNamedRecords : Prop :=
  (∀ (s : State) (n : Nat), n ∈ s.dev.rau.peerLossSets →
    ∃ d', exec (.peerLossPurgeSet n) s = .next { s with dev := d' } ∧
      (∀ i : SlotNo,
        ((s.dev.slot i).content.owner? ≠ some n → d'.slot i = s.dev.slot i) ∧
        ((s.dev.slot i).content.owner? = some n →
          ((s.dev.slot i).content.isDraft → d'.slot i = { s.dev.slot i with content := .free }) ∧
          (∀ r, ((s.dev.slot i).content = .live r ∨ (s.dev.slot i).content = .stale r) →
            d'.slot i =
              { s.dev.slot i with content := if s.dev.mc.mode.noPasses then .free else .retiring r false }) ∧
          ((s.dev.slot i).content.isRetiring → d'.slot i = s.dev.slot i) ∧
          ∀ a ∈ d'.vbp.awardQueue, a.slot ≠ i)) ∧
      d'.vbp.roster = s.dev.vbp.roster.filter (fun e => e.node ≠ n) ∧
      d'.rau = { s.dev.rau with peerLossSets := s.dev.rau.peerLossSets.erase n } ∧
      d'.sl.notices.roster = some (NoticeEntry.raised s.dev.sl.notices.roster (BitVec.ofNat 16 n)) ∧
      (∀ i : SlotNo, (s.dev.slot i).content.owner? ≠ some n →
        d'.rtaOf i = s.dev.rtaOf i ∧ d'.vbp.lastAward[i] = s.dev.vbp.lastAward[i]) ∧
      (∀ b : BankNo, (∀ e ∈ s.dev.buffer b, (s.dev.slot e.slot).content.owner? ≠ some n) →
        d'.buffer b = s.dev.buffer b) ∧
      (s.dev.isEngine n = false → d'.gs = s.dev.gs) ∧
      (s.dev.isEngine n = true → d'.gs.inFlight = none ∧ d'.gs.crankCount = s.dev.gs.crankCount ∧
        (s.dev.gs.state.atRest = true → d'.gs.state = s.dev.gs.state ∧ d'.gs.noEngine = s.dev.gs.noEngine) ∧
        (s.dev.gs.state.atRest = false → d'.gs.state = .off ∧ d'.gs.noEngine = true ∧ d'.gs.setpoint = 0)) ∧
      d'.mc = s.dev.mc ∧ d'.cs = s.dev.cs ∧ d'.se = s.dev.se ∧ d'.bc = s.dev.bc ∧ d'.vbp.tx = s.dev.vbp.tx ∧
      d'.vbp.rx = s.dev.vbp.rx) ∧
  ∀ s : State, s.dev.rau.parkEntrySet = true →
    ∃ d', exec .parkEntryPurgeSet s = .next { s with dev := d' } ∧
      (∀ (i : SlotNo) (x : Identity), (s.dev.slot i).content.ident? = some x →
        (x.cls ≠ .demand → s.dev.cs.retainMask.getLsbD (bankOf i).val = true → d'.slot i = s.dev.slot i) ∧
        ((x.cls = .demand ∨ s.dev.cs.retainMask.getLsbD (bankOf i).val = false) →
          ((s.dev.slot i).content.isDraft → d'.slot i = { s.dev.slot i with content := .free }) ∧
          (∀ r, ((s.dev.slot i).content = .live r ∨ (s.dev.slot i).content = .stale r) →
            d'.slot i =
              { s.dev.slot i with content := if s.dev.mc.mode.noPasses then .free else .retiring r false }) ∧
          ((s.dev.slot i).content.isRetiring → d'.slot i = s.dev.slot i))) ∧
      (∀ i : SlotNo, (s.dev.slot i).content.isFree → d'.slot i = s.dev.slot i) ∧
      (∀ i : SlotNo, d'.slot i = s.dev.slot i →
        d'.rtaOf i = s.dev.rtaOf i ∧ d'.vbp.lastAward[i] = s.dev.vbp.lastAward[i]) ∧
      (∀ b : BankNo, (∀ e ∈ s.dev.buffer b, d'.slot e.slot = s.dev.slot e.slot) → d'.buffer b = s.dev.buffer b) ∧
      d'.rau = { s.dev.rau with parkEntrySet := false } ∧ s.dev.keepsCore d' ∧ d'.sl = s.dev.sl ∧
      d'.vbp.roster = s.dev.vbp.roster ∧ d'.vbp.tx = s.dev.vbp.tx ∧ d'.vbp.rx = s.dev.vbp.rx

/-- EDIT_TIMER_EXPIRY of a bank with an open buffer (R40, R41): the buffer closes; a DRAFT becomes FREE with its
generation kept, a LIVE or STALE record stands with its renewal entry; SUPERVISOR is told by notice EDIT_ABANDONED, a peer
by an ABANDONED frame, or where the transmit queue has no room by notice LINK. -/
def Obligations.EditExpiryAbandonsEdit : Prop :=
  ∀ (s : State) (b : BankNo) (e : EditBuffer) (x : Identity), s.dev.buffer b = some e →
    (s.dev.slot e.slot).content.ident? = some x →
    ∃ d', exec (.editTimerExpiry b.val) s = .next { s with dev := d' } ∧ d'.buffer b = none ∧
      ((s.dev.slot e.slot).content.isDraft → d'.slot e.slot = { s.dev.slot e.slot with content := .free }) ∧
      ((s.dev.slot e.slot).content.isDraft = false →
        d'.slot e.slot = s.dev.slot e.slot ∧ d'.rtaOf e.slot = s.dev.rtaOf e.slot) ∧
      (∀ j ≠ e.slot, d'.slot j = s.dev.slot j ∧ d'.rtaOf j = s.dev.rtaOf j) ∧
      (∀ c ≠ b, (∀ g ∈ s.dev.buffer c, g.slot ≠ e.slot) → d'.buffer c = s.dev.buffer c) ∧ s.dev.keepsCore d' ∧
      d'.rau = s.dev.rau ∧ s.dev.vbp.keepsStanding d'.vbp ∧
      (x.owner = 0 →
        d'.vbp.tx = s.dev.vbp.tx ∧
        d'.sl.notices.editAbandoned =
          some (NoticeEntry.raised s.dev.sl.notices.editAbandoned (BitVec.ofNat 16 e.slot.val))) ∧
      (x.owner ≠ 0 → s.dev.txRoom = true →
        d'.sl = s.dev.sl ∧
        d'.vbp.tx =
          { s.dev.vbp.tx with
            replies := s.dev.vbp.tx.replies ++
              [{ dest := .node x.owner,
                 body := .abandoned e.slot (s.dev.slot e.slot).generation (s.dev.slot e.slot).content.isDraft }] }) ∧
      (x.owner ≠ 0 → s.dev.txRoom = false →
        d'.vbp.tx = s.dev.vbp.tx ∧
        d'.sl.notices.link =
          some (NoticeEntry.raised s.dev.sl.notices.link (BitVec.ofNat 16 (0x200 + x.owner))))

/-- RENEWAL_EXPIRY of a running timer of a LIVE or STALE record (R50, R51): with a committed period of 0 the timer stops
and the lapse count becomes 0; otherwise the count rises by one up to 15, the timer restarts for the full committed period,
and a LIVE record whose count reaches the committed tolerance becomes STALE with notice RECORD_STALE. Images, answer parts
and buffers stand. -/
def Obligations.RenewalExpiryCountsLapse : Prop :=
  ∀ (s : State) (i : SlotNo) (r : Record), (s.dev.rtaOf i).timer.isRunning →
    ((s.dev.slot i).content = .live r ∨ (s.dev.slot i).content = .stale r) →
    ∃ d', exec (.renewalExpiry i.val) s = .next { s with dev := d' } ∧
      (d'.rtaOf i).periodInForce = r.image.period ∧ (d'.rtaOf i).toleranceInForce = r.image.tolerance ∧
      (r.image.period = 0 →
        (d'.rtaOf i).timer = .stopped ∧ (d'.rtaOf i).lapse = 0 ∧ d'.slot i = s.dev.slot i ∧ d'.sl = s.dev.sl) ∧
      (r.image.period ≠ 0 →
        (d'.rtaOf i).timer = .running (r.image.period * 10) ∧
        (d'.rtaOf i).lapse = min ((s.dev.rtaOf i).lapse + 1) 15 ∧
        ((s.dev.slot i).content = .live r → r.image.tolerance ≤ min ((s.dev.rtaOf i).lapse + 1) 15 →
          d'.slot i = { s.dev.slot i with content := .stale r } ∧
          d'.sl.notices.recordStale =
            some (NoticeEntry.raised s.dev.sl.notices.recordStale (BitVec.ofNat 16 i.val))) ∧
        (((s.dev.slot i).content = .stale r ∨ min ((s.dev.rtaOf i).lapse + 1) 15 < r.image.tolerance) →
          d'.slot i = s.dev.slot i ∧ d'.sl = s.dev.sl)) ∧
      (∀ b : BankNo, d'.buffer b = s.dev.buffer b) ∧ s.dev.keepsOtherRecords d' i ∧ s.dev.keepsCore d' ∧
      d'.vbp = s.dev.vbp ∧ d'.rau = s.dev.rau

/-! ## The split pass -/

/-- SPLIT_TIMER_EXPIRY with no pass in flight (R80, R81): a pass begins on a snapshot of the slots, genset state, mode,
demand image and configuration; every RETIRING slot has its retire mark set; the timer restarts for the period of the mode;
the combination of the snapshot becomes the Bound Combiner's state, and SUPPLY_FAULT is raised for each episode that opens
(R70). Nothing else changes. On a sound snapshot the combination is that of R67 to R76; the pass takes its figures from it,
forms the demand image (R87, R88), brings it into [−Mr, Md] as the traction request, and offers regeneration and pool
(R89). -/
def Obligations.SplitExpiryBeginsPass : Prop :=
  ∀ s : State, s.dev.se.timer.isRunning → s.dev.se.pass = none →
    ∃ d' p, exec .splitTimerExpiry s = .next { s with dev := d' } ∧
      d'.se =
        { s.dev.se with timer := .running (if s.dev.mc.mode = .park then 100 else 10), pass := some p } ∧
      p.snap =
        { slots := s.dev.tbl.slots, genset := s.dev.gs.state, mode := s.dev.mc.mode,
          demandImage := s.dev.se.demandImage, cfg := s.dev.cs } ∧
      p = computePass p.snap (combine p.snap) ∧ d'.bc = combine p.snap ∧
      (p.snap.Sound → UniqueSound s.dev →
        p.snap.CombinesTo d'.bc ∧ p.snap.Demands p.fig.d ∧ Brought (-d'.bc.mr) d'.bc.md p.fig.d p.fig.tm ∧
        p.fig.r = max (-p.fig.tm) 0 ∧ p.fig.p = d'.bc.bd + d'.bc.gav + p.fig.r) ∧
      (p.fig.bd, p.fig.bc, p.fig.gav, p.fig.md, p.fig.mr, p.fig.s, p.fig.speed) =
        (d'.bc.bd, d'.bc.bc, d'.bc.gav, d'.bc.md, d'.bc.mr, d'.bc.s, d'.bc.speed) ∧
      (p.fig.boundDefaulted, p.fig.socStale, p.fig.socDefaulted) =
        (d'.bc.boundDefaulted, d'.bc.socStale, d'.bc.socDefaulted) ∧
      (∀ i : SlotNo, (∀ r m, (s.dev.slot i).content = .retiring r m →
          d'.slot i = { s.dev.slot i with content := .retiring r true }) ∧
        ((s.dev.slot i).content.isRetiring = false → d'.slot i = s.dev.slot i)) ∧
      d'.tbl.buffers = s.dev.tbl.buffers ∧
      d'.sl = { s.dev.sl with notices := { s.dev.sl.notices with supplyFault := d'.sl.notices.supplyFault } } ∧
      d'.sl.notices.supplyFault =
        ((if d'.bc.episodeBattDis && !s.dev.bc.episodeBattDis then [SupplyQty.battDis] else []) ++
          (if d'.bc.episodeBattChg && !s.dev.bc.episodeBattChg then [SupplyQty.battChg] else []) ++
          (if d'.bc.episodeSoc && !s.dev.bc.episodeSoc then [SupplyQty.soc] else [])).foldl
          (fun e q => some (NoticeEntry.raised e q.code)) s.dev.sl.notices.supplyFault ∧
      d'.rta = s.dev.rta ∧ d'.rau = s.dev.rau ∧ d'.gs = s.dev.gs ∧ d'.mc = s.dev.mc ∧ d'.vbp = s.dev.vbp ∧
      d'.cs = s.dev.cs ∧ d'.now = s.dev.now

/-- PASS_COMPLETION of the pass in flight, no SLEEP pending (R83 to R86, R102, R103, R105, R137, R156): the pass number
rises by one, the demand image becomes the D of the pass, the run count rises by one up to 255 where TRACTION_CUT or
TIER0_SHORT is set and else becomes 0; the Split Result Record carries every figure of the pass, the powers brought into
their 16-bit range, and its seven flags; SHORTFALL is raised where the count becomes 3; every RETIRING slot with its retire
mark set becomes FREE with its generation kept; every other slot keeps its life state, identity and committed image, and its
open buffer. The award queue takes the answers written for peers with a roster entry: an entry of a value the peer already
holds leaves it, another entry of the slot has its value replaced in place, and where there is none one is added at the tail
(in an order among them that is free, log 16). In PARK, after a pass of PARK, the floor timer runs on or starts for 60 s
where s is at or below the park floor, and else stops. The combination, the configuration and the mode stand. -/
def Obligations.CompletionPublishesPass : Prop :=
  ∀ (s : State) (p : Pass), s.dev.se.pass = some p → s.dev.mc.sleepPending = none →
    ∃ d', exec .passCompletion s = .next { s with dev := d' } ∧
      d'.se.pass = none ∧ d'.se.passNumber = s.dev.se.passNumber + 1 ∧ d'.se.demandImage = p.fig.d ∧
      d'.se.timer = s.dev.se.timer ∧
      d'.se.shortfall =
        (if p.fig.tractionCut || p.fig.tier0Short then min (s.dev.se.shortfall + 1) 255 else 0) ∧
      d'.se.result.passNumber = s.dev.se.passNumber + 1 ∧ d'.se.result.runCount = d'.se.shortfall ∧
      d'.se.result.mode = p.snap.mode ∧ d'.se.result.genset = p.snap.genset ∧ d'.se.result.s = p.fig.s ∧
      d'.se.result.speed = p.fig.speed ∧
      (∀ x ∈ [(p.fig.bd, d'.se.result.bd), (p.fig.bc, d'.se.result.bc), (p.fig.gav, d'.se.result.gav),
          (p.fig.md, d'.se.result.md), (p.fig.mr, d'.se.result.mr), (p.fig.d, d'.se.result.d),
          (p.fig.tm, d'.se.result.tm), (p.fig.p, d'.se.result.p), (p.fig.tg, d'.se.result.tg),
          (p.fig.regenCut, d'.se.result.regenCut), (p.fig.n, d'.se.result.n), (p.fig.pp, d'.se.result.pp),
          (p.fig.gd, d'.se.result.gd), (p.fig.gset, d'.se.result.gset), (p.fig.pb, d'.se.result.pb)],
        Brought (-32768) 32767 x.1 x.2) ∧
      d'.se.result.tractionCut = p.fig.tractionCut ∧ d'.se.result.tier0Short = p.fig.tier0Short ∧
      d'.se.result.regenCutFlag = p.fig.regenCutFlag ∧ d'.se.result.offpoint = p.fig.offpoint ∧
      d'.se.result.boundDefaulted = p.fig.boundDefaulted ∧ d'.se.result.socStale = p.fig.socStale ∧
      d'.se.result.socDefaulted = p.fig.socDefaulted ∧
      (d'.se.shortfall = 3 → s.dev.se.shortfall = 2 →
        d'.sl.notices.shortfall =
          some (NoticeEntry.raised s.dev.sl.notices.shortfall
            (if p.fig.tractionCut && p.fig.tier0Short then 3 else if p.fig.tractionCut then 1 else 2))) ∧
      (d'.se.shortfall ≠ 3 → d'.sl.notices.shortfall = s.dev.sl.notices.shortfall) ∧
      (∀ i : SlotNo,
        (∀ r, (s.dev.slot i).content = .retiring r true → d'.slot i = { s.dev.slot i with content := .free } ∧
          d'.rtaOf i = { s.dev.rtaOf i with timer := .stopped, lapse := 0 } ∧
          d'.vbp.lastAward[i] = none ∧ ∀ a ∈ d'.vbp.awardQueue, a.slot ≠ i) ∧
        ((s.dev.slot i).content.isMarked = false →
          (d'.slot i).generation = (s.dev.slot i).generation ∧ d'.rtaOf i = s.dev.rtaOf i ∧
          d'.vbp.lastAward[i] = s.dev.vbp.lastAward[i] ∧
          ∃ a : Record → Option Answer,
            (d'.slot i).content = (s.dev.slot i).content.mapRecord fun r => { r with answer := a r })) ∧
      (∀ b : BankNo, (∀ e ∈ s.dev.buffer b, (s.dev.slot e.slot).content.isMarked = false) →
        d'.buffer b = s.dev.buffer b) ∧
      (∀ held : AwardEntry → Bool, held = (fun e => s.dev.vbp.awardQueue.any fun x => x.slot = e.slot) →
        d'.vbp.awardQueue =
          d'.vbp.awardQueue.filter held ++ d'.vbp.awardQueue.filter (fun e => !held e) ∧
        ((d'.vbp.awardQueue.filter held).map (·.slot)).Sublist (s.dev.vbp.awardQueue.map (·.slot))) ∧
      (∀ (i : SlotNo) (before after : List AwardEntry), (s.dev.slot i).content.isMarked = false →
        before = s.dev.vbp.awardQueue.filter (fun e => e.slot = i) →
        after = d'.vbp.awardQueue.filter (fun e => e.slot = i) →
        (writtenAnswer p i (s.dev.slot i) = none ∨
            (∀ o, (s.dev.slot i).content.owner? = some o → o = 0 ∨ s.dev.enrolled o = false) →
          after = before) ∧
        ∀ a o, writtenAnswer p i (s.dev.slot i) = some a → (s.dev.slot i).content.owner? = some o → o ≠ 0 →
          s.dev.enrolled o = true →
          (s.dev.vbp.lastAward[i] = some a → after = []) ∧
          (s.dev.vbp.lastAward[i] ≠ some a → before ≠ [] → after = before.map fun e => { e with answer := a }) ∧
          (s.dev.vbp.lastAward[i] ≠ some a → before = [] →
            after = [{ slot := i, generation := (s.dev.slot i).generation, answer := a }])) ∧
      (p.snap.mode = .park → s.dev.mc.mode = .park →
        (s.dev.bc.s ≤ s.dev.cs.parkFloor →
          d'.mc.floorTimer =
            if s.dev.mc.floorTimer.isRunning then s.dev.mc.floorTimer else .running 60000) ∧
        (s.dev.cs.parkFloor < s.dev.bc.s → d'.mc.floorTimer = .stopped)) ∧
      (p.snap.mode ≠ .park ∨ s.dev.mc.mode ≠ .park → d'.mc = s.dev.mc) ∧
      d'.mc = { s.dev.mc with floorTimer := d'.mc.floorTimer } ∧
      d'.bc = s.dev.bc ∧ d'.cs = s.dev.cs ∧ d'.rau = s.dev.rau ∧
      d'.sl.requests = s.dev.sl.requests ∧ d'.sl.replies = s.dev.sl.replies ∧ d'.vbp.roster = s.dev.vbp.roster

/-- The answer parts of a completion (R84, R95), for a pass on a sound snapshot and a sound LOAD record as it stands at the
completion: the grant written lies between 0 and the committed request, is 0 or one of the steps where the record has a
step list, and where nonzero is not below its floor; a record found RETIRING is written 0 with RETIRING_ZERO. -/
def Obligations.GrantsStayWithinRequest : Prop :=
  ∀ (snap : Snapshot) (i : SlotNo) (now : Slot) (a : Answer), snap.Sound →
    writtenAnswer (computePass snap (combine snap)) i now = some a →
    (∀ r l q, (now.content = .live r ∨ now.content = .stale r) → r.Sound → r.image.body = .load l →
      l.request = some q →
      0 ≤ a.grant ∧ a.grant ≤ q ∧ (l.steps.count ≠ 0 → a.grant = 0 ∨ a.grant ∈ l.steps.places.toList.take l.steps.count) ∧
        ∀ f : Int, l.floor = some f → a.grant ≠ 0 → f ≤ a.grant) ∧
    (∀ r m, now.content = .retiring r m → a = { grant := 0, reason := .retiringZero })

/-- The answers that a completion writes (R84, R90, R95), for a pass on a sound snapshot, no SLEEP pending. The pass
computes for a STALE LOAD 0 with STALE_ZERO, for a LIVE one that is not park-capable in PARK 0 with PARK_DORMANT, for another
LIVE one its grant of the allotment with the reason of R95, and nothing for any other slot. A record that stands LIVE or
STALE under the same handle receives what was computed, fitted to its committed image where request, floor or step list
changed meanwhile (STALE_ZERO and PARK_DORMANT stand, the model's deduction, log 15); one found RETIRING 0 with RETIRING_ZERO;
one that was not LIVE or STALE at the snapshot, or for which nothing was computed, keeps its answer part. Image and identity
stand. -/
def Obligations.CompletionWritesAnswers : Prop :=
  (∀ (snap : Snapshot) (p : Pass) (i : SlotNo), snap.Sound → p = computePass snap (combine snap) →
    (∀ r, snap.slots[i].content = .stale r → r.ident.cls = .load →
      p.grants[i] = some { grant := 0, reason := .staleZero }) ∧
    (∀ r l q, snap.slots[i].content = .live r → r.image.body = .load l → l.request = some q →
      (snap.mode = .park → l.parkCapable = false → p.grants[i] = some { grant := 0, reason := .parkDormant }) ∧
      (snap.mode ≠ .park ∨ l.parkCapable = true →
        ∃ x ∈ (allot p.fig.p p.fig.tm (participants snap)).grants, x.1 = LoadClaim.ofFields i l ∧
          ∃ a, p.grants[i] = some a ∧ a.grant = x.2 ∧ ReasonFits x.2 q a.reason)) ∧
    ((snap.slots[i].content.isUsed = false ∨ ∀ r, snap.slots[i].content.record? = some r → r.ident.cls ≠ .load) →
      p.grants[i] = none)) ∧
  ∀ (s : State) (p : Pass), s.dev.se.pass = some p → s.dev.mc.sleepPending = none → PassSound s.dev →
    ∃ d', exec .passCompletion s = .next { s with dev := d' } ∧
      ∀ (i : SlotNo) (r : Record), (s.dev.slot i).content.record? = some r → (s.dev.slot i).content.isMarked = false →
        ∃ r', (d'.slot i).content.record? = some r' ∧ r'.image = r.image ∧ r'.ident = r.ident ∧
          (p.snap.slots[i].content.isUsed = false ∨ p.snap.slots[i].generation ≠ (s.dev.slot i).generation ∨
              p.grants[i] = none → r'.answer = r.answer) ∧
          ∀ old a, p.snap.slots[i].content.record? = some old → p.grants[i] = some a →
            p.snap.slots[i].generation = (s.dev.slot i).generation →
            ((s.dev.slot i).content.isRetiring → r'.answer = some { grant := 0, reason := .retiringZero }) ∧
            ((s.dev.slot i).content.isUsed → ∀ l q, r.image.body = .load l → l.request = some q →
              (old.image.SameAsk r.image ∨ a.reason = .staleZero ∨ a.reason = .parkDormant → r'.answer = some a) ∧
              (¬old.image.SameAsk r.image → a.reason ≠ .staleZero → a.reason ≠ .parkDormant →
                (∀ y ∈ l.steps.listed, 0 < y) → ∃ a', r'.answer = some a' ∧ FittedAnswer l q a.grant a'))

/-- Allotment (R90 to R96): from a pool that is not negative, with requests from 0 up, floors from 0 up and not above a
nonzero request, tier 0, driving traction and the tiers 1 to 3 are served in this order, each tier from what is left: floors
first fit in slot order, excesses shared, grants snapped. The sum of the grants and of driving traction never passes the
pool; every grant lies between 0 and its request; what is left is what was not granted; and traction takes all it asks or
all that tier 0 left. The loads that take part are the LIVE ones, in PARK the park-capable ones, in slot order. TRACTION_CUT
tells that driving traction got less than it asked, TIER0_SHORT that a tier 0 load that takes part did. -/
def Obligations.AllotmentStaysWithinPool : Prop :=
  (∀ (p tm : Power) (cs : List LoadClaim) (al : Allotment) (g : Nat → List (LoadClaim × Power)), 0 ≤ p →
    (∀ c ∈ cs, 0 ≤ c.request ∧ 0 ≤ c.floor ∧ (c.request ≠ 0 → c.floor ≤ c.request) ∧ c.tier ≤ 3 ∧
      ∀ x ∈ c.steps, 0 < x) →
    al = allot p tm cs → g = (fun t => al.grants.filter fun x => x.1.tier = t) →
    al.grants = g 0 ++ g 1 ++ g 2 ++ g 3 ∧ TierServed p (cs.filter (·.tier = 0)) (g 0) ∧
      TierServed (p - sumGrants (g 0) - max al.tg 0) (cs.filter (·.tier = 1)) (g 1) ∧
      TierServed (p - sumGrants (g 0) - max al.tg 0 - sumGrants (g 1)) (cs.filter (·.tier = 2)) (g 2) ∧
      TierServed (p - sumGrants (g 0) - max al.tg 0 - sumGrants (g 1) - sumGrants (g 2)) (cs.filter (·.tier = 3))
        (g 3) ∧
      (tm ≤ 0 → al.tg = tm) ∧ (0 < tm → al.tg = min tm (p - sumGrants (g 0))) ∧
      sumGrants al.grants + max al.tg 0 ≤ p ∧ al.left = p - sumGrants al.grants - max al.tg 0 ∧
      (∀ x ∈ al.grants, 0 ≤ x.2 ∧ x.2 ≤ x.1.request) ∧ (al.grants.map (·.1)).Perm cs) ∧
  (∀ (snap : Snapshot) (c : LoadClaim),
    (c ∈ participants snap ↔ ∃ (r : Record) (l : LoadFields),
      snap.slots[c.slot].content = .live r ∧ r.image.body = .load l ∧
      (snap.mode = .park → l.parkCapable = true) ∧
      c =
        { slot := c.slot, tier := l.tier, request := l.request.getD 0, floor := l.floor.getD 0,
          steps := l.steps.listed }) ∧
    ((participants snap).map (·.slot)).Pairwise (· < ·)) ∧
  ∀ (snap : Snapshot) (f : Figures) (al : Allotment), f = (computePass snap (combine snap)).fig →
    al = allot f.p f.tm (participants snap) →
    (f.tractionCut = true ↔ 0 < f.tm ∧ al.tg < f.tm) ∧
    (f.tier0Short = true ↔ ∃ x ∈ al.grants, x.1.tier = 0 ∧ x.2 ≠ x.1.request)

/-- The preferred battery power and the band of genset outputs (R98, R99) in every pass on a sound snapshot. N is here the
net demand before any regeneration cut. -/
def Obligations.SetpointBandHoldsDesiredOutput : Prop :=
  ∀ snap : Snapshot, snap.Sound →
    ∀ f n : _, f = (computePass snap (combine snap)).fig → n = f.n - f.regenCut →
      (within (-f.bc) f.bd (snap.cfg.kp * (f.s - snap.cfg.sTarget)) →
        f.pp = snap.cfg.kp * (f.s - snap.cfg.sTarget)) ∧
      (snap.cfg.kp * (f.s - snap.cfg.sTarget) < -f.bc → f.pp = -f.bc) ∧
      (f.bd < snap.cfg.kp * (f.s - snap.cfg.sTarget) → f.pp = f.bd) ∧
      f.l = max (n - f.bd) 0 ∧ f.u = min f.gav (max (n + f.bc) 0) ∧ f.l ≤ f.u ∧ within f.l f.u f.gd ∧
      (within f.l f.u (n - f.pp) → f.gd = n - f.pp) ∧ (n + f.bc < 0 → f.u = 0) ∧ n ≤ f.bd + f.gav

/-- The setpoint (R100) in every pass on a sound snapshot whose operating points in use ascend: 0 without OFFPOINT where
Gav is 0; else the admissible point of the band nearest to the desired output, the lower of two equally near, or the
desired output with OFFPOINT where the band holds no admissible point. It never passes Gav. -/
def Obligations.SetpointIsNearestAdmissiblePoint : Prop :=
  ∀ snap : Snapshot, snap.Sound →
    ∀ f, f = (computePass snap (combine snap)).fig →
      (f.gav = 0 → f.gset = 0 ∧ f.offpoint = false) ∧
      (f.gav ≠ 0 → (∃ q ∈ admissible snap, within f.l f.u q) →
        f.offpoint = false ∧ f.gset ∈ admissible snap ∧ within f.l f.u f.gset ∧
        ∀ q ∈ admissible snap, within f.l f.u q →
          (f.gset - f.gd).natAbs < (q - f.gd).natAbs ∨
            ((f.gset - f.gd).natAbs = (q - f.gd).natAbs ∧ f.gset ≤ q)) ∧
      (f.gav ≠ 0 → (∀ q ∈ admissible snap, ¬within f.l f.u q) → f.offpoint = true ∧ f.gset = f.gd) ∧
      (∀ q, q ∈ admissible snap ↔
        q ∈ snap.cfg.points.toList.take snap.cfg.pointCount.toNat ∨
          (q = 0 ∧ (snap.genset = .running ∨ snap.genset = .warmup))) ∧
      within f.l f.u f.gset ∧ f.gset ≤ f.gav

/-- The battery power and the regeneration cut (R101) in every pass on a sound snapshot: Pb is N less Gset and lies in
[−Bc, Bd]; where N before the cut lies below −Bc the cut brings N and Pb to −Bc with REGEN_CUT set and traction not
positive; in every other pass the cut is 0 and REGEN_CUT clear. The loads, the granted traction and regeneration keep to
the pool (R95). -/
def Obligations.BatteryPowerStaysWithinLimits : Prop :=
  ∀ snap : Snapshot, snap.Sound →
    ∀ f n al : _, f = (computePass snap (combine snap)).fig → al = allot f.p f.tm (participants snap) →
      n = sumGrants al.grants + al.tg →
      f.pb = f.n - f.gset ∧ -f.bc ≤ f.pb ∧ f.pb ≤ f.bd ∧ 0 ≤ f.bd ∧ 0 ≤ f.bc ∧
      (0 ≤ n + f.bc → f.regenCut = 0 ∧ f.regenCutFlag = false ∧ f.n = n ∧ f.tg = al.tg) ∧
      (n + f.bc < 0 → f.regenCut = -f.bc - n ∧ f.regenCutFlag = true ∧ f.n = -f.bc ∧ f.pb = -f.bc ∧
        f.tg = al.tg + f.regenCut ∧ f.tg ≤ 0 ∧ f.gset = 0) ∧
      f.r = max (-f.tm) 0 ∧ f.p = f.bd + f.gav + f.r ∧ sumGrants al.grants + max f.tg 0 ≤ f.p

/-! ## The Configuration Set -/

/-- CONFIG_WRITE of a known field (R175, R128): NOT_NOW outside STANDBY for a field that is not live; BAD_CONFIG outside
STANDBY where the ordering of the charge levels would break; else the value brought into its range is stored, the field
alone changes, the valid mark falls in STANDBY and stands elsewhere, and a crank limit adjusts the crank failure count; the
reply carries the field number and the value as stored, CLAMPED where it differs from the one sent. An unknown field number
or the valid mark is answered BAD_REQUEST and changes no field. -/
def Obligations.ConfigWriteStoresInRange : Prop :=
  ∀ (s : State) (q : SpiRequest), HeadIs s.dev .configWrite q →
    ∃ d', exec .configWrite s = .next { s with dev := d' } ∧ d'.tbl = s.dev.tbl ∧ d'.rta = s.dev.rta ∧
      d'.rau = s.dev.rau ∧ d'.bc = s.dev.bc ∧ d'.se = s.dev.se ∧ d'.mc = s.dev.mc ∧ d'.vbp = s.dev.vbp ∧
      (ConfigField.ofByte (byteAt q.payload 0) = none →
        d'.cs = s.dev.cs ∧ d'.gs = s.dev.gs ∧ ∃ p, s.dev.sl.repliedTo d'.sl q .badRequest p s.dev.now) ∧
      ∀ (f : ConfigField) (sent : Half) (v : Int) (c : ConfigSet), ConfigField.ofByte (byteAt q.payload 0) = some f →
        sent = halfOf (byteAt q.payload 1) (byteAt q.payload 2) → v = f.range.bring sent → c = s.dev.cs.set f v →
        (s.dev.mc.mode ≠ .standby → f.live = false →
          d'.cs = s.dev.cs ∧ d'.gs = s.dev.gs ∧
          s.dev.sl.repliedTo d'.sl q .notNow (natByte f.number :: valueBytes (s.dev.cs.get f)) s.dev.now) ∧
        (s.dev.mc.mode ≠ .standby → f.live = true → f.isLevel = true → c.levelsOrdered = false →
          d'.cs = s.dev.cs ∧ d'.gs = s.dev.gs ∧
          s.dev.sl.repliedTo d'.sl q .badConfig (natByte f.number :: valueBytes (s.dev.cs.get f)) s.dev.now) ∧
        ((s.dev.mc.mode = .standby ∨ f.live = true ∧ (f.isLevel = true → c.levelsOrdered = true)) →
          f.range.admits v ∧ d'.cs.get f = v ∧ (∀ g : ConfigField, g ≠ f → d'.cs.get g = s.dev.cs.get g) ∧
          d'.cs.valid = (if s.dev.mc.mode = .standby then false else s.dev.cs.valid) ∧
          s.dev.sl.repliedTo d'.sl q (if BitVec.ofInt 16 v = sent then .ok else .clamped)
            (natByte f.number :: valueBytes v) s.dev.now ∧
          (f ≠ .crankLimit → d'.gs = s.dev.gs) ∧
          (f = .crankLimit →
            d'.gs = { s.dev.gs with crankCount := d'.gs.crankCount } ∧
            (s.dev.gs.state = .lockout → (d'.gs.crankCount : Int) = v) ∧
            (s.dev.gs.state = .off → v ≤ s.dev.gs.crankCount → (d'.gs.crankCount : Int) = v - 1) ∧
            (s.dev.gs.state = .off → (s.dev.gs.crankCount : Int) < v → d'.gs.crankCount = s.dev.gs.crankCount)))

/-- CONFIG_READ (R177): it returns the field number and the value as stored in any mode, the valid mark for field 0x00,
places beyond the operating point count as they are held; an unknown field number is answered BAD_REQUEST; nothing but the
link changes. -/
def Obligations.ConfigReadReturnsStoredValue : Prop :=
  ∀ (s : State) (q : SpiRequest), HeadIs s.dev .configRead q →
    ∃ d', exec .configRead s = .next { s with dev := d' } ∧
      d' = { s.dev with sl := d'.sl, draws := d'.draws } ∧
      (∀ f, ConfigField.ofByte (byteAt q.payload 0) = some f →
        s.dev.sl.repliedTo d'.sl q .ok (byteAt q.payload 0 :: valueBytes (s.dev.cs.get f)) s.dev.now) ∧
      (byteAt q.payload 0 = 0 →
        s.dev.sl.repliedTo d'.sl q .ok (0 :: valueBytes (if s.dev.cs.valid then 1 else 0)) s.dev.now) ∧
      (byteAt q.payload 0 ≠ 0 → ConfigField.ofByte (byteAt q.payload 0) = none →
        ∃ p, s.dev.sl.repliedTo d'.sl q .badRequest p s.dev.now)

/-- CONFIG_DONE (R176, R147): in STANDBY, where both orderings hold, the valid mark is set and base and bit rate come into
force: an IDLE controller becomes ACTIVE with its queues kept; where they differ from those in force it is re-initialised
with its queues emptied and the roster kept, and becomes ACTIVE with an error count of 0 while the Genset Sequencer stands
(the model's deduction, log 23); where they do not it stands. Where an ordering fails BAD_CONFIG names the first field of the
failing check. In DRIVE and PARK it is answered OK and changes nothing. -/
def Obligations.ConfigDoneChecksAndTakesForce : Prop :=
  ∀ (s : State) (q : SpiRequest), HeadIs s.dev .configDone q →
    ∃ d', exec .configDone s = .next { s with dev := d' } ∧
      d' = { s.dev with sl := d'.sl, draws := d'.draws, cs := d'.cs, vbp := d'.vbp } ∧
      (s.dev.mc.mode ≠ .standby →
        d'.cs = s.dev.cs ∧ d'.vbp = s.dev.vbp ∧ s.dev.sl.repliedTo d'.sl q .ok [] s.dev.now) ∧
      (s.dev.mc.mode = .standby → s.dev.cs.levelsOrdered = false →
        d'.cs = s.dev.cs ∧ d'.vbp = s.dev.vbp ∧ s.dev.sl.repliedTo d'.sl q .badConfig [0x02] s.dev.now) ∧
      (s.dev.mc.mode = .standby → s.dev.cs.levelsOrdered = true → ascending s.dev.cs.usedPoints = false →
        d'.cs = s.dev.cs ∧ d'.vbp = s.dev.vbp ∧ s.dev.sl.repliedTo d'.sl q .badConfig [0x08] s.dev.now) ∧
      (s.dev.mc.mode = .standby → s.dev.cs.levelsOrdered = true → ascending s.dev.cs.usedPoints = true →
        d'.cs = { s.dev.cs with valid := true } ∧ s.dev.sl.repliedTo d'.sl q .ok [] s.dev.now ∧
        d'.vbp.roster = s.dev.vbp.roster ∧ d'.vbp.baseInForce = s.dev.cs.canBase ∧
        d'.vbp.rateInForce = s.dev.cs.canRate ∧
        (s.dev.vbp.ctrl = .idle → d'.vbp.ctrl = .active ∧ d'.vbp.rx = s.dev.vbp.rx ∧ d'.vbp.tx = s.dev.vbp.tx) ∧
        (s.dev.vbp.ctrl ≠ .idle →
          (s.dev.cs.canBase = s.dev.vbp.baseInForce ∧ s.dev.cs.canRate = s.dev.vbp.rateInForce →
            d'.vbp = s.dev.vbp) ∧
          (¬(s.dev.cs.canBase = s.dev.vbp.baseInForce ∧ s.dev.cs.canRate = s.dev.vbp.rateInForce) →
            d'.vbp.ctrl = .active ∧ d'.vbp.txErrors = 0 ∧ d'.vbp.rx = [] ∧ d'.vbp.tx = .cleared ∧
            d'.vbp.awardQueue = [] ∧ ∀ i : SlotNo, d'.vbp.lastAward[i] = none)))

/-! ## The Mode Controller -/

/-- START_DRIVE (R131 to R133). In STANDBY with KEY on and the valid mark set: DRIVE is entered, the split timer started
for 10 ms, the broadcast queued in the MODE class (or dropped with notice LINK where there is no room) and OK answered. In
STANDBY otherwise NOT_NOW names the failed condition, in DRIVE OK is answered, in PARK NOT_NOW with mode and genset state
(the model's deduction, log 34, also for SLEEP, where no run has a request), and none of them changes anything but the link.
(A SLEEP pends only in PARK: `ModeSound`.) -/
def Obligations.StartDriveEntersDrive : Prop :=
  ∀ (s : State) (q : SpiRequest), HeadIs s.dev .startDrive q →
    ∃ d', exec .startDrive s = .next { s with dev := d' } ∧ d'.tbl = s.dev.tbl ∧ d'.rta = s.dev.rta ∧
      d'.rau = s.dev.rau ∧ d'.bc = s.dev.bc ∧ d'.gs = s.dev.gs ∧ d'.cs = s.dev.cs ∧
      (s.dev.mc.mode = .standby → s.dev.mc.key = true → s.dev.cs.valid = true → s.dev.mc.sleepPending = none →
        d'.mc = { s.dev.mc with mode := .drive, parkTimer := .stopped, floorTimer := .stopped } ∧
        d'.se = { s.dev.se with timer := .running 10 } ∧
        s.dev.sl.repliedBesideNotices d'.sl q .ok [] s.dev.now ∧
        (s.dev.txRoom = true →
          d'.sl.notices = s.dev.sl.notices ∧
          d'.vbp.tx.modes = s.dev.vbp.tx.modes ++ [{ dest := .broadcast, body := .mode .drive .request }] ∧
          d'.vbp = { s.dev.vbp with tx := { s.dev.vbp.tx with modes := d'.vbp.tx.modes } }) ∧
        (s.dev.txRoom = false →
          d'.vbp = s.dev.vbp ∧
          d'.sl.notices.link = some (NoticeEntry.raised s.dev.sl.notices.link 0x23F))) ∧
      (s.dev.mc.mode ≠ .standby ∨ s.dev.mc.key = false ∨ s.dev.cs.valid = false →
        d'.mc = s.dev.mc ∧ d'.se = s.dev.se ∧ d'.vbp = s.dev.vbp ∧
        (s.dev.mc.mode = .standby → s.dev.cs.valid = true → s.dev.sl.repliedTo d'.sl q .notNow [1] s.dev.now) ∧
        (s.dev.mc.mode = .standby → s.dev.mc.key = true → s.dev.sl.repliedTo d'.sl q .notNow [2] s.dev.now) ∧
        (s.dev.mc.mode = .standby → s.dev.mc.key = false → s.dev.cs.valid = false →
          s.dev.sl.repliedTo d'.sl q .notNow [3] s.dev.now) ∧
        (s.dev.mc.mode = .drive → s.dev.sl.repliedTo d'.sl q .ok [] s.dev.now) ∧
        (s.dev.mc.mode = .park ∨ s.dev.mc.mode = .sleep →
          s.dev.sl.repliedTo d'.sl q .notNow [s.dev.mc.mode.code, s.dev.gs.state.code] s.dev.now))

/-- SLEEP (R138 to R140). In PARK with the genset at rest and nothing pending it is a cause: between passes SLEEP is
entered in the act, the reply with it; with a pass in flight, one begun in DRIVE included (the model's deduction, log 18),
the mark is set and no reply placed yet. With the mark set OK is answered with the pending cause. In PARK with the genset in
another state, and in STANDBY and DRIVE, NOT_NOW is answered with mode and genset state, and nothing but the link changes. -/
def Obligations.SleepRequestEntersSleepOrPends : Prop :=
  ∀ (s : State) (q : SpiRequest), HeadIs s.dev .sleep q →
    ∃ d', exec .sleep s = .next { s with dev := d' } ∧
      (s.dev.mc.mode = .park → s.dev.mc.sleepPending = none → s.dev.gs.state = .off ∨ s.dev.gs.state = .lockout →
        (s.dev.se.pass = none → s.dev.IsAsleep d' (.request q.tag)) ∧
        (s.dev.se.pass ≠ none →
          d' =
            { s.dev with
              mc := { s.dev.mc with sleepPending := some (.request q.tag) },
              sl := { s.dev.sl with requests := s.dev.sl.requests.tail } })) ∧
      (∀ c, s.dev.mc.mode = .park → s.dev.mc.sleepPending = some c →
        d' = { s.dev with sl := d'.sl, draws := d'.draws } ∧
        s.dev.sl.repliedTo d'.sl q .ok [c.modeCause.code] s.dev.now) ∧
      ((s.dev.mc.mode = .park → s.dev.mc.sleepPending = none ∧ s.dev.gs.state ≠ .off ∧ s.dev.gs.state ≠ .lockout) →
        d' = { s.dev with sl := d'.sl, draws := d'.draws } ∧
        s.dev.sl.repliedTo d'.sl q .notNow [s.dev.mc.mode.code, s.dev.gs.state.code] s.dev.now)

/-- The park timer and the floor timer expire in PARK (R136 to R139): between passes SLEEP is entered with that cause; with
a pass in flight, one begun in DRIVE included (the model's deduction, log 18), the sleep-pending mark is set, the first cause
kept, and nothing but the timer changes beside it. The completion of that pass then enters SLEEP with the pending cause: the
genset at rest in PARK (R139), what SLEEP entry leaves is all that is left of the completion. -/
def Obligations.ParkTimersEndInSleep : Prop :=
  (∀ s : State, s.dev.mc.mode = .park →
    (s.dev.mc.parkTimer.isRunning →
      ∃ d', exec .parkTimerExpiry s = .next { s with dev := d' } ∧
        (s.dev.se.pass = none → s.dev.IsAsleep d' .parkTime) ∧
        (s.dev.se.pass ≠ none →
          d' =
            { s.dev with
              mc := { s.dev.mc with
                parkTimer := .stopped, sleepPending := some (s.dev.mc.sleepPending.getD .parkTime) } })) ∧
    (s.dev.mc.floorTimer.isRunning →
      ∃ d', exec .floorTimerExpiry s = .next { s with dev := d' } ∧
        (s.dev.se.pass = none → s.dev.IsAsleep d' .parkFloor) ∧
        (s.dev.se.pass ≠ none →
          d' =
            { s.dev with
              mc := { s.dev.mc with
                floorTimer := .stopped, sleepPending := some (s.dev.mc.sleepPending.getD .parkFloor) } }))) ∧
  ∀ (s : State) (p : Pass) (c : SleepCause), s.dev.se.pass = some p → s.dev.mc.mode = .park →
    s.dev.mc.sleepPending = some c → s.dev.gs.state.atRest = true →
    ∃ d', exec .passCompletion s = .next { s with dev := d' } ∧ s.dev.IsAsleep d' c

/-- The KEY input (R130). A change of the raw level starts the deglitch timer where the level now differs from KEY and
stops it where it does not. Its expiry takes the raw level as KEY: KEY off in DRIVE is park entry (R134), KEY on in PARK
entry into DRIVE (R132), KEY on in SLEEP a wake (R142); anything else changes nothing more. -/
def Obligations.KeyLevelMovesModes : Prop :=
  (∀ (s : State) (level : Bool), level ≠ s.dev.mc.rawKey →
    exec (.keyLevelChange level) s = .next
      { s with dev :=
        { s.dev with mc :=
          { s.dev.mc with
            rawKey := level,
            deglitchTimer :=
              if level = s.dev.mc.key then .stopped else .running s.dev.cs.keyDeglitch.toNat } } }) ∧
  ∀ s : State, s.dev.mc.deglitchTimer.isRunning →
    ∃ d', exec .deglitchTimerExpiry s = .next { s with dev := d' } ∧ d'.mc.key = s.dev.mc.rawKey ∧
      d'.mc.rawKey = s.dev.mc.rawKey ∧ d'.mc.deglitchTimer = .stopped ∧ d'.tbl = s.dev.tbl ∧ d'.rta = s.dev.rta ∧
      d'.bc = s.dev.bc ∧ d'.cs = s.dev.cs ∧ d'.now = s.dev.now ∧ d'.vbp.roster = s.dev.vbp.roster ∧
      d'.se.pass = s.dev.se.pass ∧ d'.se.result = s.dev.se.result ∧
      (s.dev.mc.mode = .drive → s.dev.mc.rawKey = false →
        d'.mc.mode = .park ∧ d'.mc.floorTimer = .stopped ∧ d'.mc.sleepPending = s.dev.mc.sleepPending ∧
        d'.mc.parkTimer =
          (if s.dev.cs.parkTimeMax.toNat = 0 then .stopped else .running (s.dev.cs.parkTimeMax.toNat * 60000)) ∧
        d'.rau = { s.dev.rau with parkEntrySet := true } ∧ d'.se = s.dev.se ∧
        (s.dev.gs.state.atRest = true → d'.gs = s.dev.gs) ∧
        (s.dev.gs.state.atRest = false →
          d'.gs.state = .off ∧ d'.gs.setpoint = 0 ∧ d'.gs.crankCount = s.dev.gs.crankCount ∧ s.dev.issued d' .stop) ∧
        (s.dev.vbp.ctrl ≠ .idle → s.dev.vbp.tx.count + 2 < 24 →
          d'.vbp.tx.modes = s.dev.vbp.tx.modes ++ [{ dest := .broadcast, body := .mode .park .key }])) ∧
      (s.dev.mc.mode = .park → s.dev.mc.rawKey = true →
        d'.mc.mode = .drive ∧ d'.mc.parkTimer = .stopped ∧ d'.mc.floorTimer = .stopped ∧ d'.mc.sleepPending = none ∧
        d'.se.timer = .running 10 ∧ d'.gs = s.dev.gs ∧ d'.rau = s.dev.rau ∧
        (s.dev.txRoom = true →
          d'.vbp.tx.modes = s.dev.vbp.tx.modes ++ [{ dest := .broadcast, body := .mode .drive .key }]) ∧
        (∀ t, s.dev.mc.sleepPending = some (.request t) → s.dev.sl.replies.length < 16 →
          ∃ p, d'.sl.replies =
            s.dev.sl.replies ++
              [.enter ReqKind.sleep.code t Result.notNow.code p s.dev.sl.lostReply s.dev.now]) ∧
        ((∀ t, s.dev.mc.sleepPending ≠ some (.request t)) → d'.sl.replies = s.dev.sl.replies)) ∧
      (s.dev.mc.mode = .sleep → s.dev.mc.rawKey = true →
        d'.mc.mode = .standby ∧ d'.vbp.ctrl = .active ∧ d'.gs = s.dev.gs ∧ d'.se = s.dev.se ∧ d'.rau = s.dev.rau ∧
        (s.dev.vbp.tx.count < 24 →
          d'.vbp.tx.modes = s.dev.vbp.tx.modes ++ [{ dest := .broadcast, body := .mode .standby .key }])) ∧
      (s.dev.mc.mode = .standby ∨ (s.dev.mc.mode = .drive ∧ s.dev.mc.rawKey = true) ∨
          (s.dev.mc.rawKey = false ∧ (s.dev.mc.mode = .park ∨ s.dev.mc.mode = .sleep)) →
        d' = { s.dev with mc := { s.dev.mc with key := s.dev.mc.rawKey, deglitchTimer := .stopped } })

/-! ## The Genset Sequencer -/

/-- FORCE_GENSET and CLEAR_LOCKOUT (R126, R127). A force setting 0, 1 or 2 is taken and answered OK with genset state, crank
failure count and force setting as they then stand; AUTO and ON do nothing more, nor does OFF in OFF, COOLDOWN or LOCKOUT;
OFF in CRANKING issues STOP and enters OFF; in WARMUP and RUNNING it enters COOLDOWN, or OFF with a STOP where the cooldown
time is 0. Another value is answered BAD_REQUEST and changes nothing. CLEAR_LOCKOUT in LOCKOUT clears the crank failure
count and enters OFF; in another state it changes nothing; it is answered OK. -/
def Obligations.GensetRequestsTakeEffect : Prop :=
  (∀ (s : State) (q : SpiRequest), HeadIs s.dev .forceGenset q →
    ∃ d', exec .forceGenset s = .next { s with dev := d' } ∧ s.dev.keepsBesideGenset d' ∧
      d'.vbp.rx = s.dev.vbp.rx ∧
      (Force.ofByte (byteAt q.payload 0) = none →
        d'.gs = s.dev.gs ∧ d'.vbp = s.dev.vbp ∧
        s.dev.sl.repliedTo d'.sl q .badRequest
          [s.dev.gs.state.code, natByte s.dev.gs.crankCount, s.dev.gs.force.code] s.dev.now) ∧
      ∀ x, Force.ofByte (byteAt q.payload 0) = some x →
        d'.gs.force = x ∧ d'.gs.crankCount = s.dev.gs.crankCount ∧
        s.dev.sl.repliedBesideNotices d'.sl q .ok
          [d'.gs.state.code, natByte s.dev.gs.crankCount, x.code] s.dev.now ∧
        (x ≠ .off ∨ s.dev.gs.state = .cooldown ∨ s.dev.gs.state.atRest = true →
          d'.gs = { s.dev.gs with force := x } ∧ d'.vbp = s.dev.vbp ∧ d'.sl.notices = s.dev.sl.notices) ∧
        (x = .off → s.dev.gs.state = .cranking →
          d'.gs.state = .off ∧ s.dev.issued d' .stop ∧ d'.gs.setpoint = 0 ∧ d'.gs.crankTimer = .stopped) ∧
        (x = .off → s.dev.gs.state = .warmup ∨ s.dev.gs.state = .running →
          d'.gs.setpoint = 0 ∧
          (s.dev.cs.cooldown.toNat = 0 → d'.gs.state = .off ∧ s.dev.issued d' .stop) ∧
          (s.dev.cs.cooldown.toNat ≠ 0 →
            d'.gs.state = .cooldown ∧ d'.gs.cooldownTimer = .running (s.dev.cs.cooldown.toNat * 1000) ∧
            d'.gs.inFlight = s.dev.gs.inFlight ∧ d'.gs.seq = s.dev.gs.seq))) ∧
  ∀ (s : State) (q : SpiRequest), HeadIs s.dev .clearLockout q →
    ∃ d', exec .clearLockout s = .next { s with dev := d' } ∧
      d' = { s.dev with sl := d'.sl, draws := d'.draws, gs := d'.gs } ∧
      s.dev.sl.repliedTo d'.sl q .ok [d'.gs.state.code, natByte d'.gs.crankCount, s.dev.gs.force.code] s.dev.now ∧
      (s.dev.gs.state ≠ .lockout → d'.gs = s.dev.gs) ∧
      (s.dev.gs.state = .lockout →
        d'.gs.state = .off ∧ d'.gs.crankCount = 0 ∧ d'.gs.setpoint = 0 ∧ d'.gs.force = s.dev.gs.force ∧
        d'.gs.seq = s.dev.gs.seq ∧ d'.gs.inFlight = s.dev.gs.inFlight ∧
        d'.gs.minOff =
          (if s.dev.cs.minOffTime.toNat = 0 then .elapsed else .running (s.dev.cs.minOffTime.toNat * 1000)))

/-- ENGINE_REPORT (R109, R110, R115, R122, R123). The oldest report leaves the receive buffer. From another node than the
engine peer, too short (fewer than 3 bytes, the model's choice, log 9), with an unknown engine state, or stale against the
order in flight, it is discarded. Otherwise no order is in flight after it, but for one it makes the Sequencer issue, and
the genset moves by its state: a start succeeds or fails, a stall goes to OFF, an unexpected run is answered with a STOP. -/
def Obligations.EngineReportActsByState : Prop :=
  ∀ (s : State) (f : RxFrame), s.dev.vbp.rx.find? isReportFrame = some f →
    ∃ d', exec .engineReport s = .next { s with dev := d' } ∧ s.dev.keepsBesideGenset d' ∧
      d'.vbp.rx = s.dev.vbp.rx.eraseP isReportFrame ∧ s.dev.sl.keepsBesideGensetNotices d'.sl ∧
      ((s.dev.enginePeer ≠ some f.node ∨ f.data.length < 3 ∨ EngineState.ofByte (byteAt f.data 2) = none ∨
          (∃ o, s.dev.gs.inFlight = some o ∧ o.seq ≠ byteAt f.data 1)) →
        d' = { s.dev with vbp := { s.dev.vbp with rx := s.dev.vbp.rx.eraseP isReportFrame } }) ∧
      ∀ e, s.dev.enginePeer = some f.node → 3 ≤ f.data.length → EngineState.ofByte (byteAt f.data 2) = some e →
        (∀ o, s.dev.gs.inFlight = some o → o.seq = byteAt f.data 1) →
        (s.dev.gs.state = .cranking → e = .running →
          d'.gs.crankCount = 0 ∧ d'.gs.setpoint = 0 ∧ d'.gs.crankTimer = .stopped ∧ d'.gs.inFlight = none ∧
          d'.gs.seq = s.dev.gs.seq ∧
          d'.gs.minOn =
            (if s.dev.cs.minOnTime.toNat = 0 then .elapsed else .running (s.dev.cs.minOnTime.toNat * 1000)) ∧
          d'.gs.state =
            (if (s.dev.bc.coolantPresent = true ∧ s.dev.cs.warmThreshold ≤ s.dev.bc.coolant) ∨
              s.dev.cs.warmTimeMax.toNat = 0 then .running else .warmup) ∧
          (d'.gs.state = .warmup → d'.gs.warmTimer = .running (s.dev.cs.warmTimeMax.toNat * 1000))) ∧
        (s.dev.gs.state = .cranking → e = .stopped ∨ e = .stalled →
          s.dev.issued d' .stop ∧ d'.gs.crankCount = s.dev.gs.crankCount + 1 ∧ d'.gs.setpoint = 0 ∧
          d'.gs.crankTimer = .stopped ∧
          d'.gs.state = (if (s.dev.gs.crankCount : Int) + 1 = s.dev.cs.crankLimit then .lockout else .off)) ∧
        ((s.dev.gs.state = .warmup ∨ s.dev.gs.state = .running ∨ s.dev.gs.state = .cooldown) →
          e = .stopped ∨ e = .stalled →
          d'.gs.state = .off ∧ d'.gs.setpoint = 0 ∧ d'.gs.inFlight = none ∧
          d'.gs.crankCount = s.dev.gs.crankCount ∧ d'.vbp.tx = s.dev.vbp.tx ∧
          d'.sl.notices.gensetFault = some (NoticeEntry.raised s.dev.sl.notices.gensetFault 3)) ∧
        (s.dev.gs.state.atRest = true → e = .running ∨ e = .cranking →
          d'.gs.state = s.dev.gs.state ∧ d'.gs.crankCount = s.dev.gs.crankCount ∧ s.dev.issued d' .stop ∧
          d'.sl.notices.gensetFault = some (NoticeEntry.raised s.dev.sl.notices.gensetFault 4)) ∧
        ((s.dev.gs.state.atRest = true ∧ (e = .stopped ∨ e = .stalled)) ∨
            (s.dev.gs.state.atRest = false ∧ (e = .cranking ∨ (e = .running ∧ s.dev.gs.state ≠ .cranking))) →
          d' =
            { s.dev with
              gs := { s.dev.gs with inFlight := none },
              vbp := { s.dev.vbp with rx := s.dev.vbp.rx.eraseP isReportFrame } })

/-- The genset timers (R108, R115, R117, R121). The crank timer's expiry fails the start: STOP issued, the failure count
raised, LOCKOUT with notice at the crank limit, else OFF. The warm timer's expiry enters RUNNING. The cooldown timer's
issues STOP and enters OFF. The min-on and min-off timers' are remembered, and change nothing else. -/
def Obligations.GensetTimersExpire : Prop :=
  ∀ s : State,
    (s.dev.gs.crankTimer.isRunning →
      ∃ d', exec .crankTimerExpiry s = .next { s with dev := d' } ∧ s.dev.keepsBesideGenset d' ∧
        d'.vbp.rx = s.dev.vbp.rx ∧ s.dev.sl.keepsBesideGensetNotices d'.sl ∧
        s.dev.issued d' .stop ∧ d'.gs.crankCount = s.dev.gs.crankCount + 1 ∧ d'.gs.crankTimer = .stopped ∧
        d'.gs.setpoint = 0 ∧
        ((s.dev.gs.crankCount : Int) + 1 = s.dev.cs.crankLimit →
          d'.gs.state = .lockout ∧
          d'.sl.notices.gensetFault = some (NoticeEntry.raised s.dev.sl.notices.gensetFault 2)) ∧
        ((s.dev.gs.crankCount : Int) + 1 ≠ s.dev.cs.crankLimit →
          d'.gs.state = .off ∧ d'.sl.notices.gensetFault = s.dev.sl.notices.gensetFault)) ∧
    (s.dev.gs.warmTimer.isRunning →
      ∃ d', exec .warmTimerExpiry s = .next { s with dev := d' } ∧ s.dev.keepsBesideGenset d' ∧
        d'.vbp.rx = s.dev.vbp.rx ∧ s.dev.sl.keepsBesideGensetNotices d'.sl ∧
        d'.gs = { s.dev.gs with state := .running, warmTimer := .stopped, lastSent := d'.gs.lastSent } ∧
        (∀ n, s.dev.enginePeer = some n → s.dev.txRoom = true →
          ({ dest := .node n, body := .setpoint s.dev.gs.setpoint } : TxFrame) ∈ d'.vbp.tx.orders ∧
          d'.gs.lastSent = some s.dev.gs.setpoint)) ∧
    (s.dev.gs.cooldownTimer.isRunning →
      ∃ d', exec .cooldownTimerExpiry s = .next { s with dev := d' } ∧ s.dev.keepsBesideGenset d' ∧
        d'.vbp.rx = s.dev.vbp.rx ∧ s.dev.sl.keepsBesideGensetNotices d'.sl ∧
        s.dev.issued d' .stop ∧ d'.gs.state = .off ∧ d'.gs.setpoint = 0 ∧ d'.gs.cooldownTimer = .stopped ∧
        d'.gs.crankCount = s.dev.gs.crankCount ∧
        d'.gs.minOff =
          (if s.dev.cs.minOffTime.toNat = 0 then .elapsed else .running (s.dev.cs.minOffTime.toNat * 1000))) ∧
    (s.dev.gs.minOn.isRunning →
      exec .minOnTimerExpiry s = .next { s with dev := { s.dev with gs := { s.dev.gs with minOn := .elapsed } } }) ∧
    (s.dev.gs.minOff.isRunning →
      exec .minOffTimerExpiry s = .next { s with dev := { s.dev with gs := { s.dev.gs with minOff := .elapsed } } })

/-- The acknowledgement timer expires with an order in flight (R111). Below the resend limit the order is handed again
with its own sequence, its resend count one higher and its timer fresh. At the limit, or above it where the limit was
lowered meanwhile (the model's choice, log 27), no order is in flight, the genset enters LOCKOUT with the crank failure
count at the limit, and the notice is raised. -/
def Obligations.AcknowledgementExpiryResendsOrLocksOut : Prop :=
  ∀ (s : State) (o : InFlight), s.dev.gs.inFlight = some o →
    ∃ d', exec .acknowledgementTimerExpiry s = .next { s with dev := d' } ∧ s.dev.keepsBesideGenset d' ∧
      d'.vbp.rx = s.dev.vbp.rx ∧ s.dev.sl.keepsBesideGensetNotices d'.sl ∧
      ((o.resends : Int) < s.dev.cs.orderRetryLimit →
        d'.gs = { s.dev.gs with inFlight := some { o with resends := o.resends + 1, timer := 100 } } ∧
        d'.sl.notices.gensetFault = s.dev.sl.notices.gensetFault ∧
        ∀ n, s.dev.enginePeer = some n → s.dev.txRoom = true →
          ({ dest := .node n, body := .order o.kind o.seq } : TxFrame) ∈ d'.vbp.tx.orders) ∧
      (s.dev.cs.orderRetryLimit ≤ (o.resends : Int) →
        d'.gs.state = .lockout ∧ d'.gs.crankCount = s.dev.cs.crankLimit.toNat ∧ d'.gs.inFlight = none ∧
        d'.gs.setpoint = 0 ∧ d'.gs.seq = s.dev.gs.seq ∧ d'.vbp = s.dev.vbp ∧
        d'.sl.notices.gensetFault = some (NoticeEntry.raised s.dev.sl.notices.gensetFault 5))

/-- The Sequencer's evaluation at a completion of a pass, no SLEEP pending (R113, R114, R116 to R120, R112), on the effective
set held, the new shortfall run count, and the mode of the snapshot and of the device. -/
def Obligations.CompletionEvaluatesGenset : Prop :=
  ∀ (s : State) (p : Pass), s.dev.se.pass = some p → s.dev.mc.sleepPending = none →
    ∃ d', exec .passCompletion s = .next { s with dev := d' } ∧
      ∀ (run : Nat) (start stop warm : Bool),
        run = (if p.fig.tractionCut || p.fig.tier0Short then min (s.dev.se.shortfall + 1) 255 else 0) →
        (start ↔ p.snap.mode = .drive ∧ s.dev.mc.mode = .drive ∧ s.dev.bc.permit = true ∧
          s.dev.gs.minOff = .elapsed ∧ s.dev.gs.force ≠ .off ∧
          (s.dev.bc.s ≤ s.dev.cs.sStart ∨ 3 ≤ run ∨ s.dev.gs.force = .on)) →
        (stop ↔ s.dev.gs.minOn = .elapsed ∧ s.dev.cs.sStop ≤ s.dev.bc.s ∧ run = 0 ∧ p.fig.n - p.fig.pp ≤ 0 ∧
          s.dev.gs.force ≠ .on) →
        (warm ↔ s.dev.bc.coolantPresent = true ∧ s.dev.cs.warmThreshold ≤ s.dev.bc.coolant) →
        (s.dev.gs.state = .off → start → s.dev.enginePeer.isSome →
          d'.gs.state = .cranking ∧ s.dev.issued d' .start ∧
          d'.gs.crankTimer = .running (s.dev.cs.crankTimeout.toNat * 100)) ∧
        (s.dev.gs.state = .off → start → s.dev.enginePeer = none →
          d'.gs = { s.dev.gs with noEngine := true } ∧
          (s.dev.gs.noEngine = false →
            d'.sl.notices.gensetFault = some (NoticeEntry.raised s.dev.sl.notices.gensetFault 1)) ∧
          (s.dev.gs.noEngine = true → d'.sl.notices.gensetFault = s.dev.sl.notices.gensetFault)) ∧
        (s.dev.gs.state = .off → ¬start → d'.gs = s.dev.gs) ∧
        (s.dev.gs.state = .cranking ∨ s.dev.gs.state = .cooldown → s.dev.bc.permit = false →
          d'.gs.state = .off ∧ s.dev.issued d' .stop ∧ d'.gs.setpoint = 0) ∧
        (s.dev.gs.state = .cranking → s.dev.gs.force = .off → d'.gs.state = .off ∧ s.dev.issued d' .stop) ∧
        (s.dev.gs.state = .cranking → s.dev.bc.permit = true → s.dev.gs.force ≠ .off → d'.gs = s.dev.gs) ∧
        (s.dev.gs.state = .cooldown → s.dev.bc.permit = true → d'.gs = s.dev.gs) ∧
        (s.dev.gs.state = .lockout → d'.gs = s.dev.gs) ∧
        (s.dev.gs.state = .warmup ∨ s.dev.gs.state = .running →
          (s.dev.bc.permit = false → d'.gs.state = .off ∧ s.dev.issued d' .stop ∧ d'.gs.setpoint = 0) ∧
          (s.dev.bc.permit = true → s.dev.gs.force = .off ∨ stop → d'.gs.setpoint = 0 ∧
            (s.dev.cs.cooldown.toNat ≠ 0 →
              d'.gs.state = .cooldown ∧ d'.gs.cooldownTimer = .running (s.dev.cs.cooldown.toNat * 1000)) ∧
            (s.dev.cs.cooldown.toNat = 0 → d'.gs.state = .off ∧ s.dev.issued d' .stop)) ∧
          (s.dev.bc.permit = true → s.dev.gs.force ≠ .off → ¬stop →
            (s.dev.gs.state = .warmup → warm → d'.gs.state = .running ∧ d'.gs.setpoint = s.dev.gs.setpoint) ∧
            (s.dev.gs.state = .running ∨ ¬warm →
              d'.gs.state = s.dev.gs.state ∧ d'.gs.setpoint = p.fig.gset ∧
              (s.dev.gs.lastSent = some p.fig.gset → d'.gs.lastSent = some p.fig.gset ∧
                d'.vbp.tx = s.dev.vbp.tx) ∧
              (s.dev.gs.lastSent ≠ some p.fig.gset → ∀ n, s.dev.enginePeer = some n → s.dev.txRoom = true →
                d'.gs.lastSent = some p.fig.gset ∧
                ({ dest := .node n, body := .setpoint p.fig.gset } : TxFrame) ∈ d'.vbp.tx.orders))))

/-! ## The Supervisor Link -/

/-- NOTICE_READ and RESULT_READ (R168, R163). NOTICE_READ returns and removes the entry of the kind it names, or without a
kind that of the highest priority (the lowest number): kind, count, first and last detail, and a mask of the kinds still
pending. Where no entry answers the reply is OK with kind 0 and no notice changes; an unknown kind is answered BAD_REQUEST.
(That the mask has bit k − 1 for kind k, and that kind 0 is an unknown kind, is the model's deduction, log 30.) RESULT_READ
returns the Split Result Record as it stands. -/
def Obligations.NoticeAndResultReadAnswer : Prop :=
  (∀ (s : State) (q : SpiRequest), HeadIs s.dev .noticeRead q →
    ∃ d', exec .noticeRead s = .next { s with dev := d' } ∧ d' = { s.dev with sl := d'.sl, draws := d'.draws } ∧
      (∀ (k : NoticeKind) (e : NoticeEntry), s.dev.sl.notices.get k = some e →
        (q.payload = [] ∧ ∀ j : NoticeKind, j.number < k.number → s.dev.sl.notices.get j = none) ∨
            (q.payload ≠ [] ∧ byteAt q.payload 0 = natByte k.number) →
        d'.sl.notices.get k = none ∧ (∀ j ≠ k, d'.sl.notices.get j = s.dev.sl.notices.get j) ∧
        ∃ m : Byte, (∀ j : NoticeKind, m.getLsbD (j.number - 1) = (d'.sl.notices.get j).isSome) ∧
          s.dev.sl.repliedBesideNotices d'.sl q .ok
            ([natByte k.number, natByte e.count] ++ halfBytes e.first ++ halfBytes e.last ++ [m]) s.dev.now) ∧
      ((q.payload = [] ∧ ∀ k : NoticeKind, s.dev.sl.notices.get k = none) ∨
          (q.payload ≠ [] ∧ ∃ k : NoticeKind, byteAt q.payload 0 = natByte k.number ∧ s.dev.sl.notices.get k = none) →
        ∃ p, s.dev.sl.repliedTo d'.sl q .ok p s.dev.now ∧ p.head? = some 0) ∧
      (q.payload ≠ [] → (∀ k : NoticeKind, byteAt q.payload 0 ≠ natByte k.number) →
        ∃ p, s.dev.sl.repliedTo d'.sl q .badRequest p s.dev.now)) ∧
  ∀ (s : State) (q : SpiRequest), HeadIs s.dev .resultRead q →
    ∃ d', exec .resultRead s = .next { s with dev := d' } ∧ d' = { s.dev with sl := d'.sl, draws := d'.draws } ∧
      s.dev.sl.repliedTo d'.sl q .ok s.dev.se.result.bytes s.dev.now ∧ s.dev.se.result.bytes.length = 40

/-- ROSTER_READ (R153): answered OK in any mode with, for each roster entry in the roster's order, node id, role and state,
then the controller state, the transmit error count, and the numbers of frames in the transmit queue and of entries in the
award queue; nothing but the link changes. -/
def Obligations.RosterReadReturnsPort : Prop :=
  ∀ (s : State) (q : SpiRequest), HeadIs s.dev .rosterRead q → RosterSound s.dev →
    ∃ d' p, exec .rosterRead s = .next { s with dev := d' } ∧ d' = { s.dev with sl := d'.sl, draws := d'.draws } ∧
      s.dev.sl.repliedTo d'.sl q .ok p s.dev.now ∧ p.length = 1 + 3 * s.dev.vbp.roster.length + 4 ∧
      p.head? = some (natByte s.dev.vbp.roster.length) ∧
      (∀ (n : Nat) (e : RosterEntry), s.dev.vbp.roster[n]? = some e →
        (p.drop (1 + 3 * n)).take 3 = [natByte e.node, e.role.code, e.state.code] ∧
        ∀ (m : Nat) (g : RosterEntry), s.dev.vbp.roster[m]? = some g → n < m → e.node < g.node) ∧
      p.drop (1 + 3 * s.dev.vbp.roster.length) =
        [s.dev.vbp.ctrl.code, natByte s.dev.vbp.txErrors, natByte s.dev.vbp.tx.count,
         natByte s.dev.vbp.awardQueue.length]

/-- MIRROR (R169): one byte, 1 turns mirror mode on, 0 off, another is answered BAD_REQUEST and leaves it; OK in any mode,
mirror mode included. Mirror mode is off after device reset, after SLEEP entry and after LINK_RESET. -/
def Obligations.MirrorSwitchesMirrorMode : Prop :=
  (∀ (s : State) (q : SpiRequest), HeadIs s.dev .mirror q →
    ∃ d', exec .mirror s = .next { s with dev := d' } ∧ d' = { s.dev with sl := d'.sl, draws := d'.draws } ∧
      (byteAt q.payload 0 = 1 → { s.dev.sl with mirror := true }.repliedTo d'.sl q .ok [] s.dev.now) ∧
      (byteAt q.payload 0 = 0 → { s.dev.sl with mirror := false }.repliedTo d'.sl q .ok [] s.dev.now) ∧
      (byteAt q.payload 0 ≠ 0 → byteAt q.payload 0 ≠ 1 → s.dev.sl.repliedTo d'.sl q .badRequest [] s.dev.now)) ∧
  (∀ (s : State) (rawKey : Bool) (straps : SpiMode),
    ∃ d', exec (.deviceReset rawKey straps) s = .next { s with dev := d' } ∧ d'.sl.mirror = false) ∧
  (∀ (s : State) (q : SpiRequest), HeadIs s.dev .linkReset q →
    ∃ d', exec .linkReset s = .next { s with dev := d' } ∧ d'.sl.mirror = false) ∧
  (∀ (s t : State) (c : Instr), exec c s = .next t → s.dev.mc.mode ≠ .sleep → t.dev.mc.mode = .sleep →
    t.dev.sl.mirror = false)

/-- The frames that the link answers itself. LINK_RESET (R171) empties both FIFOs, clears the link flags, the lost-reply
mark and mirror mode, keeps the notices and the reply in presentation, whose entry is gone, and its OK is then the only
reply. In mirror mode a frame of another kind than MIRROR and LINK_RESET is answered OK with its own payload (R170). A frame
the link does not accept is answered BAD_REQUEST, outside mirror mode or where its kind is one of those two (R163, R170), and
with no payload where its kind is MIRROR, LINK_RESET or BUS_RESTART (R173). Nothing but the link changes. -/
def Obligations.LinkAnswersItsOwnFrames : Prop :=
  (∀ (s : State) (q : SpiRequest), HeadIs s.dev .linkReset q →
    ∃ d', exec .linkReset s = .next { s with dev := d' } ∧ d' = { s.dev with sl := d'.sl, draws := d'.draws } ∧
      d'.sl =
        { s.dev.sl with
          requests := [], replies := [.enter q.kind q.tag Result.ok.code [] false s.dev.now], overrun := false,
          crcError := false, frameError := false, lostReply := false, mirror := false,
          presented := d'.sl.presented } ∧
      d'.sl.presented.map (·.bytes) = s.dev.sl.presented.map (·.bytes) ∧
      ∀ p ∈ d'.sl.presented, p.source ≠ .head) ∧
  (∀ (s : State) (q : SpiRequest) (rest : List SpiRequest), s.dev.sl.requests = q :: rest → s.dev.sl.mirror = true →
    q.kind ≠ ReqKind.mirror.code → q.kind ≠ ReqKind.linkReset.code →
    ∃ d', exec .mirroredFrame s = .next { s with dev := d' } ∧ d' = { s.dev with sl := d'.sl, draws := d'.draws } ∧
      s.dev.sl.repliedTo d'.sl q .ok q.payload s.dev.now) ∧
  ∀ (s : State) (q : SpiRequest) (rest : List SpiRequest), s.dev.sl.requests = q :: rest → q.accepted = none →
    (s.dev.sl.mirror = true → q.kind = ReqKind.mirror.code ∨ q.kind = ReqKind.linkReset.code) →
    ∃ d' p, exec .linkBadRequest s = .next { s with dev := d' } ∧ d' = { s.dev with sl := d'.sl, draws := d'.draws } ∧
      s.dev.sl.repliedTo d'.sl q .badRequest p s.dev.now ∧
      (q.kind = ReqKind.mirror.code ∨ q.kind = ReqKind.linkReset.code ∨ q.kind = ReqKind.busRestart.code → p = [])

/-- CHIP_SELECT_FALLING opens a transaction (R161, R165): the reply in presentation is a copy of the head of the Reply FIFO,
or the IDLE reply; its status byte tells ATTN, the marks of the entry and the link flags as they stand; the FIFO, the flags
and everything outside the link stand. MISO, high-impedance before, then carries its bytes in order and 0x00 behind them. In
SLEEP it wakes the device too (R142), and the ATTN bit is that after the wake (the model's choice, log 20). REPLY_AGE_EXPIRY
marks the head reply and changes nothing else (the time is the model's own, log 25), and holds ATTN asserted outside SLEEP
(R166). -/
def Obligations.ChipSelectFallPresentsReply : Prop :=
  (∀ s : State, s.dev.sl.csLow = false →
    ∃ d' st src, exec .chipSelectFalling s = .next { s with dev := d' } ∧
      d'.sl.csLow = true ∧ d'.sl.replies = s.dev.sl.replies ∧ d'.sl.requests = s.dev.sl.requests ∧
      (s.dev.mc.mode ≠ .sleep →
        d' = { s.dev with sl :=
          { s.dev.sl with csLow := true, waking := false, presented := d'.sl.presented } }) ∧
      (s.dev.mc.mode = .sleep →
        d'.sl.waking = true ∧ d'.mc = { s.dev.mc with mode := .standby } ∧ d'.vbp.ctrl = .active ∧
        d'.tbl = s.dev.tbl ∧ d'.gs = s.dev.gs ∧ d'.se = s.dev.se ∧ d'.cs = s.dev.cs ∧ d'.rta = s.dev.rta ∧
        (s.dev.vbp.tx.count < 24 →
          d'.vbp.tx.modes = s.dev.vbp.tx.modes ++ [{ dest := .broadcast, body := .mode .standby .link }])) ∧
      d'.sl.presented = some { bytes := st, source := src } ∧ (∀ k, s.dev.sl.miso k = none) ∧
      (∀ k, k < st.length → d'.sl.miso k = st[k]?) ∧ (∀ k, st.length ≤ k → d'.sl.miso k = some 0) ∧
      (s.dev.sl.replies = [] →
        src = .idle ∧ st.tail.take 4 = [0, 0, 0, 0] ∧ st.length = 6 ∧ (byteAt st 0).getLsbD 6 = false ∧
        (byteAt st 0).getLsbD 5 = false) ∧
      (∀ r rest, s.dev.sl.replies = r :: rest →
        src = .head ∧ st.length = 6 + r.payload.length ∧
        st.tail.take (4 + r.payload.length) =
          [r.kind, r.tag, r.result, natByte r.payload.length] ++ r.payload ∧
        (byteAt st 0).getLsbD 6 = r.repeatMark ∧ (byteAt st 0).getLsbD 5 = r.lostMark) ∧
      st.getLast? = some (crc8 st.dropLast) ∧ (byteAt st 0).getLsbD 7 = d'.attn ∧
      (byteAt st 0).getLsbD 4 = s.dev.sl.frameError ∧ (byteAt st 0).getLsbD 3 = s.dev.sl.crcError ∧
      (byteAt st 0).getLsbD 2 = s.dev.sl.overrun) ∧
  ∀ (s : State) (r : ReplyEntry) (rest : List ReplyEntry), s.dev.sl.replies = r :: rest →
    ∃ d', exec .replyAgeExpiry s = .next { s with dev := d' } ∧
      d' = { s.dev with sl := { s.dev.sl with replies := { r with aged := true } :: rest } } ∧
      (s.dev.mc.mode ≠ .sleep → d'.attn = true)

/-- CHIP_SELECT_RISING closes a transaction (R161, R162, R164, R165); MISO is high-impedance again. The presented head
reply leaves the Reply FIFO where all of it was clocked, else it is marked REPEAT; another presented reply leaves the FIFO
as it is. Where the rise is taken in SLEEP or its fall woke the device, FRAME_ERROR is set and no request enters, whatever
was clocked (also with no byte or a first byte of 0: the model's choice, log 37). Otherwise the bytes clocked are no
request where there are none or the first is 0; else a frame too short for its length byte, or with a length above 30,
sets FRAME_ERROR, one with a wrong CRC sets CRC_ERROR, and a good one enters the Request FIFO, or sets OVERRUN where that
holds 16. A flag shown in a status byte that was clocked is cleared first. The clock mode stands. -/
def Obligations.ChipSelectRiseJudgesRequest : Prop :=
  ∀ (s : State) (mosi : List Byte), s.dev.sl.csLow = true →
    ∃ d', exec (.chipSelectRising mosi) s = .next { s with dev := d' } ∧ d' = { s.dev with sl := d'.sl } ∧
      d'.sl.csLow = false ∧ d'.sl.waking = false ∧ d'.sl.presented = none ∧ d'.sl.notices = s.dev.sl.notices ∧
      d'.sl.mirror = s.dev.sl.mirror ∧ d'.sl.lostReply = s.dev.sl.lostReply ∧ d'.sl.clockMode = s.dev.sl.clockMode ∧
      (∀ k, d'.sl.miso k = none) ∧
      (∀ (p : Presented) (r : ReplyEntry) (rest : List ReplyEntry), s.dev.sl.presented = some p → p.source = .head →
        s.dev.sl.replies = r :: rest →
        (p.bytes.length ≤ mosi.length → d'.sl.replies = rest) ∧
        (mosi.length < p.bytes.length → d'.sl.replies = { r with repeatMark := true } :: rest)) ∧
      ((∀ p ∈ s.dev.sl.presented, p.source ≠ .head) → d'.sl.replies = s.dev.sl.replies) ∧
      ∀ (asleep : Bool) (st : Byte) (frame crc ovr : Bool) (n : Nat),
        asleep = (s.dev.sl.waking || s.dev.mc.mode = .sleep) → n = (byteAt mosi 2).toNat →
        st = (if mosi = [] then 0 else byteAt ((s.dev.sl.presented.map (·.bytes)).getD []) 0) →
        frame = (s.dev.sl.frameError && !st.getLsbD 4) → crc = (s.dev.sl.crcError && !st.getLsbD 3) →
        ovr = (s.dev.sl.overrun && !st.getLsbD 2) →
        (asleep = true →
          d'.sl.requests = s.dev.sl.requests ∧ d'.sl.frameError = true ∧ d'.sl.crcError = crc ∧ d'.sl.overrun = ovr) ∧
        (asleep = false → byteAt mosi 0 = 0 →
          d'.sl.requests = s.dev.sl.requests ∧ d'.sl.frameError = frame ∧ d'.sl.crcError = crc ∧
          d'.sl.overrun = ovr) ∧
        (asleep = false → byteAt mosi 0 ≠ 0 → mosi.length < 3 ∨ 30 < n ∨ mosi.length < 4 + n →
          d'.sl.requests = s.dev.sl.requests ∧ d'.sl.frameError = true ∧ d'.sl.crcError = crc ∧ d'.sl.overrun = ovr) ∧
        (asleep = false → byteAt mosi 0 ≠ 0 → n ≤ 30 → 4 + n ≤ mosi.length →
          d'.sl.frameError = frame ∧
          (byteAt mosi (3 + n) ≠ crc8 (mosi.take (3 + n)) →
            d'.sl.requests = s.dev.sl.requests ∧ d'.sl.crcError = true ∧ d'.sl.overrun = ovr) ∧
          (byteAt mosi (3 + n) = crc8 (mosi.take (3 + n)) → d'.sl.crcError = crc ∧
            (s.dev.sl.requests.length < 16 →
              d'.sl.overrun = ovr ∧
              d'.sl.requests =
                s.dev.sl.requests ++
                  [{ kind := byteAt mosi 0, tag := byteAt mosi 1, payload := (mosi.drop 3).take n }]) ∧
            (16 ≤ s.dev.sl.requests.length →
              d'.sl.requests = s.dev.sl.requests ∧ d'.sl.overrun = true)))

/-! ## The Vehicle Bus Port -/

/-- FRAME_RECEIVED (R146 to R148, R151, R158, R142). An IDLE controller sees nothing, a BUS_OFF one only activity. A frame
outside the peer range, with a 29-bit identifier or a remote frame changes nothing. One of node n enters the receive buffer
at its tail, its enrolled sender's silence timer starts afresh and a SILENT sender is JOINED again with notice ROSTER; with
8 frames in the buffer it is lost with notice LINK. In SLEEP it wakes the device first. -/
def Obligations.FrameReceivedEntersBuffer : Prop :=
  ∀ (s : State) (f : CanFrame),
    ∃ d', exec (.frameReceived f) s = .next { s with dev := d' } ∧
      (s.dev.vbp.ctrl = .idle → d' = s.dev) ∧
      (s.dev.vbp.ctrl = .busOff → d' = { s.dev with vbp := { s.dev.vbp with busSilence := .running 100 } }) ∧
      (s.dev.vbp.ctrl = .active ∨ s.dev.vbp.ctrl = .listening →
        ((f.extended = true ∨ f.remote = true ∨ (f.ident : Int) ≤ s.dev.vbp.baseInForce ∨
            s.dev.vbp.baseInForce + 30 < f.ident) → d' = s.dev) ∧
        ∀ n : Nat, f.extended = false → f.remote = false → isNode n → (f.ident : Int) = s.dev.vbp.baseInForce + n →
          (d'.tbl = s.dev.tbl ∧ d'.rta = s.dev.rta ∧ d'.rau = s.dev.rau ∧ d'.gs = s.dev.gs ∧ d'.se = s.dev.se ∧
            d'.bc = s.dev.bc ∧ d'.cs = s.dev.cs ∧ d'.now = s.dev.now ∧
            d'.mc = { s.dev.mc with mode := if s.dev.mc.mode = .sleep then .standby else s.dev.mc.mode } ∧
            (s.dev.mc.mode = .sleep → d'.vbp.ctrl = .active ∧ (s.dev.vbp.tx.count < 24 →
              d'.vbp.tx.modes = s.dev.vbp.tx.modes ++ [{ dest := .broadcast, body := .mode .standby .bus }])) ∧
            (s.dev.mc.mode ≠ .sleep →
              d'.vbp = { s.dev.vbp with rx := d'.vbp.rx, roster := d'.vbp.roster } ∧
              d'.sl = { s.dev.sl with notices := d'.sl.notices })) ∧
          (s.dev.vbp.rx.length < 8 →
            d'.vbp.rx = s.dev.vbp.rx ++ [{ node := n, data := f.data }] ∧
            d'.vbp.roster =
              s.dev.vbp.roster.map (fun e => if e.node = n then
                { e with state := .joined, timeout := s.dev.cs.silenceTimeout.toNat, silence := 0 } else e) ∧
            (∀ e, s.dev.entryOf n = some e → e.state = .silent →
              d'.sl.notices.roster = some (NoticeEntry.raised s.dev.sl.notices.roster (BitVec.ofNat 16 n))) ∧
            ((∀ e, s.dev.entryOf n = some e → e.state = .joined) →
              d'.sl.notices.roster = s.dev.sl.notices.roster)) ∧
          (8 ≤ s.dev.vbp.rx.length →
            d'.vbp.rx = s.dev.vbp.rx ∧ d'.vbp.roster = s.dev.vbp.roster ∧
            (s.dev.mc.mode ≠ .sleep →
              d'.sl.notices.link =
                some (NoticeEntry.raised s.dev.sl.notices.link (BitVec.ofNat 16 (0x100 + n))))))

/-- The way of a frame out (R154 to R156). AWARD_TO_TRANSMIT_QUEUE moves the oldest award queue entry to the tail of the
AWARD class while that queue holds fewer than 20 frames, and it becomes the slot's last sent award. TRANSMISSION_START
takes the oldest frame of the first class that has one, in the order ORDER, REPLY, MODE, AWARD, with a retry count of 0.
FRAME_SENT removes that frame and lowers the transmit error count by one, not below 0. -/
def Obligations.FramesLeaveInOrder : Prop :=
  (∀ (s : State) (e : AwardEntry) (rest : List AwardEntry) (o : Nat), s.dev.vbp.awardQueue = e :: rest →
    (s.dev.slot e.slot).content.owner? = some o → s.dev.vbp.ctrl ≠ .idle →
    ∃ d', exec .awardToTransmitQueue s = .next { s with dev := d' } ∧
      (20 ≤ s.dev.vbp.tx.count → d' = s.dev) ∧
      (s.dev.vbp.tx.count < 20 →
        d' =
          { s.dev with vbp :=
            { s.dev.vbp with
              awardQueue := rest, lastAward := s.dev.vbp.lastAward.set e.slot (some e.answer),
              tx :=
                { s.dev.vbp.tx with
                  awards :=
                    s.dev.vbp.tx.awards ++
                      [{ dest := .node o, body := .award e.slot e.generation e.answer }] } } })) ∧
  (∀ (s : State) (c : TxClass), s.dev.vbp.ctrl = .active ∨ s.dev.vbp.ctrl = .listening → s.dev.vbp.tx.inTx = none →
    s.dev.vbp.tx.get c ≠ [] →
    (c = .reply → s.dev.vbp.tx.orders = []) ∧
      (c = .mode → s.dev.vbp.tx.orders = [] ∧ s.dev.vbp.tx.replies = []) ∧
      (c = .award → s.dev.vbp.tx.orders = [] ∧ s.dev.vbp.tx.replies = [] ∧ s.dev.vbp.tx.modes = []) →
    exec .transmissionStart s = .next
      { s with dev :=
        { s.dev with vbp :=
          { s.dev.vbp with tx := { s.dev.vbp.tx with inTx := some { cls := c, retries := 0 } } } } }) ∧
  ∀ (s : State) (t : InTx), s.dev.vbp.ctrl = .active ∨ s.dev.vbp.ctrl = .listening → s.dev.vbp.tx.inTx = some t →
    ∃ d', exec .frameSent s = .next { s with dev := d' } ∧
      d' = { s.dev with vbp := { s.dev.vbp with tx := d'.vbp.tx, txErrors := s.dev.vbp.txErrors - 1 } } ∧
      d'.vbp.tx.inTx = none ∧ d'.vbp.tx.get t.cls = (s.dev.vbp.tx.get t.cls).tail ∧
      ∀ c ≠ t.cls, d'.vbp.tx.get c = s.dev.vbp.tx.get c

/-- A failed attempt (R155, R158). ARBITRATION_LOST, and TRANSMIT_ERROR that does not take the error count above 255:
below the retry limit the frame is attempted again with its retry count one higher; at the limit, or above it where the
limit was lowered meanwhile (the model's choice, log 27), it leaves the queue with notice LINK, and where it is an AWARD its
slot's last sent award becomes none. TRANSMIT_ERROR raises the error count by 8; one that would take it above 255 enters
BUS_OFF with the count at 255 and the frame kept with a retry count of 0. -/
def Obligations.FailedFrameRetriedOrDropped : Prop :=
  ∀ (s : State) (t : InTx) (f : TxFrame), s.dev.vbp.ctrl = .active ∨ s.dev.vbp.ctrl = .listening →
    s.dev.vbp.tx.inTx = some t → (s.dev.vbp.tx.get t.cls).head? = some f →
    ∃ d₁ d₂, exec .arbitrationLost s = .next { s with dev := d₁ } ∧ exec .transmitError s = .next { s with dev := d₂ } ∧
      (s.dev.vbp.txErrors + 8 ≤ 255 →
        d₂ = { d₁ with vbp := { d₁.vbp with txErrors := s.dev.vbp.txErrors + 8 } }) ∧
      (255 < s.dev.vbp.txErrors + 8 →
        d₂ =
          { s.dev with
            vbp :=
              { s.dev.vbp with
                ctrl := .busOff, txErrors := 255, busSilence := .running 100,
                tx := { s.dev.vbp.tx with inTx := some { t with retries := 0 } } },
            sl :=
              { s.dev.sl with notices :=
                { s.dev.sl.notices with link := some (NoticeEntry.raised s.dev.sl.notices.link 0x300) } } }) ∧
      ((t.retries : Int) < s.dev.cs.canRetryLimit →
        d₁ =
          { s.dev with vbp :=
            { s.dev.vbp with tx := { s.dev.vbp.tx with inTx := some { t with retries := t.retries + 1 } } } }) ∧
      (s.dev.cs.canRetryLimit ≤ (t.retries : Int) →
        d₁ =
          { s.dev with
            vbp := { s.dev.vbp with tx := d₁.vbp.tx, lastAward := d₁.vbp.lastAward },
            sl := { s.dev.sl with notices := { s.dev.sl.notices with link := d₁.sl.notices.link } } } ∧
        d₁.vbp.tx.inTx = none ∧ d₁.vbp.tx.get t.cls = (s.dev.vbp.tx.get t.cls).tail ∧
        (∀ c ≠ t.cls, d₁.vbp.tx.get c = s.dev.vbp.tx.get c) ∧
        d₁.sl.notices.link =
          some (NoticeEntry.raised s.dev.sl.notices.link
            (BitVec.ofNat 16 (0x200 + (match f.dest with
              | .node n => n
              | .broadcast => 0x3F)))) ∧
        (∀ i g a, f.body = .award i g a → d₁.vbp.lastAward = s.dev.vbp.lastAward.set i none) ∧
        ((∀ i g a, f.body ≠ .award i g a) → d₁.vbp.lastAward = s.dev.vbp.lastAward))

/-- The ways back to ACTIVE (R158, R159, R111, R112). BUS_OFF_REJOIN: error count 0, every queued frame kept, a kept ORDER
alone still in transmission (the model's deduction, log 13); BUS_ACTIVITY starts the 100 ms of silence afresh. BUS_RESTART
outside IDLE: error count 0, buffer, queues and last sent awards empty, roster kept, an order in flight handed again with
a fresh timer, the last setpoint sent unknown, OK answered; in IDLE NOT_NOW is answered and nothing but the link changes. -/
def Obligations.ControllerReturnsToActive : Prop :=
  (∀ s : State, s.dev.vbp.ctrl = .busOff →
    (∃ d', exec .busOffRejoin s = .next { s with dev := d' } ∧
      d' =
        { s.dev with vbp :=
          { s.dev.vbp with ctrl := .active, txErrors := 0, busSilence := .stopped, tx := d'.vbp.tx } } ∧
      (∀ c : TxClass, d'.vbp.tx.get c = s.dev.vbp.tx.get c) ∧
      ∀ t ∈ d'.vbp.tx.inTx, t.cls = .order ∧ s.dev.vbp.tx.inTx = some t) ∧
    exec .busActivity s = .next
      { s with dev := { s.dev with vbp := { s.dev.vbp with busSilence := .running 100 } } }) ∧
  ∀ (s : State) (q : SpiRequest), HeadIs s.dev .busRestart q →
    ∃ d', exec .busRestart s = .next { s with dev := d' } ∧ d'.tbl = s.dev.tbl ∧ d'.rta = s.dev.rta ∧
      d'.rau = s.dev.rau ∧ d'.bc = s.dev.bc ∧ d'.se = s.dev.se ∧ d'.mc = s.dev.mc ∧ d'.cs = s.dev.cs ∧
      (s.dev.vbp.ctrl = .idle →
        d'.gs = s.dev.gs ∧ d'.vbp = s.dev.vbp ∧ s.dev.sl.repliedTo d'.sl q .notNow [] s.dev.now) ∧
      (s.dev.vbp.ctrl ≠ .idle →
        s.dev.sl.repliedTo d'.sl q .ok [] s.dev.now ∧ d'.vbp.ctrl = .active ∧ d'.vbp.txErrors = 0 ∧
        d'.vbp.rx = [] ∧ d'.vbp.roster = s.dev.vbp.roster ∧ d'.vbp.awardQueue = [] ∧
        (∀ i : SlotNo, d'.vbp.lastAward[i] = none) ∧ d'.vbp.tx.replies = [] ∧ d'.vbp.tx.modes = [] ∧
        d'.vbp.tx.awards = [] ∧ d'.vbp.tx.inTx = none ∧
        d'.gs =
          { s.dev.gs with
            lastSent := none, inFlight := s.dev.gs.inFlight.map fun o => { o with timer := 100 } } ∧
        (∀ o n, s.dev.gs.inFlight = some o → s.dev.enginePeer = some n →
          d'.vbp.tx.orders = [{ dest := .node n, body := .order o.kind o.seq }]) ∧
        (s.dev.gs.inFlight = none → d'.vbp.tx.orders = []))

/-- Silence of a peer (R151, R152). SILENCE_EXPIRY of a JOINED node makes its entry SILENT with notice ROSTER.
PEER_DECLARED_LOST of a SILENT one hands its purge set to the Record Access Unit behind those that wait, once; the roster
entry stands until the set is executed. (That each of the two leaves an entry of the other state alone, and that a waiting
set is not handed twice, is the model's deduction, log 17.) -/
def Obligations.SilenceEndsInPurgeSet : Prop :=
  ∀ (s : State) (n : Nat) (e : RosterEntry), s.dev.entryOf n = some e →
    (e.state = .joined →
      exec (.silenceExpiry n) s = .next
        { s with dev :=
          { s.dev with
            vbp :=
              { s.dev.vbp with
                roster := s.dev.vbp.roster.map (fun g => if g.node = n then { g with state := .silent } else g) },
            sl :=
              { s.dev.sl with notices :=
                { s.dev.sl.notices with
                  roster := some (NoticeEntry.raised s.dev.sl.notices.roster (BitVec.ofNat 16 n)) } } } } ∧
      exec (.peerDeclaredLost n) s = .next s) ∧
    (e.state = .silent →
      exec (.silenceExpiry n) s = .next s ∧
      ∃ d', exec (.peerDeclaredLost n) s = .next { s with dev := d' } ∧
        (n ∈ s.dev.rau.peerLossSets → d' = s.dev) ∧
        (n ∉ s.dev.rau.peerLossSets →
          d' =
            { s.dev with rau := { s.dev.rau with peerLossSets := s.dev.rau.peerLossSets ++ [n] } }))

/-- HELLO (R148, R150, R114, R124). The oldest HELLO leaves the receive buffer and is answered with the result and the
role held after it. Too short or of an unknown role: BAD_REQUEST. A node not enrolled: ROSTER_FULL with 16 entries,
DUPLICATE where it asks for ENGINE and another node holds that, else an entry JOINED with the role in node order and
notice ROSTER. An enrolled node: DUPLICATE likewise, else OK with its role as asked, a change with notice ROSTER; an entry
created or changed to ENGINE clears the no-engine mark, one changed from it removes the engine peer. (That ROSTER_FULL
goes before DUPLICATE is the model's deduction, log 26; the least length 2 and the 8 bytes of the reply are its choice,
log 9.) -/
def Obligations.HelloEnrolsOrChangesRole : Prop :=
  ∀ (s : State) (f : RxFrame), s.dev.vbp.rx.find? isHelloFrame = some f → s.dev.txRoom = true →
    ∃ d' r b4, exec .hello s = .next { s with dev := d' } ∧
      d'.vbp.rx = s.dev.vbp.rx.eraseP isHelloFrame ∧
      d'.vbp.tx.replies =
        s.dev.vbp.tx.replies ++
          [{ dest := .node f.node, body := .reply [0x89, 0, 0, Result.code r, b4, 0, 0, 0] }] ∧
      d'.tbl = s.dev.tbl ∧ d'.rta = s.dev.rta ∧ d'.rau = s.dev.rau ∧ d'.bc = s.dev.bc ∧ d'.se = s.dev.se ∧
      d'.mc = s.dev.mc ∧ d'.cs = s.dev.cs ∧ d'.now = s.dev.now ∧
      d'.vbp =
        { s.dev.vbp with
          rx := d'.vbp.rx, roster := d'.vbp.roster, tx := { s.dev.vbp.tx with replies := d'.vbp.tx.replies } } ∧
      (∀ e, d'.entryOf f.node = some e → b4 = e.role.code) ∧
      (r ≠ .ok → d'.vbp.roster = s.dev.vbp.roster ∧ d'.gs = s.dev.gs ∧ d'.sl = s.dev.sl) ∧
      ((f.data.length < 2 ∨ Role.ofByte (byteAt f.data 1) = none) → r = .badRequest) ∧
      ∀ role, 2 ≤ f.data.length → Role.ofByte (byteAt f.data 1) = some role →
        (s.dev.entryOf f.node = none → 16 ≤ s.dev.vbp.roster.length → r = .rosterFull) ∧
        ((s.dev.entryOf f.node = none → s.dev.vbp.roster.length < 16) →
          (role = .engine → (∃ n, s.dev.enginePeer = some n ∧ n ≠ f.node) → r = .duplicate) ∧
          ((role = .engine → s.dev.enginePeer = none ∨ s.dev.enginePeer = some f.node) → r = .ok ∧
            (s.dev.entryOf f.node = none →
              d'.vbp.roster =
                insertEntry
                  { node := f.node, role := role, state := .joined, timeout := s.dev.cs.silenceTimeout.toNat,
                    silence := 0 } s.dev.vbp.roster ∧
              d'.sl.notices.roster =
                some (NoticeEntry.raised s.dev.sl.notices.roster (BitVec.ofNat 16 f.node)) ∧
              d'.gs = (if role = .engine then { s.dev.gs with noEngine := false } else s.dev.gs)) ∧
            ∀ e, s.dev.entryOf f.node = some e →
              (e.role = role → d'.vbp.roster = s.dev.vbp.roster ∧ d'.gs = s.dev.gs ∧ d'.sl = s.dev.sl) ∧
              (e.role ≠ role →
                d'.vbp.roster = s.dev.vbp.roster.map (fun g => if g.node = f.node then { g with role := role } else g) ∧
                d'.sl.notices.roster =
                  some (NoticeEntry.raised s.dev.sl.notices.roster (BitVec.ofNat 16 f.node)) ∧
                (s.dev.enginePeer ≠ some f.node →
                  d'.gs = (if role = .engine then { s.dev.gs with noEngine := false } else s.dev.gs)) ∧
                (s.dev.enginePeer = some f.node →
                  d'.gs.inFlight = none ∧
                  (s.dev.gs.state.atRest = true → d'.gs = { s.dev.gs with inFlight := none, noEngine := d'.gs.noEngine }) ∧
                  (s.dev.gs.state.atRest = false → d'.gs.state = .off ∧ d'.gs.noEngine = true)))))

/-! ## Rules of the whole machine -/

/-- The device is sound in every respect of Safety.lean after reset, and after DEVICE_RESET taken in any state (R22, R23,
R145, R160). -/
def Obligations.SoundAtReset : Prop :=
  State.reset.dev.Sound ∧
    ∀ (s t : State) (rawKey : Bool) (straps : SpiMode), exec (.deviceReset rawKey straps) s = .next t → t.dev.Sound

/-- Every step keeps the FIFOs, the receive buffer, the transmit queue and the roster within their capacities, at most one
award entry for a slot, at most one waiting order and one waiting setpoint, and the roster in order with one ENGINE at
most. -/
def Obligations.QueuesAndRosterStayBounded : Prop :=
  ∀ s t : State, QueueSound s.dev → OrderSound s.dev → RosterSound s.dev → step s = .next t →
    QueueSound t.dev ∧ OrderSound t.dev ∧ RosterSound t.dev

/-- Every step keeps the rules of the table: an open Edit Buffer belongs to a DRAFT or a committed record of its own bank and
every DRAFT has one; labels are unique for an owner, DEMAND and each MEASURE quantity in the table; every record that is not
RETIRING is owned by SUPERVISOR or an enrolled peer. -/
def Obligations.TableRulesKept : Prop :=
  ∀ s t : State, BufferSound s.dev → UniqueSound s.dev → OwnerSound s.dev → step s = .next t →
    BufferSound t.dev ∧ UniqueSound t.dev ∧ OwnerSound t.dev

/-- Every step of a sound device keeps every committed image within its ranges and valid for its owner, an answer part
exactly on LOAD records, every working image within its ranges, and the renewal timers running only for LIVE and STALE
records with a period in force, the lapse counts at most 15. -/
def Obligations.CommittedImagesStayValid : Prop :=
  ∀ s t : State, s.dev.Sound → step s = .next t → ImageSound t.dev ∧ RenewalSound t.dev

/-- Every step of a sound device keeps the rules of the modes and the genset: which timers run in which mode, passes only in
DRIVE and PARK, a SLEEP pending only in PARK with a pass in flight, KEY on in DRIVE and off in PARK and SLEEP; the crank
failure count at the limit exactly in LOCKOUT, the genset at rest outside DRIVE; the table empty in STANDBY and SLEEP. -/
def Obligations.ModeAndGensetRulesKept : Prop :=
  ∀ s t : State, s.dev.Sound → step s = .next t → ModeSound t.dev ∧ GensetSound t.dev ∧ EmptySound t.dev

/-- Every step of a sound device keeps every configuration field in its range, the valid mark only over ordered charge levels
and ascending operating points and in every mode but STANDBY, the pass in flight the computation on its own snapshot, and
the records of that snapshot held by their slots. -/
def Obligations.ConfigurationAndPassStayValid : Prop :=
  ∀ s t : State, s.dev.Sound → step s = .next t → ConfigSound t.dev ∧ PassSound t.dev ∧ HeldSound t.dev

/-- Modes change only as chapter 7 draws them, and only by the commands it names; DEVICE_RESET apart. -/
def Obligations.ModesFollowTheirGraph : Prop :=
  ∀ (s t : State) (c : Instr), ModeSound s.dev → exec c s = .next t → (∀ k m, c ≠ .deviceReset k m) →
    t.dev.mc.mode ≠ s.dev.mc.mode →
    (s.dev.mc.mode = .standby → t.dev.mc.mode = .drive ∧ c = .startDrive ∧ s.dev.mc.key = true ∧
      s.dev.cs.valid = true) ∧
    (s.dev.mc.mode = .drive → t.dev.mc.mode = .park ∧ c = .deglitchTimerExpiry ∧ s.dev.mc.rawKey = false) ∧
    (s.dev.mc.mode = .park →
      (t.dev.mc.mode = .drive ∧ c = .deglitchTimerExpiry ∧ s.dev.mc.rawKey = true) ∨
      (t.dev.mc.mode = .sleep ∧
        (c = .sleep ∨ c = .parkTimerExpiry ∨ c = .floorTimerExpiry ∨ c = .passCompletion))) ∧
    (s.dev.mc.mode = .sleep → t.dev.mc.mode = .standby ∧
      (c = .deglitchTimerExpiry ∨ c = .chipSelectFalling ∨ ∃ f, c = .frameReceived f))

/-- A pass in flight stays as it is until its completion, whatever command is taken meanwhile; DEVICE_RESET apart (R82). -/
def Obligations.PassInFlightUntouched : Prop :=
  ∀ (s t : State) (c : Instr) (p : Pass), s.dev.se.pass = some p → exec c s = .next t → c ≠ .passCompletion →
    (∀ k m, c ≠ .deviceReset k m) → t.dev.se.pass = some p

/-- No command but PASS_COMPLETION changes the answer part of a committed record, and none changes the identity of a record
(R8, R15, R84). -/
def Obligations.GrantsChangeOnlyAtCompletion : Prop :=
  ∀ (s t : State) (c : Instr) (i : SlotNo) (r r' : Record), exec c s = .next t →
    (s.dev.slot i).content.record? = some r → (t.dev.slot i).content.record? = some r' →
    r'.ident = r.ident ∧ (c ≠ .passCompletion → r'.answer = r.answer)
end

