-- ==== Sys2Proof/Laws/State.lean ====
section
/-! SUPPORT. What each replacement of a block leaves in each block: one lemma per field per update. -/

namespace Sys2Proof.Machine

variable (d : Device)

/-! ## withNow -/

@[simp] theorem Device.withNow_now (x : Nat) : (d.withNow x).now = x := rfl
@[simp] theorem Device.withNow_draws (x : Nat) : (d.withNow x).draws = d.draws := rfl
@[simp] theorem Device.withNow_tbl (x : Nat) : (d.withNow x).tbl = d.tbl := rfl
@[simp] theorem Device.withNow_rau (x : Nat) : (d.withNow x).rau = d.rau := rfl
@[simp] theorem Device.withNow_rta (x : Nat) : (d.withNow x).rta = d.rta := rfl
@[simp] theorem Device.withNow_bc (x : Nat) : (d.withNow x).bc = d.bc := rfl
@[simp] theorem Device.withNow_se (x : Nat) : (d.withNow x).se = d.se := rfl
@[simp] theorem Device.withNow_gs (x : Nat) : (d.withNow x).gs = d.gs := rfl
@[simp] theorem Device.withNow_mc (x : Nat) : (d.withNow x).mc = d.mc := rfl
@[simp] theorem Device.withNow_vbp (x : Nat) : (d.withNow x).vbp = d.vbp := rfl
@[simp] theorem Device.withNow_sl (x : Nat) : (d.withNow x).sl = d.sl := rfl
@[simp] theorem Device.withNow_cs (x : Nat) : (d.withNow x).cs = d.cs := rfl

/-! ## withDraws -/

@[simp] theorem Device.withDraws_now (x : Nat) : (d.withDraws x).now = d.now := rfl
@[simp] theorem Device.withDraws_draws (x : Nat) : (d.withDraws x).draws = x := rfl
@[simp] theorem Device.withDraws_tbl (x : Nat) : (d.withDraws x).tbl = d.tbl := rfl
@[simp] theorem Device.withDraws_rau (x : Nat) : (d.withDraws x).rau = d.rau := rfl
@[simp] theorem Device.withDraws_rta (x : Nat) : (d.withDraws x).rta = d.rta := rfl
@[simp] theorem Device.withDraws_bc (x : Nat) : (d.withDraws x).bc = d.bc := rfl
@[simp] theorem Device.withDraws_se (x : Nat) : (d.withDraws x).se = d.se := rfl
@[simp] theorem Device.withDraws_gs (x : Nat) : (d.withDraws x).gs = d.gs := rfl
@[simp] theorem Device.withDraws_mc (x : Nat) : (d.withDraws x).mc = d.mc := rfl
@[simp] theorem Device.withDraws_vbp (x : Nat) : (d.withDraws x).vbp = d.vbp := rfl
@[simp] theorem Device.withDraws_sl (x : Nat) : (d.withDraws x).sl = d.sl := rfl
@[simp] theorem Device.withDraws_cs (x : Nat) : (d.withDraws x).cs = d.cs := rfl

/-! ## withTbl -/

@[simp] theorem Device.withTbl_now (x : AllotmentTable) : (d.withTbl x).now = d.now := rfl
@[simp] theorem Device.withTbl_draws (x : AllotmentTable) : (d.withTbl x).draws = d.draws := rfl
@[simp] theorem Device.withTbl_tbl (x : AllotmentTable) : (d.withTbl x).tbl = x := rfl
@[simp] theorem Device.withTbl_rau (x : AllotmentTable) : (d.withTbl x).rau = d.rau := rfl
@[simp] theorem Device.withTbl_rta (x : AllotmentTable) : (d.withTbl x).rta = d.rta := rfl
@[simp] theorem Device.withTbl_bc (x : AllotmentTable) : (d.withTbl x).bc = d.bc := rfl
@[simp] theorem Device.withTbl_se (x : AllotmentTable) : (d.withTbl x).se = d.se := rfl
@[simp] theorem Device.withTbl_gs (x : AllotmentTable) : (d.withTbl x).gs = d.gs := rfl
@[simp] theorem Device.withTbl_mc (x : AllotmentTable) : (d.withTbl x).mc = d.mc := rfl
@[simp] theorem Device.withTbl_vbp (x : AllotmentTable) : (d.withTbl x).vbp = d.vbp := rfl
@[simp] theorem Device.withTbl_sl (x : AllotmentTable) : (d.withTbl x).sl = d.sl := rfl
@[simp] theorem Device.withTbl_cs (x : AllotmentTable) : (d.withTbl x).cs = d.cs := rfl

/-! ## withRau -/

@[simp] theorem Device.withRau_now (x : AccessUnit) : (d.withRau x).now = d.now := rfl
@[simp] theorem Device.withRau_draws (x : AccessUnit) : (d.withRau x).draws = d.draws := rfl
@[simp] theorem Device.withRau_tbl (x : AccessUnit) : (d.withRau x).tbl = d.tbl := rfl
@[simp] theorem Device.withRau_rau (x : AccessUnit) : (d.withRau x).rau = x := rfl
@[simp] theorem Device.withRau_rta (x : AccessUnit) : (d.withRau x).rta = d.rta := rfl
@[simp] theorem Device.withRau_bc (x : AccessUnit) : (d.withRau x).bc = d.bc := rfl
@[simp] theorem Device.withRau_se (x : AccessUnit) : (d.withRau x).se = d.se := rfl
@[simp] theorem Device.withRau_gs (x : AccessUnit) : (d.withRau x).gs = d.gs := rfl
@[simp] theorem Device.withRau_mc (x : AccessUnit) : (d.withRau x).mc = d.mc := rfl
@[simp] theorem Device.withRau_vbp (x : AccessUnit) : (d.withRau x).vbp = d.vbp := rfl
@[simp] theorem Device.withRau_sl (x : AccessUnit) : (d.withRau x).sl = d.sl := rfl
@[simp] theorem Device.withRau_cs (x : AccessUnit) : (d.withRau x).cs = d.cs := rfl

/-! ## withRta -/

@[simp] theorem Device.withRta_now (x : Vector RenewalEntry 48) : (d.withRta x).now = d.now := rfl
@[simp] theorem Device.withRta_draws (x : Vector RenewalEntry 48) : (d.withRta x).draws = d.draws := rfl
@[simp] theorem Device.withRta_tbl (x : Vector RenewalEntry 48) : (d.withRta x).tbl = d.tbl := rfl
@[simp] theorem Device.withRta_rau (x : Vector RenewalEntry 48) : (d.withRta x).rau = d.rau := rfl
@[simp] theorem Device.withRta_rta (x : Vector RenewalEntry 48) : (d.withRta x).rta = x := rfl
@[simp] theorem Device.withRta_bc (x : Vector RenewalEntry 48) : (d.withRta x).bc = d.bc := rfl
@[simp] theorem Device.withRta_se (x : Vector RenewalEntry 48) : (d.withRta x).se = d.se := rfl
@[simp] theorem Device.withRta_gs (x : Vector RenewalEntry 48) : (d.withRta x).gs = d.gs := rfl
@[simp] theorem Device.withRta_mc (x : Vector RenewalEntry 48) : (d.withRta x).mc = d.mc := rfl
@[simp] theorem Device.withRta_vbp (x : Vector RenewalEntry 48) : (d.withRta x).vbp = d.vbp := rfl
@[simp] theorem Device.withRta_sl (x : Vector RenewalEntry 48) : (d.withRta x).sl = d.sl := rfl
@[simp] theorem Device.withRta_cs (x : Vector RenewalEntry 48) : (d.withRta x).cs = d.cs := rfl

/-! ## withBc -/

@[simp] theorem Device.withBc_now (x : Combiner) : (d.withBc x).now = d.now := rfl
@[simp] theorem Device.withBc_draws (x : Combiner) : (d.withBc x).draws = d.draws := rfl
@[simp] theorem Device.withBc_tbl (x : Combiner) : (d.withBc x).tbl = d.tbl := rfl
@[simp] theorem Device.withBc_rau (x : Combiner) : (d.withBc x).rau = d.rau := rfl
@[simp] theorem Device.withBc_rta (x : Combiner) : (d.withBc x).rta = d.rta := rfl
@[simp] theorem Device.withBc_bc (x : Combiner) : (d.withBc x).bc = x := rfl
@[simp] theorem Device.withBc_se (x : Combiner) : (d.withBc x).se = d.se := rfl
@[simp] theorem Device.withBc_gs (x : Combiner) : (d.withBc x).gs = d.gs := rfl
@[simp] theorem Device.withBc_mc (x : Combiner) : (d.withBc x).mc = d.mc := rfl
@[simp] theorem Device.withBc_vbp (x : Combiner) : (d.withBc x).vbp = d.vbp := rfl
@[simp] theorem Device.withBc_sl (x : Combiner) : (d.withBc x).sl = d.sl := rfl
@[simp] theorem Device.withBc_cs (x : Combiner) : (d.withBc x).cs = d.cs := rfl

/-! ## withSe -/

@[simp] theorem Device.withSe_now (x : SplitEngine) : (d.withSe x).now = d.now := rfl
@[simp] theorem Device.withSe_draws (x : SplitEngine) : (d.withSe x).draws = d.draws := rfl
@[simp] theorem Device.withSe_tbl (x : SplitEngine) : (d.withSe x).tbl = d.tbl := rfl
@[simp] theorem Device.withSe_rau (x : SplitEngine) : (d.withSe x).rau = d.rau := rfl
@[simp] theorem Device.withSe_rta (x : SplitEngine) : (d.withSe x).rta = d.rta := rfl
@[simp] theorem Device.withSe_bc (x : SplitEngine) : (d.withSe x).bc = d.bc := rfl
@[simp] theorem Device.withSe_se (x : SplitEngine) : (d.withSe x).se = x := rfl
@[simp] theorem Device.withSe_gs (x : SplitEngine) : (d.withSe x).gs = d.gs := rfl
@[simp] theorem Device.withSe_mc (x : SplitEngine) : (d.withSe x).mc = d.mc := rfl
@[simp] theorem Device.withSe_vbp (x : SplitEngine) : (d.withSe x).vbp = d.vbp := rfl
@[simp] theorem Device.withSe_sl (x : SplitEngine) : (d.withSe x).sl = d.sl := rfl
@[simp] theorem Device.withSe_cs (x : SplitEngine) : (d.withSe x).cs = d.cs := rfl

/-! ## withGs -/

@[simp] theorem Device.withGs_now (x : Genset) : (d.withGs x).now = d.now := rfl
@[simp] theorem Device.withGs_draws (x : Genset) : (d.withGs x).draws = d.draws := rfl
@[simp] theorem Device.withGs_tbl (x : Genset) : (d.withGs x).tbl = d.tbl := rfl
@[simp] theorem Device.withGs_rau (x : Genset) : (d.withGs x).rau = d.rau := rfl
@[simp] theorem Device.withGs_rta (x : Genset) : (d.withGs x).rta = d.rta := rfl
@[simp] theorem Device.withGs_bc (x : Genset) : (d.withGs x).bc = d.bc := rfl
@[simp] theorem Device.withGs_se (x : Genset) : (d.withGs x).se = d.se := rfl
@[simp] theorem Device.withGs_gs (x : Genset) : (d.withGs x).gs = x := rfl
@[simp] theorem Device.withGs_mc (x : Genset) : (d.withGs x).mc = d.mc := rfl
@[simp] theorem Device.withGs_vbp (x : Genset) : (d.withGs x).vbp = d.vbp := rfl
@[simp] theorem Device.withGs_sl (x : Genset) : (d.withGs x).sl = d.sl := rfl
@[simp] theorem Device.withGs_cs (x : Genset) : (d.withGs x).cs = d.cs := rfl

/-! ## withMc -/

@[simp] theorem Device.withMc_now (x : ModeController) : (d.withMc x).now = d.now := rfl
@[simp] theorem Device.withMc_draws (x : ModeController) : (d.withMc x).draws = d.draws := rfl
@[simp] theorem Device.withMc_tbl (x : ModeController) : (d.withMc x).tbl = d.tbl := rfl
@[simp] theorem Device.withMc_rau (x : ModeController) : (d.withMc x).rau = d.rau := rfl
@[simp] theorem Device.withMc_rta (x : ModeController) : (d.withMc x).rta = d.rta := rfl
@[simp] theorem Device.withMc_bc (x : ModeController) : (d.withMc x).bc = d.bc := rfl
@[simp] theorem Device.withMc_se (x : ModeController) : (d.withMc x).se = d.se := rfl
@[simp] theorem Device.withMc_gs (x : ModeController) : (d.withMc x).gs = d.gs := rfl
@[simp] theorem Device.withMc_mc (x : ModeController) : (d.withMc x).mc = x := rfl
@[simp] theorem Device.withMc_vbp (x : ModeController) : (d.withMc x).vbp = d.vbp := rfl
@[simp] theorem Device.withMc_sl (x : ModeController) : (d.withMc x).sl = d.sl := rfl
@[simp] theorem Device.withMc_cs (x : ModeController) : (d.withMc x).cs = d.cs := rfl

/-! ## withVbp -/

@[simp] theorem Device.withVbp_now (x : BusPort) : (d.withVbp x).now = d.now := rfl
@[simp] theorem Device.withVbp_draws (x : BusPort) : (d.withVbp x).draws = d.draws := rfl
@[simp] theorem Device.withVbp_tbl (x : BusPort) : (d.withVbp x).tbl = d.tbl := rfl
@[simp] theorem Device.withVbp_rau (x : BusPort) : (d.withVbp x).rau = d.rau := rfl
@[simp] theorem Device.withVbp_rta (x : BusPort) : (d.withVbp x).rta = d.rta := rfl
@[simp] theorem Device.withVbp_bc (x : BusPort) : (d.withVbp x).bc = d.bc := rfl
@[simp] theorem Device.withVbp_se (x : BusPort) : (d.withVbp x).se = d.se := rfl
@[simp] theorem Device.withVbp_gs (x : BusPort) : (d.withVbp x).gs = d.gs := rfl
@[simp] theorem Device.withVbp_mc (x : BusPort) : (d.withVbp x).mc = d.mc := rfl
@[simp] theorem Device.withVbp_vbp (x : BusPort) : (d.withVbp x).vbp = x := rfl
@[simp] theorem Device.withVbp_sl (x : BusPort) : (d.withVbp x).sl = d.sl := rfl
@[simp] theorem Device.withVbp_cs (x : BusPort) : (d.withVbp x).cs = d.cs := rfl

/-! ## withSl -/

@[simp] theorem Device.withSl_now (x : Link) : (d.withSl x).now = d.now := rfl
@[simp] theorem Device.withSl_draws (x : Link) : (d.withSl x).draws = d.draws := rfl
@[simp] theorem Device.withSl_tbl (x : Link) : (d.withSl x).tbl = d.tbl := rfl
@[simp] theorem Device.withSl_rau (x : Link) : (d.withSl x).rau = d.rau := rfl
@[simp] theorem Device.withSl_rta (x : Link) : (d.withSl x).rta = d.rta := rfl
@[simp] theorem Device.withSl_bc (x : Link) : (d.withSl x).bc = d.bc := rfl
@[simp] theorem Device.withSl_se (x : Link) : (d.withSl x).se = d.se := rfl
@[simp] theorem Device.withSl_gs (x : Link) : (d.withSl x).gs = d.gs := rfl
@[simp] theorem Device.withSl_mc (x : Link) : (d.withSl x).mc = d.mc := rfl
@[simp] theorem Device.withSl_vbp (x : Link) : (d.withSl x).vbp = d.vbp := rfl
@[simp] theorem Device.withSl_sl (x : Link) : (d.withSl x).sl = x := rfl
@[simp] theorem Device.withSl_cs (x : Link) : (d.withSl x).cs = d.cs := rfl

/-! ## withCs -/

@[simp] theorem Device.withCs_now (x : ConfigSet) : (d.withCs x).now = d.now := rfl
@[simp] theorem Device.withCs_draws (x : ConfigSet) : (d.withCs x).draws = d.draws := rfl
@[simp] theorem Device.withCs_tbl (x : ConfigSet) : (d.withCs x).tbl = d.tbl := rfl
@[simp] theorem Device.withCs_rau (x : ConfigSet) : (d.withCs x).rau = d.rau := rfl
@[simp] theorem Device.withCs_rta (x : ConfigSet) : (d.withCs x).rta = d.rta := rfl
@[simp] theorem Device.withCs_bc (x : ConfigSet) : (d.withCs x).bc = d.bc := rfl
@[simp] theorem Device.withCs_se (x : ConfigSet) : (d.withCs x).se = d.se := rfl
@[simp] theorem Device.withCs_gs (x : ConfigSet) : (d.withCs x).gs = d.gs := rfl
@[simp] theorem Device.withCs_mc (x : ConfigSet) : (d.withCs x).mc = d.mc := rfl
@[simp] theorem Device.withCs_vbp (x : ConfigSet) : (d.withCs x).vbp = d.vbp := rfl
@[simp] theorem Device.withCs_sl (x : ConfigSet) : (d.withCs x).sl = d.sl := rfl
@[simp] theorem Device.withCs_cs (x : ConfigSet) : (d.withCs x).cs = x := rfl

/-! ## setSlot -/

@[simp] theorem Device.setSlot_now (i : SlotNo) (x : Slot) : (d.setSlot i x).now = d.now := rfl
@[simp] theorem Device.setSlot_draws (i : SlotNo) (x : Slot) : (d.setSlot i x).draws = d.draws := rfl
@[simp] theorem Device.setSlot_rau (i : SlotNo) (x : Slot) : (d.setSlot i x).rau = d.rau := rfl
@[simp] theorem Device.setSlot_rta (i : SlotNo) (x : Slot) : (d.setSlot i x).rta = d.rta := rfl
@[simp] theorem Device.setSlot_bc (i : SlotNo) (x : Slot) : (d.setSlot i x).bc = d.bc := rfl
@[simp] theorem Device.setSlot_se (i : SlotNo) (x : Slot) : (d.setSlot i x).se = d.se := rfl
@[simp] theorem Device.setSlot_gs (i : SlotNo) (x : Slot) : (d.setSlot i x).gs = d.gs := rfl
@[simp] theorem Device.setSlot_mc (i : SlotNo) (x : Slot) : (d.setSlot i x).mc = d.mc := rfl
@[simp] theorem Device.setSlot_vbp (i : SlotNo) (x : Slot) : (d.setSlot i x).vbp = d.vbp := rfl
@[simp] theorem Device.setSlot_sl (i : SlotNo) (x : Slot) : (d.setSlot i x).sl = d.sl := rfl
@[simp] theorem Device.setSlot_cs (i : SlotNo) (x : Slot) : (d.setSlot i x).cs = d.cs := rfl

/-! ## setContent -/

@[simp] theorem Device.setContent_now (i : SlotNo) (c : Content) : (d.setContent i c).now = d.now := rfl
@[simp] theorem Device.setContent_draws (i : SlotNo) (c : Content) : (d.setContent i c).draws = d.draws := rfl
@[simp] theorem Device.setContent_rau (i : SlotNo) (c : Content) : (d.setContent i c).rau = d.rau := rfl
@[simp] theorem Device.setContent_rta (i : SlotNo) (c : Content) : (d.setContent i c).rta = d.rta := rfl
@[simp] theorem Device.setContent_bc (i : SlotNo) (c : Content) : (d.setContent i c).bc = d.bc := rfl
@[simp] theorem Device.setContent_se (i : SlotNo) (c : Content) : (d.setContent i c).se = d.se := rfl
@[simp] theorem Device.setContent_gs (i : SlotNo) (c : Content) : (d.setContent i c).gs = d.gs := rfl
@[simp] theorem Device.setContent_mc (i : SlotNo) (c : Content) : (d.setContent i c).mc = d.mc := rfl
@[simp] theorem Device.setContent_vbp (i : SlotNo) (c : Content) : (d.setContent i c).vbp = d.vbp := rfl
@[simp] theorem Device.setContent_sl (i : SlotNo) (c : Content) : (d.setContent i c).sl = d.sl := rfl
@[simp] theorem Device.setContent_cs (i : SlotNo) (c : Content) : (d.setContent i c).cs = d.cs := rfl

/-! ## setBuffer -/

@[simp] theorem Device.setBuffer_now (b : BankNo) (x : Option EditBuffer) : (d.setBuffer b x).now = d.now := rfl
@[simp] theorem Device.setBuffer_draws (b : BankNo) (x : Option EditBuffer) : (d.setBuffer b x).draws = d.draws := rfl
@[simp] theorem Device.setBuffer_rau (b : BankNo) (x : Option EditBuffer) : (d.setBuffer b x).rau = d.rau := rfl
@[simp] theorem Device.setBuffer_rta (b : BankNo) (x : Option EditBuffer) : (d.setBuffer b x).rta = d.rta := rfl
@[simp] theorem Device.setBuffer_bc (b : BankNo) (x : Option EditBuffer) : (d.setBuffer b x).bc = d.bc := rfl
@[simp] theorem Device.setBuffer_se (b : BankNo) (x : Option EditBuffer) : (d.setBuffer b x).se = d.se := rfl
@[simp] theorem Device.setBuffer_gs (b : BankNo) (x : Option EditBuffer) : (d.setBuffer b x).gs = d.gs := rfl
@[simp] theorem Device.setBuffer_mc (b : BankNo) (x : Option EditBuffer) : (d.setBuffer b x).mc = d.mc := rfl
@[simp] theorem Device.setBuffer_vbp (b : BankNo) (x : Option EditBuffer) : (d.setBuffer b x).vbp = d.vbp := rfl
@[simp] theorem Device.setBuffer_sl (b : BankNo) (x : Option EditBuffer) : (d.setBuffer b x).sl = d.sl := rfl
@[simp] theorem Device.setBuffer_cs (b : BankNo) (x : Option EditBuffer) : (d.setBuffer b x).cs = d.cs := rfl

/-! ## setRta -/

@[simp] theorem Device.setRta_now (i : SlotNo) (x : RenewalEntry) : (d.setRta i x).now = d.now := rfl
@[simp] theorem Device.setRta_draws (i : SlotNo) (x : RenewalEntry) : (d.setRta i x).draws = d.draws := rfl
@[simp] theorem Device.setRta_tbl (i : SlotNo) (x : RenewalEntry) : (d.setRta i x).tbl = d.tbl := rfl
@[simp] theorem Device.setRta_rau (i : SlotNo) (x : RenewalEntry) : (d.setRta i x).rau = d.rau := rfl
@[simp] theorem Device.setRta_bc (i : SlotNo) (x : RenewalEntry) : (d.setRta i x).bc = d.bc := rfl
@[simp] theorem Device.setRta_se (i : SlotNo) (x : RenewalEntry) : (d.setRta i x).se = d.se := rfl
@[simp] theorem Device.setRta_gs (i : SlotNo) (x : RenewalEntry) : (d.setRta i x).gs = d.gs := rfl
@[simp] theorem Device.setRta_mc (i : SlotNo) (x : RenewalEntry) : (d.setRta i x).mc = d.mc := rfl
@[simp] theorem Device.setRta_vbp (i : SlotNo) (x : RenewalEntry) : (d.setRta i x).vbp = d.vbp := rfl
@[simp] theorem Device.setRta_sl (i : SlotNo) (x : RenewalEntry) : (d.setRta i x).sl = d.sl := rfl
@[simp] theorem Device.setRta_cs (i : SlotNo) (x : RenewalEntry) : (d.setRta i x).cs = d.cs := rfl

/-! ## withTx -/

@[simp] theorem Device.withTx_now (q : TxQueue) : (d.withTx q).now = d.now := rfl
@[simp] theorem Device.withTx_draws (q : TxQueue) : (d.withTx q).draws = d.draws := rfl
@[simp] theorem Device.withTx_tbl (q : TxQueue) : (d.withTx q).tbl = d.tbl := rfl
@[simp] theorem Device.withTx_rau (q : TxQueue) : (d.withTx q).rau = d.rau := rfl
@[simp] theorem Device.withTx_rta (q : TxQueue) : (d.withTx q).rta = d.rta := rfl
@[simp] theorem Device.withTx_bc (q : TxQueue) : (d.withTx q).bc = d.bc := rfl
@[simp] theorem Device.withTx_se (q : TxQueue) : (d.withTx q).se = d.se := rfl
@[simp] theorem Device.withTx_gs (q : TxQueue) : (d.withTx q).gs = d.gs := rfl
@[simp] theorem Device.withTx_mc (q : TxQueue) : (d.withTx q).mc = d.mc := rfl
@[simp] theorem Device.withTx_sl (q : TxQueue) : (d.withTx q).sl = d.sl := rfl
@[simp] theorem Device.withTx_cs (q : TxQueue) : (d.withTx q).cs = d.cs := rfl

/-! ## draw -/

@[simp] theorem Device.draw_now : (d.draw).now = d.now := rfl
@[simp] theorem Device.draw_tbl : (d.draw).tbl = d.tbl := rfl
@[simp] theorem Device.draw_rau : (d.draw).rau = d.rau := rfl
@[simp] theorem Device.draw_rta : (d.draw).rta = d.rta := rfl
@[simp] theorem Device.draw_bc : (d.draw).bc = d.bc := rfl
@[simp] theorem Device.draw_se : (d.draw).se = d.se := rfl
@[simp] theorem Device.draw_gs : (d.draw).gs = d.gs := rfl
@[simp] theorem Device.draw_mc : (d.draw).mc = d.mc := rfl
@[simp] theorem Device.draw_vbp : (d.draw).vbp = d.vbp := rfl
@[simp] theorem Device.draw_sl : (d.draw).sl = d.sl := rfl
@[simp] theorem Device.draw_cs : (d.draw).cs = d.cs := rfl

@[simp] theorem Device.setSlot_tbl (i : SlotNo) (x : Slot) :
    (d.setSlot i x).tbl = { d.tbl with slots := d.tbl.slots.set i x } := rfl
@[simp] theorem Device.setBuffer_tbl (b : BankNo) (x : Option EditBuffer) :
    (d.setBuffer b x).tbl = { d.tbl with buffers := d.tbl.buffers.set b x } := rfl
@[simp] theorem Device.setRta_rta (i : SlotNo) (x : RenewalEntry) : (d.setRta i x).rta = d.rta.set i x := rfl
@[simp] theorem Device.withTx_vbp (q : TxQueue) : (d.withTx q).vbp = { d.vbp with tx := q } := rfl
@[simp] theorem Device.draw_draws : d.draw.draws = d.draws + 1 := rfl

/-! ## A queue entry of a state -/

@[simp] theorem State.withDev_dev (s : State) (x : Device) : ({ s with dev := x } : State).dev = x := rfl
@[simp] theorem State.withDev_pending (s : State) (x : Device) : ({ s with dev := x } : State).pending = s.pending := rfl

end Sys2Proof.Machine
end

