-- ==== Sys2Proof/Laws/Queues.lean ====
section
/-! SUPPORT. The notices, the transmit queue and the Reply FIFO: what each shared operation can do, said once. -/

namespace Sys2Proof.Machine

/-! ## Notices (R167) -/

@[simp] theorem NoticeSet.get_set_same (n : NoticeSet) (k : NoticeKind) (e : Option NoticeEntry) :
    (n.set k e).get k = e := by
  cases k <;> rfl

theorem NoticeSet.get_set_other (n : NoticeSet) {k l : NoticeKind} (e : Option NoticeEntry) (h : l ≠ k) :
    (n.set k e).get l = n.get l := by
  cases k <;> cases l <;> first | rfl | exact absurd rfl h

/-- A raise touches the link's Notice Set alone. -/
theorem raise_blocks (k : NoticeKind) (x : Half) (d : Device) :
    raise k x d = { d with sl := { d.sl with notices := (raise k x d).sl.notices } } := rfl

/-- The raised kind has the entry of R167, every other kind the entry it had. -/
theorem raise_get (k l : NoticeKind) (x : Half) (d : Device) :
    (raise k x d).sl.notices.get l =
      if l = k then some (NoticeEntry.raised (d.sl.notices.get k) x) else d.sl.notices.get l := by
  by_cases h : l = k
  · subst h; simp [raise]
  · simp [raise, h, NoticeSet.get_set_other]

/-! ## Transmit queue (R154) -/

@[simp] theorem TxQueue.get_set_same (q : TxQueue) (c : TxClass) (l : List TxFrame) : (q.set c l).get c = l := by
  cases c <;> rfl

theorem TxQueue.get_set_other (q : TxQueue) {c e : TxClass} (l : List TxFrame) (h : e ≠ c) :
    (q.set c l).get e = q.get e := by
  cases c <;> cases e <;> first | rfl | exact absurd rfl h

@[simp] theorem TxQueue.set_inTx (q : TxQueue) (c : TxClass) (l : List TxFrame) : (q.set c l).inTx = q.inTx := by
  cases c <;> rfl

/-- A frame at the tail of a class makes the queue one longer. -/
theorem TxQueue.count_append (q : TxQueue) (c : TxClass) (f : TxFrame) :
    (q.set c (q.get c ++ [f])).count = q.count + 1 := by
  cases c <;> simp [TxQueue.set, TxQueue.get, TxQueue.count] <;> omega

/-- A frame handed is queued at the tail of its class, or is dropped with TX_DROPPED and the queue as it was. -/
theorem handFrame_cases (c : TxClass) (f : TxFrame) (d : Device) :
    (d.txRoom = true ∧ handFrame c f d = d.withTx (d.vbp.tx.set c (d.vbp.tx.get c ++ [f]))) ∨
      (d.txRoom = false ∧ handFrame c f d = raiseTxDropped f.dest d) := by
  cases h : d.txRoom <;> simp [handFrame, h]

/-- A frame handed touches the transmit queue and the Notice Set alone. -/
theorem handFrame_blocks (c : TxClass) (f : TxFrame) (d : Device) :
    handFrame c f d =
      { d with
        vbp := { d.vbp with tx := (handFrame c f d).vbp.tx },
        sl := { d.sl with notices := (handFrame c f d).sl.notices } } := by
  cases h : d.txRoom <;> simp [handFrame, h, Device.withTx, Device.withVbp, raiseTxDropped, raise, Device.withSl]

/-- The queue never passes 24 frames by a handing. -/
theorem handFrame_count (c : TxClass) (f : TxFrame) (d : Device) (h : d.vbp.tx.count ≤ 24) :
    (handFrame c f d).vbp.tx.count ≤ 24 := by
  obtain ⟨hr, he⟩ | ⟨-, he⟩ := handFrame_cases c f d
  · have : d.vbp.tx.count < 24 := by simp [Device.txRoom] at hr; exact hr.2
    rw [he]; simp [TxQueue.count_append]; omega
  · rw [he]; exact h

/-- A replacement keeps the number of frames of a list. -/
theorem replaceFirst_length (p : TxFrame → Bool) (x : TxFrame) (l l' : List TxFrame) (h : replaceFirst p x l = some l') :
    l'.length = l.length := by
  induction l generalizing l' with
  | nil => simp [replaceFirst] at h
  | cons f fs ih =>
    by_cases hp : p f
    · simp [replaceFirst, hp] at h; subst h; rfl
    · simp only [replaceFirst, hp, Bool.false_eq_true, if_false, Option.map_eq_some_iff] at h
      obtain ⟨m, hm, rfl⟩ := h
      simp [ih m hm]

/-! ## Reply FIFO (R164) -/

/-- A reply enters at the tail with the lost-reply mark handed over, or is lost with the mark set. -/
theorem placeReply_cases (k t r : Byte) (p : List Byte) (d : Device) :
    (d.sl.replies.length < 16 ∧
      (placeReply k t r p d).sl =
        { d.sl with replies := d.sl.replies ++ [.enter k t r p d.sl.lostReply d.now], lostReply := false }) ∨
      (16 ≤ d.sl.replies.length ∧ (placeReply k t r p d).sl = { d.sl with lostReply := true }) := by
  by_cases h : d.sl.replies.length < 16
  · exact .inl ⟨h, by simp [placeReply, h]⟩
  · exact .inr ⟨by omega, by simp [placeReply, h]⟩

/-- A reply placed touches the link alone. -/
theorem placeReply_blocks (k t r : Byte) (p : List Byte) (d : Device) :
    placeReply k t r p d = { d with sl := (placeReply k t r p d).sl } := by
  by_cases h : d.sl.replies.length < 16 <;> simp [placeReply, h, Device.withSl]

/-! ## Requests taken from the head (R163) -/

/-- A request that is not at the head leaves the device as it is. -/
theorem takeHead_none (mine : Link → SpiRequest → Bool) (act : SpiRequest → Device → Taken) (d : Device)
    (h : ∀ f ∈ d.sl.requests.head?, mine d.sl f = false) : takeHead mine act d = d := by
  unfold takeHead
  cases hr : d.sl.requests with
  | nil => rfl
  | cons f fs => simp [h f (by simp [hr])]

/-- A request at the head is taken and finished in one act. -/
theorem takeHead_some (mine : Link → SpiRequest → Bool) (act : SpiRequest → Device → Taken) (d : Device) (f : SpiRequest)
    (fs : List SpiRequest) (hr : d.sl.requests = f :: fs) (h : mine d.sl f = true) :
    takeHead mine act d = finish f (act f (dropHead d)) := by
  unfold takeHead
  rw [hr]
  simp [h]

end Sys2Proof.Machine
end

