-- ==== Sys2Proof/Laws/Genset.lean ====
section
/-! SUPPORT. What the Genset Sequencer's operations leave alone: they touch the Sequencer, the transmit queue and the
Notice Set. -/

namespace Sys2Proof.Machine

/-! ## Frames handed for the engine peer -/

@[simp] theorem raise_now (k : NoticeKind) (x : Half) (d : Device) : (raise k x d).now = d.now := by
  simp [raise]
@[simp] theorem raise_draws (k : NoticeKind) (x : Half) (d : Device) : (raise k x d).draws = d.draws := by
  simp [raise]
@[simp] theorem raise_tbl (k : NoticeKind) (x : Half) (d : Device) : (raise k x d).tbl = d.tbl := by
  simp [raise]
@[simp] theorem raise_rau (k : NoticeKind) (x : Half) (d : Device) : (raise k x d).rau = d.rau := by
  simp [raise]
@[simp] theorem raise_rta (k : NoticeKind) (x : Half) (d : Device) : (raise k x d).rta = d.rta := by
  simp [raise]
@[simp] theorem raise_bc (k : NoticeKind) (x : Half) (d : Device) : (raise k x d).bc = d.bc := by
  simp [raise]
@[simp] theorem raise_se (k : NoticeKind) (x : Half) (d : Device) : (raise k x d).se = d.se := by
  simp [raise]
@[simp] theorem raise_gs (k : NoticeKind) (x : Half) (d : Device) : (raise k x d).gs = d.gs := by
  simp [raise]
@[simp] theorem raise_mc (k : NoticeKind) (x : Half) (d : Device) : (raise k x d).mc = d.mc := by
  simp [raise]
@[simp] theorem raise_vbp (k : NoticeKind) (x : Half) (d : Device) : (raise k x d).vbp = d.vbp := by
  simp [raise]
@[simp] theorem raise_cs (k : NoticeKind) (x : Half) (d : Device) : (raise k x d).cs = d.cs := by
  simp [raise]

@[simp] theorem raiseGensetFault_now (x : GensetFaultDetail) (d : Device) : (raiseGensetFault x d).now = d.now := by
  simp [raiseGensetFault]
@[simp] theorem raiseGensetFault_draws (x : GensetFaultDetail) (d : Device) : (raiseGensetFault x d).draws = d.draws := by
  simp [raiseGensetFault]
@[simp] theorem raiseGensetFault_tbl (x : GensetFaultDetail) (d : Device) : (raiseGensetFault x d).tbl = d.tbl := by
  simp [raiseGensetFault]
@[simp] theorem raiseGensetFault_rau (x : GensetFaultDetail) (d : Device) : (raiseGensetFault x d).rau = d.rau := by
  simp [raiseGensetFault]
@[simp] theorem raiseGensetFault_rta (x : GensetFaultDetail) (d : Device) : (raiseGensetFault x d).rta = d.rta := by
  simp [raiseGensetFault]
@[simp] theorem raiseGensetFault_bc (x : GensetFaultDetail) (d : Device) : (raiseGensetFault x d).bc = d.bc := by
  simp [raiseGensetFault]
@[simp] theorem raiseGensetFault_se (x : GensetFaultDetail) (d : Device) : (raiseGensetFault x d).se = d.se := by
  simp [raiseGensetFault]
@[simp] theorem raiseGensetFault_gs (x : GensetFaultDetail) (d : Device) : (raiseGensetFault x d).gs = d.gs := by
  simp [raiseGensetFault]
@[simp] theorem raiseGensetFault_mc (x : GensetFaultDetail) (d : Device) : (raiseGensetFault x d).mc = d.mc := by
  simp [raiseGensetFault]
@[simp] theorem raiseGensetFault_vbp (x : GensetFaultDetail) (d : Device) : (raiseGensetFault x d).vbp = d.vbp := by
  simp [raiseGensetFault]
@[simp] theorem raiseGensetFault_cs (x : GensetFaultDetail) (d : Device) : (raiseGensetFault x d).cs = d.cs := by
  simp [raiseGensetFault]

@[simp] theorem raiseTxDropped_now (x : Dest) (d : Device) : (raiseTxDropped x d).now = d.now := by
  simp [raiseTxDropped]
@[simp] theorem raiseTxDropped_draws (x : Dest) (d : Device) : (raiseTxDropped x d).draws = d.draws := by
  simp [raiseTxDropped]
@[simp] theorem raiseTxDropped_tbl (x : Dest) (d : Device) : (raiseTxDropped x d).tbl = d.tbl := by
  simp [raiseTxDropped]
@[simp] theorem raiseTxDropped_rau (x : Dest) (d : Device) : (raiseTxDropped x d).rau = d.rau := by
  simp [raiseTxDropped]
@[simp] theorem raiseTxDropped_rta (x : Dest) (d : Device) : (raiseTxDropped x d).rta = d.rta := by
  simp [raiseTxDropped]
@[simp] theorem raiseTxDropped_bc (x : Dest) (d : Device) : (raiseTxDropped x d).bc = d.bc := by
  simp [raiseTxDropped]
@[simp] theorem raiseTxDropped_se (x : Dest) (d : Device) : (raiseTxDropped x d).se = d.se := by
  simp [raiseTxDropped]
@[simp] theorem raiseTxDropped_gs (x : Dest) (d : Device) : (raiseTxDropped x d).gs = d.gs := by
  simp [raiseTxDropped]
@[simp] theorem raiseTxDropped_mc (x : Dest) (d : Device) : (raiseTxDropped x d).mc = d.mc := by
  simp [raiseTxDropped]
@[simp] theorem raiseTxDropped_vbp (x : Dest) (d : Device) : (raiseTxDropped x d).vbp = d.vbp := by
  simp [raiseTxDropped]
@[simp] theorem raiseTxDropped_cs (x : Dest) (d : Device) : (raiseTxDropped x d).cs = d.cs := by
  simp [raiseTxDropped]

@[simp] theorem handFrame_now (c : TxClass) (f : TxFrame) (d : Device) : (handFrame c f d).now = d.now := by
  simp only [handFrame]; split <;> simp
@[simp] theorem handFrame_draws (c : TxClass) (f : TxFrame) (d : Device) : (handFrame c f d).draws = d.draws := by
  simp only [handFrame]; split <;> simp
@[simp] theorem handFrame_tbl (c : TxClass) (f : TxFrame) (d : Device) : (handFrame c f d).tbl = d.tbl := by
  simp only [handFrame]; split <;> simp
@[simp] theorem handFrame_rau (c : TxClass) (f : TxFrame) (d : Device) : (handFrame c f d).rau = d.rau := by
  simp only [handFrame]; split <;> simp
@[simp] theorem handFrame_rta (c : TxClass) (f : TxFrame) (d : Device) : (handFrame c f d).rta = d.rta := by
  simp only [handFrame]; split <;> simp
@[simp] theorem handFrame_bc (c : TxClass) (f : TxFrame) (d : Device) : (handFrame c f d).bc = d.bc := by
  simp only [handFrame]; split <;> simp
@[simp] theorem handFrame_se (c : TxClass) (f : TxFrame) (d : Device) : (handFrame c f d).se = d.se := by
  simp only [handFrame]; split <;> simp
@[simp] theorem handFrame_mc (c : TxClass) (f : TxFrame) (d : Device) : (handFrame c f d).mc = d.mc := by
  simp only [handFrame]; split <;> simp
@[simp] theorem handFrame_cs (c : TxClass) (f : TxFrame) (d : Device) : (handFrame c f d).cs = d.cs := by
  simp only [handFrame]; split <;> simp
@[simp] theorem handFrame_gs (c : TxClass) (f : TxFrame) (d : Device) : (handFrame c f d).gs = d.gs := by
  simp only [handFrame]; split <;> simp

@[simp] theorem handOrder_now (p : TxFrame → Bool) (f : TxFrame) (d : Device) : ((handOrder p f d).1).now = d.now := by
  simp only [handOrder]; split <;> simp
@[simp] theorem handOrder_draws (p : TxFrame → Bool) (f : TxFrame) (d : Device) : ((handOrder p f d).1).draws = d.draws := by
  simp only [handOrder]; split <;> simp
@[simp] theorem handOrder_tbl (p : TxFrame → Bool) (f : TxFrame) (d : Device) : ((handOrder p f d).1).tbl = d.tbl := by
  simp only [handOrder]; split <;> simp
@[simp] theorem handOrder_rau (p : TxFrame → Bool) (f : TxFrame) (d : Device) : ((handOrder p f d).1).rau = d.rau := by
  simp only [handOrder]; split <;> simp
@[simp] theorem handOrder_rta (p : TxFrame → Bool) (f : TxFrame) (d : Device) : ((handOrder p f d).1).rta = d.rta := by
  simp only [handOrder]; split <;> simp
@[simp] theorem handOrder_bc (p : TxFrame → Bool) (f : TxFrame) (d : Device) : ((handOrder p f d).1).bc = d.bc := by
  simp only [handOrder]; split <;> simp
@[simp] theorem handOrder_se (p : TxFrame → Bool) (f : TxFrame) (d : Device) : ((handOrder p f d).1).se = d.se := by
  simp only [handOrder]; split <;> simp
@[simp] theorem handOrder_mc (p : TxFrame → Bool) (f : TxFrame) (d : Device) : ((handOrder p f d).1).mc = d.mc := by
  simp only [handOrder]; split <;> simp
@[simp] theorem handOrder_cs (p : TxFrame → Bool) (f : TxFrame) (d : Device) : ((handOrder p f d).1).cs = d.cs := by
  simp only [handOrder]; split <;> simp
@[simp] theorem handOrder_gs (p : TxFrame → Bool) (f : TxFrame) (d : Device) : ((handOrder p f d).1).gs = d.gs := by
  simp only [handOrder]; split <;> simp

@[simp] theorem handToEngine_now (p : TxFrame → Bool) (b : TxBody) (d : Device) : ((handToEngine p b d).1).now = d.now := by
  simp only [handToEngine]; split <;> simp
@[simp] theorem handToEngine_draws (p : TxFrame → Bool) (b : TxBody) (d : Device) : ((handToEngine p b d).1).draws = d.draws := by
  simp only [handToEngine]; split <;> simp
@[simp] theorem handToEngine_tbl (p : TxFrame → Bool) (b : TxBody) (d : Device) : ((handToEngine p b d).1).tbl = d.tbl := by
  simp only [handToEngine]; split <;> simp
@[simp] theorem handToEngine_rau (p : TxFrame → Bool) (b : TxBody) (d : Device) : ((handToEngine p b d).1).rau = d.rau := by
  simp only [handToEngine]; split <;> simp
@[simp] theorem handToEngine_rta (p : TxFrame → Bool) (b : TxBody) (d : Device) : ((handToEngine p b d).1).rta = d.rta := by
  simp only [handToEngine]; split <;> simp
@[simp] theorem handToEngine_bc (p : TxFrame → Bool) (b : TxBody) (d : Device) : ((handToEngine p b d).1).bc = d.bc := by
  simp only [handToEngine]; split <;> simp
@[simp] theorem handToEngine_se (p : TxFrame → Bool) (b : TxBody) (d : Device) : ((handToEngine p b d).1).se = d.se := by
  simp only [handToEngine]; split <;> simp
@[simp] theorem handToEngine_mc (p : TxFrame → Bool) (b : TxBody) (d : Device) : ((handToEngine p b d).1).mc = d.mc := by
  simp only [handToEngine]; split <;> simp
@[simp] theorem handToEngine_cs (p : TxFrame → Bool) (b : TxBody) (d : Device) : ((handToEngine p b d).1).cs = d.cs := by
  simp only [handToEngine]; split <;> simp
@[simp] theorem handToEngine_gs (p : TxFrame → Bool) (b : TxBody) (d : Device) : ((handToEngine p b d).1).gs = d.gs := by
  simp only [handToEngine]; split <;> simp

/-! ## Orders -/

@[simp] theorem issueOrder_now (k : OrderKind) (d : Device) : (issueOrder k d).now = d.now := by
  simp [issueOrder]
@[simp] theorem issueOrder_draws (k : OrderKind) (d : Device) : (issueOrder k d).draws = d.draws := by
  simp [issueOrder]
@[simp] theorem issueOrder_tbl (k : OrderKind) (d : Device) : (issueOrder k d).tbl = d.tbl := by
  simp [issueOrder]
@[simp] theorem issueOrder_rau (k : OrderKind) (d : Device) : (issueOrder k d).rau = d.rau := by
  simp [issueOrder]
@[simp] theorem issueOrder_rta (k : OrderKind) (d : Device) : (issueOrder k d).rta = d.rta := by
  simp [issueOrder]
@[simp] theorem issueOrder_bc (k : OrderKind) (d : Device) : (issueOrder k d).bc = d.bc := by
  simp [issueOrder]
@[simp] theorem issueOrder_se (k : OrderKind) (d : Device) : (issueOrder k d).se = d.se := by
  simp [issueOrder]
@[simp] theorem issueOrder_mc (k : OrderKind) (d : Device) : (issueOrder k d).mc = d.mc := by
  simp [issueOrder]
@[simp] theorem issueOrder_cs (k : OrderKind) (d : Device) : (issueOrder k d).cs = d.cs := by
  simp [issueOrder]

/-- Issuing an order advances the sequence by one and makes the order the one in flight; the rest of the Sequencer stands
(R110). -/
@[simp] theorem issueOrder_gs (k : OrderKind) (d : Device) :
    (issueOrder k d).gs =
      { d.gs with
        seq := d.gs.seq + 1, inFlight := some { kind := k, seq := d.gs.seq + 1, resends := 0, timer := ackMs } } := by
  simp [issueOrder]

@[simp] theorem handOrderAgain_now (x : InFlight) (d : Device) : (handOrderAgain x d).now = d.now := by
  simp [handOrderAgain]
@[simp] theorem handOrderAgain_draws (x : InFlight) (d : Device) : (handOrderAgain x d).draws = d.draws := by
  simp [handOrderAgain]
@[simp] theorem handOrderAgain_tbl (x : InFlight) (d : Device) : (handOrderAgain x d).tbl = d.tbl := by
  simp [handOrderAgain]
@[simp] theorem handOrderAgain_rau (x : InFlight) (d : Device) : (handOrderAgain x d).rau = d.rau := by
  simp [handOrderAgain]
@[simp] theorem handOrderAgain_rta (x : InFlight) (d : Device) : (handOrderAgain x d).rta = d.rta := by
  simp [handOrderAgain]
@[simp] theorem handOrderAgain_bc (x : InFlight) (d : Device) : (handOrderAgain x d).bc = d.bc := by
  simp [handOrderAgain]
@[simp] theorem handOrderAgain_se (x : InFlight) (d : Device) : (handOrderAgain x d).se = d.se := by
  simp [handOrderAgain]
@[simp] theorem handOrderAgain_mc (x : InFlight) (d : Device) : (handOrderAgain x d).mc = d.mc := by
  simp [handOrderAgain]
@[simp] theorem handOrderAgain_cs (x : InFlight) (d : Device) : (handOrderAgain x d).cs = d.cs := by
  simp [handOrderAgain]
@[simp] theorem handOrderAgain_gs (x : InFlight) (d : Device) : (handOrderAgain x d).gs = d.gs := by
  simp [handOrderAgain]

/-- A setpoint sent changes nothing of the Sequencer but the last setpoint sent, which is the setpoint in force or as it
was (R112). -/
theorem sendSetpoint_gs (d : Device) :
    (sendSetpoint d).gs = { d.gs with lastSent := some d.gs.setpoint } ∨ (sendSetpoint d).gs = d.gs := by
  have hg := handToEngine_gs TxFrame.isSetpoint (.setpoint d.gs.setpoint) d
  unfold sendSetpoint
  split <;> rename_i d' h <;> rw [h] at hg <;> simp at hg
  · exact .inl (by simp [hg])
  · exact .inr hg

@[simp] theorem sendSetpoint_now (d : Device) : (sendSetpoint d).now = d.now := by
  have h := handToEngine_now TxFrame.isSetpoint (.setpoint d.gs.setpoint) d
  unfold sendSetpoint; split <;> simp_all
@[simp] theorem sendSetpoint_draws (d : Device) : (sendSetpoint d).draws = d.draws := by
  have h := handToEngine_draws TxFrame.isSetpoint (.setpoint d.gs.setpoint) d
  unfold sendSetpoint; split <;> simp_all
@[simp] theorem sendSetpoint_tbl (d : Device) : (sendSetpoint d).tbl = d.tbl := by
  have h := handToEngine_tbl TxFrame.isSetpoint (.setpoint d.gs.setpoint) d
  unfold sendSetpoint; split <;> simp_all
@[simp] theorem sendSetpoint_rau (d : Device) : (sendSetpoint d).rau = d.rau := by
  have h := handToEngine_rau TxFrame.isSetpoint (.setpoint d.gs.setpoint) d
  unfold sendSetpoint; split <;> simp_all
@[simp] theorem sendSetpoint_rta (d : Device) : (sendSetpoint d).rta = d.rta := by
  have h := handToEngine_rta TxFrame.isSetpoint (.setpoint d.gs.setpoint) d
  unfold sendSetpoint; split <;> simp_all
@[simp] theorem sendSetpoint_bc (d : Device) : (sendSetpoint d).bc = d.bc := by
  have h := handToEngine_bc TxFrame.isSetpoint (.setpoint d.gs.setpoint) d
  unfold sendSetpoint; split <;> simp_all
@[simp] theorem sendSetpoint_se (d : Device) : (sendSetpoint d).se = d.se := by
  have h := handToEngine_se TxFrame.isSetpoint (.setpoint d.gs.setpoint) d
  unfold sendSetpoint; split <;> simp_all
@[simp] theorem sendSetpoint_mc (d : Device) : (sendSetpoint d).mc = d.mc := by
  have h := handToEngine_mc TxFrame.isSetpoint (.setpoint d.gs.setpoint) d
  unfold sendSetpoint; split <;> simp_all
@[simp] theorem sendSetpoint_cs (d : Device) : (sendSetpoint d).cs = d.cs := by
  have h := handToEngine_cs TxFrame.isSetpoint (.setpoint d.gs.setpoint) d
  unfold sendSetpoint; split <;> simp_all

@[simp] theorem sendSetpointIfNew_now (d : Device) : (sendSetpointIfNew d).now = d.now := by
  simp only [sendSetpointIfNew]; split <;> simp
@[simp] theorem sendSetpointIfNew_draws (d : Device) : (sendSetpointIfNew d).draws = d.draws := by
  simp only [sendSetpointIfNew]; split <;> simp
@[simp] theorem sendSetpointIfNew_tbl (d : Device) : (sendSetpointIfNew d).tbl = d.tbl := by
  simp only [sendSetpointIfNew]; split <;> simp
@[simp] theorem sendSetpointIfNew_rau (d : Device) : (sendSetpointIfNew d).rau = d.rau := by
  simp only [sendSetpointIfNew]; split <;> simp
@[simp] theorem sendSetpointIfNew_rta (d : Device) : (sendSetpointIfNew d).rta = d.rta := by
  simp only [sendSetpointIfNew]; split <;> simp
@[simp] theorem sendSetpointIfNew_bc (d : Device) : (sendSetpointIfNew d).bc = d.bc := by
  simp only [sendSetpointIfNew]; split <;> simp
@[simp] theorem sendSetpointIfNew_se (d : Device) : (sendSetpointIfNew d).se = d.se := by
  simp only [sendSetpointIfNew]; split <;> simp
@[simp] theorem sendSetpointIfNew_mc (d : Device) : (sendSetpointIfNew d).mc = d.mc := by
  simp only [sendSetpointIfNew]; split <;> simp
@[simp] theorem sendSetpointIfNew_cs (d : Device) : (sendSetpointIfNew d).cs = d.cs := by
  simp only [sendSetpointIfNew]; split <;> simp

/-! ## Transitions -/

@[simp] theorem enterOff_now (d : Device) : (enterOff d).now = d.now := by
  simp [enterOff]
@[simp] theorem enterOff_draws (d : Device) : (enterOff d).draws = d.draws := by
  simp [enterOff]
@[simp] theorem enterOff_tbl (d : Device) : (enterOff d).tbl = d.tbl := by
  simp [enterOff]
@[simp] theorem enterOff_rau (d : Device) : (enterOff d).rau = d.rau := by
  simp [enterOff]
@[simp] theorem enterOff_rta (d : Device) : (enterOff d).rta = d.rta := by
  simp [enterOff]
@[simp] theorem enterOff_bc (d : Device) : (enterOff d).bc = d.bc := by
  simp [enterOff]
@[simp] theorem enterOff_se (d : Device) : (enterOff d).se = d.se := by
  simp [enterOff]
@[simp] theorem enterOff_mc (d : Device) : (enterOff d).mc = d.mc := by
  simp [enterOff]
@[simp] theorem enterOff_cs (d : Device) : (enterOff d).cs = d.cs := by
  simp [enterOff]

@[simp] theorem enterLockout_now (d : Device) : (enterLockout d).now = d.now := by
  simp [enterLockout]
@[simp] theorem enterLockout_draws (d : Device) : (enterLockout d).draws = d.draws := by
  simp [enterLockout]
@[simp] theorem enterLockout_tbl (d : Device) : (enterLockout d).tbl = d.tbl := by
  simp [enterLockout]
@[simp] theorem enterLockout_rau (d : Device) : (enterLockout d).rau = d.rau := by
  simp [enterLockout]
@[simp] theorem enterLockout_rta (d : Device) : (enterLockout d).rta = d.rta := by
  simp [enterLockout]
@[simp] theorem enterLockout_bc (d : Device) : (enterLockout d).bc = d.bc := by
  simp [enterLockout]
@[simp] theorem enterLockout_se (d : Device) : (enterLockout d).se = d.se := by
  simp [enterLockout]
@[simp] theorem enterLockout_mc (d : Device) : (enterLockout d).mc = d.mc := by
  simp [enterLockout]
@[simp] theorem enterLockout_cs (d : Device) : (enterLockout d).cs = d.cs := by
  simp [enterLockout]

@[simp] theorem stopToOff_now (d : Device) : (stopToOff d).now = d.now := by
  simp [stopToOff]
@[simp] theorem stopToOff_draws (d : Device) : (stopToOff d).draws = d.draws := by
  simp [stopToOff]
@[simp] theorem stopToOff_tbl (d : Device) : (stopToOff d).tbl = d.tbl := by
  simp [stopToOff]
@[simp] theorem stopToOff_rau (d : Device) : (stopToOff d).rau = d.rau := by
  simp [stopToOff]
@[simp] theorem stopToOff_rta (d : Device) : (stopToOff d).rta = d.rta := by
  simp [stopToOff]
@[simp] theorem stopToOff_bc (d : Device) : (stopToOff d).bc = d.bc := by
  simp [stopToOff]
@[simp] theorem stopToOff_se (d : Device) : (stopToOff d).se = d.se := by
  simp [stopToOff]
@[simp] theorem stopToOff_mc (d : Device) : (stopToOff d).mc = d.mc := by
  simp [stopToOff]
@[simp] theorem stopToOff_cs (d : Device) : (stopToOff d).cs = d.cs := by
  simp [stopToOff]

@[simp] theorem enterCranking_now (d : Device) : (enterCranking d).now = d.now := by
  simp [enterCranking]
@[simp] theorem enterCranking_draws (d : Device) : (enterCranking d).draws = d.draws := by
  simp [enterCranking]
@[simp] theorem enterCranking_tbl (d : Device) : (enterCranking d).tbl = d.tbl := by
  simp [enterCranking]
@[simp] theorem enterCranking_rau (d : Device) : (enterCranking d).rau = d.rau := by
  simp [enterCranking]
@[simp] theorem enterCranking_rta (d : Device) : (enterCranking d).rta = d.rta := by
  simp [enterCranking]
@[simp] theorem enterCranking_bc (d : Device) : (enterCranking d).bc = d.bc := by
  simp [enterCranking]
@[simp] theorem enterCranking_se (d : Device) : (enterCranking d).se = d.se := by
  simp [enterCranking]
@[simp] theorem enterCranking_mc (d : Device) : (enterCranking d).mc = d.mc := by
  simp [enterCranking]
@[simp] theorem enterCranking_cs (d : Device) : (enterCranking d).cs = d.cs := by
  simp [enterCranking]

@[simp] theorem enterRunning_now (d : Device) : (enterRunning d).now = d.now := by
  simp [enterRunning]
@[simp] theorem enterRunning_draws (d : Device) : (enterRunning d).draws = d.draws := by
  simp [enterRunning]
@[simp] theorem enterRunning_tbl (d : Device) : (enterRunning d).tbl = d.tbl := by
  simp [enterRunning]
@[simp] theorem enterRunning_rau (d : Device) : (enterRunning d).rau = d.rau := by
  simp [enterRunning]
@[simp] theorem enterRunning_rta (d : Device) : (enterRunning d).rta = d.rta := by
  simp [enterRunning]
@[simp] theorem enterRunning_bc (d : Device) : (enterRunning d).bc = d.bc := by
  simp [enterRunning]
@[simp] theorem enterRunning_se (d : Device) : (enterRunning d).se = d.se := by
  simp [enterRunning]
@[simp] theorem enterRunning_mc (d : Device) : (enterRunning d).mc = d.mc := by
  simp [enterRunning]
@[simp] theorem enterRunning_cs (d : Device) : (enterRunning d).cs = d.cs := by
  simp [enterRunning]

@[simp] theorem enterWarmup_now (d : Device) : (enterWarmup d).now = d.now := by
  simp only [enterWarmup]; split <;> simp
@[simp] theorem enterWarmup_draws (d : Device) : (enterWarmup d).draws = d.draws := by
  simp only [enterWarmup]; split <;> simp
@[simp] theorem enterWarmup_tbl (d : Device) : (enterWarmup d).tbl = d.tbl := by
  simp only [enterWarmup]; split <;> simp
@[simp] theorem enterWarmup_rau (d : Device) : (enterWarmup d).rau = d.rau := by
  simp only [enterWarmup]; split <;> simp
@[simp] theorem enterWarmup_rta (d : Device) : (enterWarmup d).rta = d.rta := by
  simp only [enterWarmup]; split <;> simp
@[simp] theorem enterWarmup_bc (d : Device) : (enterWarmup d).bc = d.bc := by
  simp only [enterWarmup]; split <;> simp
@[simp] theorem enterWarmup_se (d : Device) : (enterWarmup d).se = d.se := by
  simp only [enterWarmup]; split <;> simp
@[simp] theorem enterWarmup_mc (d : Device) : (enterWarmup d).mc = d.mc := by
  simp only [enterWarmup]; split <;> simp
@[simp] theorem enterWarmup_cs (d : Device) : (enterWarmup d).cs = d.cs := by
  simp only [enterWarmup]; split <;> simp

@[simp] theorem enterCooldown_now (ms : Nat) (d : Device) : (enterCooldown ms d).now = d.now := by
  simp only [enterCooldown]; split <;> simp
@[simp] theorem enterCooldown_draws (ms : Nat) (d : Device) : (enterCooldown ms d).draws = d.draws := by
  simp only [enterCooldown]; split <;> simp
@[simp] theorem enterCooldown_tbl (ms : Nat) (d : Device) : (enterCooldown ms d).tbl = d.tbl := by
  simp only [enterCooldown]; split <;> simp
@[simp] theorem enterCooldown_rau (ms : Nat) (d : Device) : (enterCooldown ms d).rau = d.rau := by
  simp only [enterCooldown]; split <;> simp
@[simp] theorem enterCooldown_rta (ms : Nat) (d : Device) : (enterCooldown ms d).rta = d.rta := by
  simp only [enterCooldown]; split <;> simp
@[simp] theorem enterCooldown_bc (ms : Nat) (d : Device) : (enterCooldown ms d).bc = d.bc := by
  simp only [enterCooldown]; split <;> simp
@[simp] theorem enterCooldown_se (ms : Nat) (d : Device) : (enterCooldown ms d).se = d.se := by
  simp only [enterCooldown]; split <;> simp
@[simp] theorem enterCooldown_mc (ms : Nat) (d : Device) : (enterCooldown ms d).mc = d.mc := by
  simp only [enterCooldown]; split <;> simp
@[simp] theorem enterCooldown_cs (ms : Nat) (d : Device) : (enterCooldown ms d).cs = d.cs := by
  simp only [enterCooldown]; split <;> simp

@[simp] theorem engineStarted_now (d : Device) : (engineStarted d).now = d.now := by
  simp only [engineStarted]; split <;> simp
@[simp] theorem engineStarted_draws (d : Device) : (engineStarted d).draws = d.draws := by
  simp only [engineStarted]; split <;> simp
@[simp] theorem engineStarted_tbl (d : Device) : (engineStarted d).tbl = d.tbl := by
  simp only [engineStarted]; split <;> simp
@[simp] theorem engineStarted_rau (d : Device) : (engineStarted d).rau = d.rau := by
  simp only [engineStarted]; split <;> simp
@[simp] theorem engineStarted_rta (d : Device) : (engineStarted d).rta = d.rta := by
  simp only [engineStarted]; split <;> simp
@[simp] theorem engineStarted_bc (d : Device) : (engineStarted d).bc = d.bc := by
  simp only [engineStarted]; split <;> simp
@[simp] theorem engineStarted_se (d : Device) : (engineStarted d).se = d.se := by
  simp only [engineStarted]; split <;> simp
@[simp] theorem engineStarted_mc (d : Device) : (engineStarted d).mc = d.mc := by
  simp only [engineStarted]; split <;> simp
@[simp] theorem engineStarted_cs (d : Device) : (engineStarted d).cs = d.cs := by
  simp only [engineStarted]; split <;> simp

@[simp] theorem startFailed_now (d : Device) : (startFailed d).now = d.now := by
  simp only [startFailed]; split <;> simp
@[simp] theorem startFailed_draws (d : Device) : (startFailed d).draws = d.draws := by
  simp only [startFailed]; split <;> simp
@[simp] theorem startFailed_tbl (d : Device) : (startFailed d).tbl = d.tbl := by
  simp only [startFailed]; split <;> simp
@[simp] theorem startFailed_rau (d : Device) : (startFailed d).rau = d.rau := by
  simp only [startFailed]; split <;> simp
@[simp] theorem startFailed_rta (d : Device) : (startFailed d).rta = d.rta := by
  simp only [startFailed]; split <;> simp
@[simp] theorem startFailed_bc (d : Device) : (startFailed d).bc = d.bc := by
  simp only [startFailed]; split <;> simp
@[simp] theorem startFailed_se (d : Device) : (startFailed d).se = d.se := by
  simp only [startFailed]; split <;> simp
@[simp] theorem startFailed_mc (d : Device) : (startFailed d).mc = d.mc := by
  simp only [startFailed]; split <;> simp
@[simp] theorem startFailed_cs (d : Device) : (startFailed d).cs = d.cs := by
  simp only [startFailed]; split <;> simp

@[simp] theorem modeChangeStop_now (d : Device) : (modeChangeStop d).now = d.now := by
  simp only [modeChangeStop]; split <;> simp
@[simp] theorem modeChangeStop_draws (d : Device) : (modeChangeStop d).draws = d.draws := by
  simp only [modeChangeStop]; split <;> simp
@[simp] theorem modeChangeStop_tbl (d : Device) : (modeChangeStop d).tbl = d.tbl := by
  simp only [modeChangeStop]; split <;> simp
@[simp] theorem modeChangeStop_rau (d : Device) : (modeChangeStop d).rau = d.rau := by
  simp only [modeChangeStop]; split <;> simp
@[simp] theorem modeChangeStop_rta (d : Device) : (modeChangeStop d).rta = d.rta := by
  simp only [modeChangeStop]; split <;> simp
@[simp] theorem modeChangeStop_bc (d : Device) : (modeChangeStop d).bc = d.bc := by
  simp only [modeChangeStop]; split <;> simp
@[simp] theorem modeChangeStop_se (d : Device) : (modeChangeStop d).se = d.se := by
  simp only [modeChangeStop]; split <;> simp
@[simp] theorem modeChangeStop_mc (d : Device) : (modeChangeStop d).mc = d.mc := by
  simp only [modeChangeStop]; split <;> simp
@[simp] theorem modeChangeStop_cs (d : Device) : (modeChangeStop d).cs = d.cs := by
  simp only [modeChangeStop]; split <;> simp

@[simp] theorem stall_now (d : Device) : (stall d).now = d.now := by
  simp [stall]
@[simp] theorem stall_draws (d : Device) : (stall d).draws = d.draws := by
  simp [stall]
@[simp] theorem stall_tbl (d : Device) : (stall d).tbl = d.tbl := by
  simp [stall]
@[simp] theorem stall_rau (d : Device) : (stall d).rau = d.rau := by
  simp [stall]
@[simp] theorem stall_rta (d : Device) : (stall d).rta = d.rta := by
  simp [stall]
@[simp] theorem stall_bc (d : Device) : (stall d).bc = d.bc := by
  simp [stall]
@[simp] theorem stall_se (d : Device) : (stall d).se = d.se := by
  simp [stall]
@[simp] theorem stall_mc (d : Device) : (stall d).mc = d.mc := by
  simp [stall]
@[simp] theorem stall_cs (d : Device) : (stall d).cs = d.cs := by
  simp [stall]

@[simp] theorem loseEnginePeer_now (d : Device) : (loseEnginePeer d).now = d.now := by
  simp only [loseEnginePeer]; split <;> simp
@[simp] theorem loseEnginePeer_draws (d : Device) : (loseEnginePeer d).draws = d.draws := by
  simp only [loseEnginePeer]; split <;> simp
@[simp] theorem loseEnginePeer_tbl (d : Device) : (loseEnginePeer d).tbl = d.tbl := by
  simp only [loseEnginePeer]; split <;> simp
@[simp] theorem loseEnginePeer_rau (d : Device) : (loseEnginePeer d).rau = d.rau := by
  simp only [loseEnginePeer]; split <;> simp
@[simp] theorem loseEnginePeer_rta (d : Device) : (loseEnginePeer d).rta = d.rta := by
  simp only [loseEnginePeer]; split <;> simp
@[simp] theorem loseEnginePeer_bc (d : Device) : (loseEnginePeer d).bc = d.bc := by
  simp only [loseEnginePeer]; split <;> simp
@[simp] theorem loseEnginePeer_se (d : Device) : (loseEnginePeer d).se = d.se := by
  simp only [loseEnginePeer]; split <;> simp
@[simp] theorem loseEnginePeer_mc (d : Device) : (loseEnginePeer d).mc = d.mc := by
  simp only [loseEnginePeer]; split <;> simp
@[simp] theorem loseEnginePeer_cs (d : Device) : (loseEnginePeer d).cs = d.cs := by
  simp only [loseEnginePeer]; split <;> simp

@[simp] theorem evaluate_now (h : Handed) (d : Device) : (evaluate h d).now = d.now := by
  simp only [evaluate, evaluateOff, takeSetpoint]; repeat' split
  all_goals simp
@[simp] theorem evaluate_draws (h : Handed) (d : Device) : (evaluate h d).draws = d.draws := by
  simp only [evaluate, evaluateOff, takeSetpoint]; repeat' split
  all_goals simp
@[simp] theorem evaluate_tbl (h : Handed) (d : Device) : (evaluate h d).tbl = d.tbl := by
  simp only [evaluate, evaluateOff, takeSetpoint]; repeat' split
  all_goals simp
@[simp] theorem evaluate_rau (h : Handed) (d : Device) : (evaluate h d).rau = d.rau := by
  simp only [evaluate, evaluateOff, takeSetpoint]; repeat' split
  all_goals simp
@[simp] theorem evaluate_rta (h : Handed) (d : Device) : (evaluate h d).rta = d.rta := by
  simp only [evaluate, evaluateOff, takeSetpoint]; repeat' split
  all_goals simp
@[simp] theorem evaluate_bc (h : Handed) (d : Device) : (evaluate h d).bc = d.bc := by
  simp only [evaluate, evaluateOff, takeSetpoint]; repeat' split
  all_goals simp
@[simp] theorem evaluate_se (h : Handed) (d : Device) : (evaluate h d).se = d.se := by
  simp only [evaluate, evaluateOff, takeSetpoint]; repeat' split
  all_goals simp
@[simp] theorem evaluate_mc (h : Handed) (d : Device) : (evaluate h d).mc = d.mc := by
  simp only [evaluate, evaluateOff, takeSetpoint]; repeat' split
  all_goals simp
@[simp] theorem evaluate_cs (h : Handed) (d : Device) : (evaluate h d).cs = d.cs := by
  simp only [evaluate, evaluateOff, takeSetpoint]; repeat' split
  all_goals simp

@[simp] theorem takeReport_now (x : Byte) (e : EngineState) (d : Device) : (takeReport x e d).now = d.now := by
  simp only [takeReport, actOnReport]; repeat' split
  all_goals simp
@[simp] theorem takeReport_draws (x : Byte) (e : EngineState) (d : Device) : (takeReport x e d).draws = d.draws := by
  simp only [takeReport, actOnReport]; repeat' split
  all_goals simp
@[simp] theorem takeReport_tbl (x : Byte) (e : EngineState) (d : Device) : (takeReport x e d).tbl = d.tbl := by
  simp only [takeReport, actOnReport]; repeat' split
  all_goals simp
@[simp] theorem takeReport_rau (x : Byte) (e : EngineState) (d : Device) : (takeReport x e d).rau = d.rau := by
  simp only [takeReport, actOnReport]; repeat' split
  all_goals simp
@[simp] theorem takeReport_rta (x : Byte) (e : EngineState) (d : Device) : (takeReport x e d).rta = d.rta := by
  simp only [takeReport, actOnReport]; repeat' split
  all_goals simp
@[simp] theorem takeReport_bc (x : Byte) (e : EngineState) (d : Device) : (takeReport x e d).bc = d.bc := by
  simp only [takeReport, actOnReport]; repeat' split
  all_goals simp
@[simp] theorem takeReport_se (x : Byte) (e : EngineState) (d : Device) : (takeReport x e d).se = d.se := by
  simp only [takeReport, actOnReport]; repeat' split
  all_goals simp
@[simp] theorem takeReport_mc (x : Byte) (e : EngineState) (d : Device) : (takeReport x e d).mc = d.mc := by
  simp only [takeReport, actOnReport]; repeat' split
  all_goals simp
@[simp] theorem takeReport_cs (x : Byte) (e : EngineState) (d : Device) : (takeReport x e d).cs = d.cs := by
  simp only [takeReport, actOnReport]; repeat' split
  all_goals simp

end Sys2Proof.Machine
end

