-- ==== Sys2Proof/Laws/Table.lean ====
section
/-! SUPPORT. The Allotment Table read after it is written, and what ending records does, said once. -/

namespace Sys2Proof.Machine

/-! ## Vectors rebuilt place by place -/

@[simp] theorem vmap_get {α β : Type} {n : Nat} (f : Fin n → α → β) (v : Vector α n) (i : Nat) (h : i < n) :
    (vmap f v)[i] = f ⟨i, h⟩ v[i] := by
  simp [vmap]

/-! ## Slots, buffers and timers: read after write -/

@[simp] theorem Device.slot_setSlot_same (d : Device) (i : SlotNo) (x : Slot) : (d.setSlot i x).slot i = x := by
  simp [Device.slot]

theorem Device.slot_setSlot_other (d : Device) {i j : SlotNo} (x : Slot) (h : j ≠ i) :
    (d.setSlot i x).slot j = d.slot j := by
  have : (i : Nat) ≠ j := fun e => h (Fin.ext e.symm)
  simp [Device.slot, this]

@[simp] theorem Device.slot_setBuffer (d : Device) (b : BankNo) (x : Option EditBuffer) (i : SlotNo) :
    (d.setBuffer b x).slot i = d.slot i := rfl

@[simp] theorem Device.slot_setRta (d : Device) (j : SlotNo) (x : RenewalEntry) (i : SlotNo) :
    (d.setRta j x).slot i = d.slot i := rfl

@[simp] theorem Device.buffer_setBuffer_same (d : Device) (b : BankNo) (x : Option EditBuffer) :
    (d.setBuffer b x).buffer b = x := by
  simp [Device.buffer]

theorem Device.buffer_setBuffer_other (d : Device) {b c : BankNo} (x : Option EditBuffer) (h : c ≠ b) :
    (d.setBuffer b x).buffer c = d.buffer c := by
  have : (b : Nat) ≠ c := fun e => h (Fin.ext e.symm)
  simp [Device.buffer, this]

@[simp] theorem Device.buffer_setSlot (d : Device) (i : SlotNo) (x : Slot) (b : BankNo) :
    (d.setSlot i x).buffer b = d.buffer b := rfl

@[simp] theorem Device.buffer_setRta (d : Device) (i : SlotNo) (x : RenewalEntry) (b : BankNo) :
    (d.setRta i x).buffer b = d.buffer b := rfl

@[simp] theorem Device.rtaOf_setRta_same (d : Device) (i : SlotNo) (x : RenewalEntry) : (d.setRta i x).rtaOf i = x := by
  simp [Device.rtaOf]

theorem Device.rtaOf_setRta_other (d : Device) {i j : SlotNo} (x : RenewalEntry) (h : j ≠ i) :
    (d.setRta i x).rtaOf j = d.rtaOf j := by
  have : (i : Nat) ≠ j := fun e => h (Fin.ext e.symm)
  simp [Device.rtaOf, this]

@[simp] theorem Device.rtaOf_setSlot (d : Device) (j : SlotNo) (x : Slot) (i : SlotNo) :
    (d.setSlot j x).rtaOf i = d.rtaOf i := rfl

@[simp] theorem Device.rtaOf_setBuffer (d : Device) (b : BankNo) (x : Option EditBuffer) (i : SlotNo) :
    (d.setBuffer b x).rtaOf i = d.rtaOf i := rfl

/-- The generation is kept when a slot's content alone changes (R6). -/
@[simp] theorem Device.slot_setContent_same (d : Device) (i : SlotNo) (c : Content) :
    (d.setContent i c).slot i = { d.slot i with content := c } := by
  simp [Device.setContent]

theorem Device.slot_setContent_other (d : Device) {i j : SlotNo} (c : Content) (h : j ≠ i) :
    (d.setContent i c).slot j = d.slot j := d.slot_setSlot_other _ h

/-! ## Slots becoming FREE -/

/-- Each slot of `which` is FREE with its generation kept, every other slot is as it was (R46). -/
theorem freeSlots_slot (which : SlotNo → Bool) (d : Device) (i : SlotNo) :
    (freeSlots which d).slot i = if which i then { d.slot i with content := .free } else d.slot i := by
  simp [freeSlots, Device.slot]

/-- A buffer stays as it was, unless it was open for a slot of `which`: then it is closed. -/
theorem freeSlots_buffer (which : SlotNo → Bool) (d : Device) (b : BankNo) :
    (freeSlots which d).buffer b = (d.buffer b).filter fun e => !which e.slot := by
  simp [freeSlots, Device.buffer, closeBuffers]

/-- Each slot of `which` has its timer stopped and its lapse count 0, every other entry is as it was (R48). -/
theorem freeSlots_rtaOf (which : SlotNo → Bool) (d : Device) (i : SlotNo) :
    (freeSlots which d).rtaOf i = if which i then { d.rtaOf i with timer := .stopped, lapse := 0 } else d.rtaOf i := by
  simp [freeSlots, Device.rtaOf]

/-! Freeing slots touches the table, the renewal entries and the award state alone. -/

@[simp] theorem freeSlots_now (which : SlotNo → Bool) (d : Device) : (freeSlots which d).now = d.now := by simp only [freeSlots]
@[simp] theorem freeSlots_draws (which : SlotNo → Bool) (d : Device) : (freeSlots which d).draws = d.draws := by simp only [freeSlots]
@[simp] theorem freeSlots_rau (which : SlotNo → Bool) (d : Device) : (freeSlots which d).rau = d.rau := by simp only [freeSlots]
@[simp] theorem freeSlots_bc (which : SlotNo → Bool) (d : Device) : (freeSlots which d).bc = d.bc := by simp only [freeSlots]
@[simp] theorem freeSlots_se (which : SlotNo → Bool) (d : Device) : (freeSlots which d).se = d.se := by simp only [freeSlots]
@[simp] theorem freeSlots_gs (which : SlotNo → Bool) (d : Device) : (freeSlots which d).gs = d.gs := by simp only [freeSlots]
@[simp] theorem freeSlots_mc (which : SlotNo → Bool) (d : Device) : (freeSlots which d).mc = d.mc := by simp only [freeSlots]
@[simp] theorem freeSlots_sl (which : SlotNo → Bool) (d : Device) : (freeSlots which d).sl = d.sl := by simp only [freeSlots]
@[simp] theorem freeSlots_cs (which : SlotNo → Bool) (d : Device) : (freeSlots which d).cs = d.cs := by simp only [freeSlots]

/-! ## Records entering RETIRING -/

/-- Each slot of `which` has its content retired with its generation kept, every other slot is as it was (R46). -/
theorem retireSlots_slot (which : SlotNo → Bool) (d : Device) (i : SlotNo) :
    (retireSlots which d).slot i = if which i then { d.slot i with content := (d.slot i).content.retired } else d.slot i := by
  simp [retireSlots, Device.slot]

theorem retireSlots_buffer (which : SlotNo → Bool) (d : Device) (b : BankNo) :
    (retireSlots which d).buffer b = (d.buffer b).filter fun e => !which e.slot := by
  simp [retireSlots, Device.buffer, closeBuffers]

/-- Each slot of `which` has its timer stopped with the lapse count held (R46). -/
theorem retireSlots_rtaOf (which : SlotNo → Bool) (d : Device) (i : SlotNo) :
    (retireSlots which d).rtaOf i = if which i then { d.rtaOf i with timer := .stopped } else d.rtaOf i := by
  simp [retireSlots, Device.rtaOf]

/-! Retiring slots touches the table and the renewal entries alone. -/

@[simp] theorem retireSlots_now (which : SlotNo → Bool) (d : Device) : (retireSlots which d).now = d.now := by simp only [retireSlots]
@[simp] theorem retireSlots_draws (which : SlotNo → Bool) (d : Device) : (retireSlots which d).draws = d.draws := by simp only [retireSlots]
@[simp] theorem retireSlots_rau (which : SlotNo → Bool) (d : Device) : (retireSlots which d).rau = d.rau := by simp only [retireSlots]
@[simp] theorem retireSlots_bc (which : SlotNo → Bool) (d : Device) : (retireSlots which d).bc = d.bc := by simp only [retireSlots]
@[simp] theorem retireSlots_se (which : SlotNo → Bool) (d : Device) : (retireSlots which d).se = d.se := by simp only [retireSlots]
@[simp] theorem retireSlots_gs (which : SlotNo → Bool) (d : Device) : (retireSlots which d).gs = d.gs := by simp only [retireSlots]
@[simp] theorem retireSlots_mc (which : SlotNo → Bool) (d : Device) : (retireSlots which d).mc = d.mc := by simp only [retireSlots]
@[simp] theorem retireSlots_sl (which : SlotNo → Bool) (d : Device) : (retireSlots which d).sl = d.sl := by simp only [retireSlots]
@[simp] theorem retireSlots_cs (which : SlotNo → Bool) (d : Device) : (retireSlots which d).cs = d.cs := by simp only [retireSlots]
@[simp] theorem retireSlots_vbp (which : SlotNo → Bool) (d : Device) : (retireSlots which d).vbp = d.vbp := by simp only [retireSlots]

/-! ## The one effect of RELEASE, PURGE and the purge sets -/

/-- Each named record by its life state: a DRAFT FREE, a LIVE or STALE record RETIRING (FREE where no passes run), all
else as it was (R43, R47). -/
theorem endRecords_slot (named : SlotNo → Bool) (d : Device) (i : SlotNo) :
    (endRecords named d).slot i =
      if endsFree d named i then { d.slot i with content := .free }
      else if endsRetiring d named i then { d.slot i with content := (d.slot i).content.retired }
      else d.slot i := by
  simp only [endRecords, retireSlots_slot, freeSlots_slot]
  by_cases hf : endsFree d named i <;> by_cases hr : endsRetiring d named i <;> simp [hf, hr]
  simp only [endsFree, endsRetiring, Bool.and_eq_true, Bool.or_eq_true, Bool.not_eq_true'] at hf hr
  cases hc : (d.slot i).content <;> simp_all [Content.isDraft, Content.isUsed]

/-! Ending records touches the table, the renewal entries and the award state alone. -/

@[simp] theorem endRecords_now (named : SlotNo → Bool) (d : Device) : (endRecords named d).now = d.now := by simp [endRecords]
@[simp] theorem endRecords_draws (named : SlotNo → Bool) (d : Device) : (endRecords named d).draws = d.draws := by simp [endRecords]
@[simp] theorem endRecords_rau (named : SlotNo → Bool) (d : Device) : (endRecords named d).rau = d.rau := by simp [endRecords]
@[simp] theorem endRecords_bc (named : SlotNo → Bool) (d : Device) : (endRecords named d).bc = d.bc := by simp [endRecords]
@[simp] theorem endRecords_se (named : SlotNo → Bool) (d : Device) : (endRecords named d).se = d.se := by simp [endRecords]
@[simp] theorem endRecords_gs (named : SlotNo → Bool) (d : Device) : (endRecords named d).gs = d.gs := by simp [endRecords]
@[simp] theorem endRecords_mc (named : SlotNo → Bool) (d : Device) : (endRecords named d).mc = d.mc := by simp [endRecords]
@[simp] theorem endRecords_sl (named : SlotNo → Bool) (d : Device) : (endRecords named d).sl = d.sl := by simp [endRecords]
@[simp] theorem endRecords_cs (named : SlotNo → Bool) (d : Device) : (endRecords named d).cs = d.cs := by simp [endRecords]

end Sys2Proof.Machine
end

