-- ==== Sys2Proof/Laws/Requests.lean ====
section
/-! SUPPORT. What the Record Access Unit's shared operations can do, said once. -/

namespace Sys2Proof.Machine

/-! ## The common checks (R28) -/

/-- A handle accepted designates a record: its slot number is in range, the slot is not FREE, the generations agree
(R7). -/
theorem checkHandle_ok {slot gen : Byte} {d : Device} {i : SlotNo} (h : checkHandle slot gen d = .ok i) :
    slot.toNat = i.val ∧ (d.slot i).content.isFree = false ∧ (d.slot i).generation = gen := by
  unfold checkHandle at h
  split at h
  · split at h
    · cases h
    · rename_i hs hf
      simp at h hf
      subst h
      exact ⟨rfl, hf.1, hf.2⟩
  · cases h

/-- A handle accepted for an owner designates a record of that owner. -/
theorem checkOwned_ok {who : Nat} {slot gen : Byte} {d : Device} {i : SlotNo} (h : checkOwned who slot gen d = .ok i) :
    checkHandle slot gen d = .ok i ∧ (d.slot i).content.owner? = some who := by
  unfold checkOwned at h
  split at h
  · cases h
  · split at h
    · rename_i hc ho
      simp at h
      subst h
      exact ⟨hc, ho⟩
    · cases h

/-! ## Taking a record request (R24 to R29) -/

/-- Where no request of the row is offered, nothing happens. -/
theorem takeRecord_none (row : RauRow) (act : Offer → Device → Device × RauReply) (d : Device)
    (h : ∀ o ∈ rauOffer d, o.row ≠ row) : takeRecord row act d = d := by
  unfold takeRecord
  split
  · rfl
  · rename_i o ho
    simp [h o (by simp [ho])]

/-- The request offered is of the row: it is refused for want of enrolment, or for its length, or its own act decides;
in each case one reply is placed. -/
theorem takeRecord_some (row : RauRow) (act : Offer → Device → Device × RauReply) (d : Device) (o : Offer)
    (ho : rauOffer d = some o) (hr : o.row = row) :
    takeRecord row act d =
      if o.port = .bus && !(consume o d).enrolled o.who then answer o (refusal o .notEnrolled (consume o d)) (consume o d)
      else if o.req = .short then answer o (refusal o .badRequest (consume o d)) (consume o d)
      else answer o (act o (consume o d)).2 (act o (consume o d)).1 := by
  simp [takeRecord, ho, hr]

/-- A refusal carries the code it was made with, and at most the four CAN bytes that its row's reply has after the
result. -/
theorem refusal_carries (o : Offer) (r : Result) (d : Device) :
    (refusal o r d).result = r ∧ ((refusal o r d).bus = [] ∨ (refusal o r d).bus = openItems o.row d) ∧
      (openItems o.row d).length ≤ 4 := by
  refine ⟨?_, ?_, by cases o.row <;> simp [openItems, openBus]⟩ <;>
    (unfold refusal; split <;> simp [RauReply.plain])

/-- Taking a frame from its port leaves the table as it is. -/
@[simp] theorem consume_tbl (o : Offer) (d : Device) : (consume o d).tbl = d.tbl := by
  unfold consume; cases o.port <;> rfl

@[simp] theorem consume_rta (o : Offer) (d : Device) : (consume o d).rta = d.rta := by
  unfold consume; cases o.port <;> rfl

@[simp] theorem consume_mc (o : Offer) (d : Device) : (consume o d).mc = d.mc := by
  unfold consume; cases o.port <;> rfl

@[simp] theorem consume_gs (o : Offer) (d : Device) : (consume o d).gs = d.gs := by
  unfold consume; cases o.port <;> rfl

@[simp] theorem consume_cs (o : Offer) (d : Device) : (consume o d).cs = d.cs := by
  unfold consume; cases o.port <;> rfl

@[simp] theorem consume_se (o : Offer) (d : Device) : (consume o d).se = d.se := by
  unfold consume; cases o.port <;> rfl

@[simp] theorem consume_bc (o : Offer) (d : Device) : (consume o d).bc = d.bc := by
  unfold consume; cases o.port <;> rfl

@[simp] theorem consume_roster (o : Offer) (d : Device) : (consume o d).vbp.roster = d.vbp.roster := by
  unfold consume; cases o.port <;> rfl

@[simp] theorem consume_rau (o : Offer) (d : Device) : (consume o d).rau = { d.rau with turn := o.port.other } := by
  unfold consume; cases o.port <;> rfl

/-- An answer leaves the table as it is. -/
@[simp] theorem answer_tbl (o : Offer) (r : RauReply) (d : Device) : (answer o r d).tbl = d.tbl := by
  unfold answer; cases o.port <;> simp only [placeReply, handFrame] <;> split <;> rfl

@[simp] theorem answer_rta (o : Offer) (r : RauReply) (d : Device) : (answer o r d).rta = d.rta := by
  unfold answer; cases o.port <;> simp only [placeReply, handFrame] <;> split <;> rfl

@[simp] theorem answer_rau (o : Offer) (r : RauReply) (d : Device) : (answer o r d).rau = d.rau := by
  unfold answer; cases o.port <;> simp only [placeReply, handFrame] <;> split <;> rfl

@[simp] theorem answer_mc (o : Offer) (r : RauReply) (d : Device) : (answer o r d).mc = d.mc := by
  unfold answer; cases o.port <;> simp only [placeReply, handFrame] <;> split <;> rfl

@[simp] theorem answer_gs (o : Offer) (r : RauReply) (d : Device) : (answer o r d).gs = d.gs := by
  unfold answer; cases o.port <;> simp only [placeReply, handFrame] <;> split <;> rfl

@[simp] theorem answer_cs (o : Offer) (r : RauReply) (d : Device) : (answer o r d).cs = d.cs := by
  unfold answer; cases o.port <;> simp only [placeReply, handFrame] <;> split <;> rfl

@[simp] theorem answer_se (o : Offer) (r : RauReply) (d : Device) : (answer o r d).se = d.se := by
  unfold answer; cases o.port <;> simp only [placeReply, handFrame] <;> split <;> rfl

@[simp] theorem answer_bc (o : Offer) (r : RauReply) (d : Device) : (answer o r d).bc = d.bc := by
  unfold answer; cases o.port <;> simp only [placeReply, handFrame] <;> split <;> rfl

end Sys2Proof.Machine
end

