-- ==== Sys2Proof/Tests/Slice0.lean ====
section
/-! SUPPORT. Tests: ill-formed commands refused by WellFormed, single commands on small states with results from the
manual's worked examples and tables, and for every statement with hypotheses a state and operands that meet them. -/

namespace Sys2Proof.Tests

open Sys2Proof.Machine

-- The kernel decides these one after the other: side by side they would ask for a thread each.
set_option Elab.async false

/-! ## Well-formed commands -/

theorem test_node_zero_refused : (Instr.silenceExpiry 0).wellFormed = false := by decide
theorem test_node_31_refused : (Instr.peerDeclaredLost 31).wellFormed = false := by decide
theorem test_purge_node_31_refused : (Instr.peerLossPurgeSet 31).wellFormed = false := by decide
theorem test_bank_4_refused : (Instr.editTimerExpiry 4).wellFormed = false := by decide
theorem test_slot_48_refused : (Instr.renewalExpiry 48).wellFormed = false := by decide
theorem test_wide_ident_refused :
    (Instr.frameReceived { ident := 2048, extended := false, remote := false, data := [] }).wellFormed = false := by decide
theorem test_wide_extended_ident_refused :
    (Instr.frameReceived { ident := 2 ^ 29, extended := true, remote := false, data := [] }).wellFormed = false := by decide
theorem test_nine_bytes_refused :
    (Instr.frameReceived { ident := 1, extended := false, remote := false, data := List.replicate 9 0 }).wellFormed =
      false := by decide
theorem test_remote_data_refused :
    (Instr.frameReceived { ident := 1, extended := false, remote := true, data := [0] }).wellFormed = false := by decide
theorem test_well_formed_commands :
    [Instr.silenceExpiry 30, .peerLossPurgeSet 1, .peerDeclaredLost 30, .editTimerExpiry 3, .renewalExpiry 47, .claim,
      .frameReceived { ident := 2047, extended := false, remote := false, data := List.replicate 8 0 }].all
      (·.wellFormed) = true := by decide

/-! ## Small states -/

/-- The device after a command. -/
def after (c : Instr) (d : Device) : Device :=
  match exec c { dev := d, pending := [] } with
  | .next t => t.dev
  | _ => d

def at' (d : Device) : State := { dev := d, pending := [] }

/-- In STANDBY after reset, with an ACTIVE controller. -/
def standby : Device :=
  let d := State.reset.dev
  d.withVbp { d.vbp with ctrl := .active }

/-- In DRIVE with the configuration valid, nothing in the table. -/
def drive : Device :=
  let d := standby.withCs { standby.cs with valid := true }
  (d.withMc { d.mc with mode := .drive, key := true, rawKey := true }).withSe { d.se with timer := .running 10 }

/-- In PARK, nothing in the table. -/
def park : Device := (drive.withMc { drive.mc with mode := .park, key := false, rawKey := false })

/-- In SLEEP. -/
def asleep : Device :=
  let d := (park.withMc { park.mc with mode := .sleep }).withSe .cleared
  d.withVbp { d.vbp with ctrl := .listening }

/-- A request at the head of the Request FIFO. -/
def frame (k : ReqKind) (p : List Byte) : SpiRequest := { kind := k.code, tag := 7, payload := p }

def asked (k : ReqKind) (p : List Byte) (d : Device) : Device := d.withSl { d.sl with requests := [frame k p] }

/-- A frame of a node in the receive buffer. -/
def heard (n : Nat) (p : List Byte) (d : Device) : Device := d.withVbp { d.vbp with rx := [{ node := n, data := p }] }

def peer (n : Nat) (r : Role) : RosterEntry := { node := n, role := r, state := .joined, timeout := 500, silence := 0 }

def enrolled (l : List RosterEntry) (d : Device) : Device := d.withVbp { d.vbp with roster := l }

/-- Peers 1 (ENGINE), 2 (BATTERY) and 6 (BODY). -/
def peers (d : Device) : Device := enrolled [peer 1 .engine, peer 2 .battery, peer 6 .body] d

/-- A LOAD record. -/
def load (owner : Nat) (label : Byte) (tier : Nat) (request : Power) (floor : Option Power) (steps : List Power)
    (parkCapable : Bool) (a : Answer) : Record :=
  { ident := { cls := .load, owner := owner, label := label },
    image := { period := 10, tolerance := 3, body := .load {
      request := some request, floor := floor, tier := tier, parkCapable := parkCapable,
      steps := { count := steps.length, places := Vector.ofFn fun i => steps.getD i.val 1 } } },
    answer := some a }

def none0 : Answer := { grant := 0, reason := .none }

def bound (owner : Nat) (label : Byte) (q : BoundQty) (v : Int) : Record :=
  { ident := { cls := .bound q, owner := owner, label := label },
    image := { period := 10, tolerance := 3, body := .bound (some v) none }, answer := none }

def soc (owner : Nat) (label : Byte) (v : Int) : Record :=
  { ident := { cls := .measure .soc, owner := owner, label := label },
    image := { period := 10, tolerance := 3, body := .measure (some v) }, answer := none }

def demand (v : Int) : Record :=
  { ident := { cls := .demand, owner := 0, label := 9 }, image := { period := 0, tolerance := 3, body := .demand v },
    answer := none }

/-- Slots that hold what the list gives them, of generation 1; the others FREE. -/
def slotsOf (l : List (Nat × Content)) : Vector Slot 48 :=
  Vector.ofFn fun i =>
    match l.find? fun p => p.1 = i.val with
    | some p => { generation := 1, content := p.2 }
    | none => .cleared

def holding (l : List (Nat × Content)) (d : Device) : Device := d.withTbl { d.tbl with slots := slotsOf l }

/-- The refrigerated body of node 6 at slot 14: request 3.0, floor 2.2, steps 2.2 and 3.0. -/
def fridge (a : Answer) : Record := load 6 2 1 30 (some 22) [22, 30] true a

/-- An Edit Buffer open for a slot. -/
def editing (b : BankNo) (i : SlotNo) (img : Image) (m : Marks) (d : Device) : Device :=
  d.setBuffer b (some { slot := i, image := img, marks := m, timer := 40 })

/-- A LOAD DRAFT of the supervisor at slot 3, with its buffer. -/
def drafting (img : Image) (d : Device) : Device :=
  editing 0 3 img .clear (holding [(3, .draft { cls := .load, owner := 0, label := 5 } 1)] d)

/-- A DRAFT's image with a request and steps as given. -/
def draftImage (q : Option Power) : Image :=
  { period := 0, tolerance := 3,
    body := .load { request := q, floor := none, tier := 1, parkCapable := false, steps := .default } }

/-! ## Flags and operand forms -/

/-- R162: the check value of the CRC over "123456789" is 0xDF. -/
theorem test_crc_check_value : crc8 [0x31, 0x32, 0x33, 0x34, 0x35, 0x36, 0x37, 0x38, 0x39] = 0xDF := by decide +kernel

/-! ## The split pass: the worked figures of chapter 5 -/

/-- The records of case A, with the demand and the state of charge as given. -/
def caseSlots (dem s : Int) : List (Nat × Content) :=
  [(0, .live (demand dem)), (3, .live (load 0 3 0 25 none [] true none0)), (14, .live (fridge none0)),
   (15, .live (load 6 3 2 45 none [15, 30, 45] false none0)), (24, .live (bound 1 1 (.power .genMax) 300)),
   (25, .live (bound 2 5 (.power .motorDrive) 900)), (26, .live (bound 2 6 (.power .motorRegen) 400)),
   (27, .live (load 6 4 1 0 none [] true none0)), (28, .live (load 6 5 3 20 none [] false none0)),
   (36, .live (bound 2 1 (.power .battDis) 600)), (37, .live (bound 2 2 (.power .battChg) 350)),
   (38, .live (soc 2 3 s))]

def snapshot (l : List (Nat × Content)) (g : GensetState) : Snapshot :=
  { slots := slotsOf l, genset := g, mode := .drive, demandImage := 0, cfg := drive.cs }

def figures (l : List (Nat × Content)) (g : GensetState) : Figures :=
  (computePass (snapshot l g) (combine (snapshot l g))).fig

/-- Worked case A: N 82.0, Pp −3.0, L 22.0, U 30.0, Gset 28.0, Pb 54.0, no flag. -/
theorem test_case_a :
    let f := figures (caseSlots 700 585) .running
    [f.tg, f.n, f.pp, f.l, f.u, f.gset, f.pb] = [700, 820, -30, 220, 300, 280, 540] ∧
      (f.tractionCut || f.offpoint || f.regenCutFlag || f.tier0Short) = false := by decide +kernel

/-- Worked case C: Tg 72.5, N 75.0, Gset 15.0 with OFFPOINT, Pb 60.0, TRACTION_CUT. -/
theorem test_case_c :
    let f := figures (caseSlots 850 585) .warmup
    [f.tg, f.n, f.gset, f.pb] = [725, 750, 150, 600] ∧ f.tractionCut = true ∧ f.offpoint = true ∧
      f.tier0Short = false := by decide +kernel

/-- The records of case D: braking with the genset OFF. -/
def brakingSlots : List (Nat × Content) :=
  [(0, .live (demand (-450))), (3, .live (load 0 3 0 25 none [] true none0)),
   (16, .live (load 6 3 2 5 none [] false none0)), (25, .live (bound 2 5 (.power .motorDrive) 900)),
   (26, .live (bound 2 6 (.power .motorRegen) 400)), (36, .live (bound 2 1 (.power .battDis) 600)),
   (37, .live (bound 2 2 (.power .battChg) 350)), (38, .live (soc 2 3 700))]

/-- Worked case D: Tm −40.0, Tg −38.0, regen cut 2.0, N −35.0, Gset 0.0, Pb −35.0, REGEN_CUT. -/
theorem test_case_d :
    let f := figures brakingSlots .off
    [f.tm, f.tg, f.regenCut, f.n, f.pp, f.gset, f.pb] = [-400, -380, 20, -350, 200, 0, -350] ∧
      f.regenCutFlag = true := by decide +kernel

/-- The tier at the margin of chapter 5: slots 12, 14, 20 and 31 entered with 3.0. -/
def marginTier : List LoadClaim :=
  [{ slot := 12, tier := 1, request := 40, floor := 35, steps := [] },
   { slot := 14, tier := 1, request := 30, floor := 22, steps := [22, 30] },
   { slot := 20, tier := 1, request := 0, floor := 15, steps := [] },
   { slot := 31, tier := 1, request := 10, floor := 0, steps := [] }]

theorem test_margin_tier : (tierGrants 30 marginTier).map (·.2) = [0, 22, 0, 4] := by decide

/-- Worked case B: 3.0 and 0.7 of 4.0. -/
theorem test_case_b :
    (tierGrants 40
      [{ slot := 15, tier := 2, request := 45, floor := 0, steps := [15, 30, 45] },
       { slot := 16, tier := 2, request := 10, floor := 0, steps := [] }]).map (·.2) = [30, 7] := by decide

/-- R100's table, second row: 20.0 and 28.0 are equally near to 24.0, and the lower is taken. -/
theorem test_setpoint_tie :
    chooseSetpoint (snapshot [] .running) 300 0 300 240 = (200, false) := by decide

/-- R100's table, last row: no admissible point in the band. -/
theorem test_setpoint_offpoint :
    chooseSetpoint (snapshot [] .running) 300 130 190 170 = (170, true) := by decide

/-! ## Commands -/

/-- Worked sequence 11.4: the CLAIM of a LOAD of tier 1 by node 4 from home bank 2 is given the lowest FREE slot there. -/
theorem test_claim_home_bank :
    let d := after .claim (heard 4 [1, 0, 0, 1, 0, 1] (enrolled [peer 4 .body] drive))
    (d.slot 24).content.isDraft = true ∧ (d.slot 24).generation = 1 ∧ d.vbp.rx = [] := by decide +kernel

/-- R47, R30: in STANDBY a CLAIM is answered NOT_NOW. -/
theorem test_claim_standby_not_now :
    ((after .claim (asked .claim [1, 5, 0] standby)).sl.replies.map (·.result)) = [0x0A] := by decide +kernel

/-- R11, R34: a tier of 9 is stored as 3 and answered CLAMPED. -/
theorem test_amend_clamps :
    let d := after .amend (asked .amend [3, 1, 0, 0x22, 0, 9] (drafting (draftImage none) drive))
    ((d.buffer 0).map (·.image.tier)) = some 3 ∧ d.sl.replies.map (·.result) = [0x01] ∧
      d.sl.replies.map (·.payload) = [[3, 1, 1]] := by decide +kernel

/-- R36, R37: a COMMIT of a LOAD without a request is answered BAD_FIELDS naming field 0x20. -/
theorem test_commit_missing_request :
    let d := after .commit (asked .commit [3, 1] (drafting (draftImage none) drive))
    d.sl.replies.map (·.result) = [0x08] ∧ d.sl.replies.map (·.payload) = [[3, 1, 0x20]] ∧
      (d.buffer 0).map (·.timer) = some 100 := by decide +kernel

/-- Worked sequence 11.4: an AMEND with commit flag makes the record LIVE with the answer 0.0 NONE. -/
theorem test_amend_commit_live :
    let d := after .amendCommit (asked .amend [3, 1, 1, 0x23, 0, 1] (drafting (draftImage (some 40)) drive))
    (d.slot 3).content.lifeCode = 2 ∧ (d.slot 3).content.record?.map (·.answer) = some (some none0) ∧
      (d.buffer 0).isNone = true := by decide +kernel

/-- R60: a RENEW with a value above 0 and below the floor stores the floor, and is answered CLAMPED. -/
theorem test_renew_below_floor :
    let d := after .renewWithValue
      (heard 6 [4, 14, 1, 1, 0, 10] (peers (holding [(14, .stale (fridge none0))] drive)))
    (d.slot 14).content.lifeCode = 2 ∧ (d.slot 14).content.record?.map (·.image.primary) = some (some 22) ∧
      d.vbp.tx.replies.map (·.body) = [.reply [0x84, 14, 1, 1, 0, 1, 0, 22]] := by decide +kernel

/-- R28: a RENEW of another owner's record is answered NOT_OWNER. -/
theorem test_renew_not_owner :
    (after .renew (heard 2 [4, 14, 1, 0, 0, 0] (peers (holding [(14, .live (fridge none0))] drive)))).vbp.tx.replies.map
      (fun f => f.body.data.getD 3 0) = [0x06] := by decide +kernel

/-- R28, R29: a RENEW frame one byte short is answered BAD_REQUEST, its bytes 4 to 7 left open (log 6). -/
theorem test_renew_too_short :
    (after .renew (heard 6 [4, 14, 1, 1, 0] (peers drive))).vbp.tx.replies.map
      (fun f => (f.body.data.take 4, f.body.data.length)) = [([0x84, 0, 0, 0x09], 8)] := by decide +kernel

/-- "A release during a pass": the record goes RETIRING with a clear mark. -/
theorem test_release_retires :
    let d := after .release (heard 6 [5, 14, 1] (peers (holding [(14, .live (fridge none0))] drive)))
    (d.slot 14).content.lifeCode = 4 ∧ (d.slot 14).content.isMarked = false ∧ d.rau.turn = .link := by decide +kernel

/-- R44: a peer's PURGE is answered BAD_REQUEST. -/
theorem test_purge_from_peer :
    let d := after .purge (heard 6 [8, 14, 1] (peers (holding [(14, .live (fridge none0))] drive)))
    (d.slot 14).content.lifeCode = 2 ∧ d.vbp.tx.replies.map (fun f => f.body.data.getD 3 0) = [0x09] := by decide +kernel

/-- R19, R173: the CAN reading of slot 14: LIVE, kind LOAD, owner 6, label 2, tier 1. -/
theorem test_query_reads :
    (after .query (heard 6 [6, 14, 0, 0] (peers (holding [(14, .live (fridge none0))] drive)))).vbp.tx.replies.map
      (·.body) = [.reply [0x86, 14, 1, 0, 0x12, 6, 2, 1]] := by decide +kernel

/-- R20: the floor of slot 14, present, with a step count of 2. -/
theorem test_query_field_reads :
    (after .queryField (asked .query [14, 0x21] (holding [(14, .live (fridge none0))] drive))).sl.replies.map
      (·.payload) = [[2, 1, 0, 1, 2, 0, 22]] := by decide +kernel

/-- R21: the handle of label 2 of node 6. -/
theorem test_lookup_finds :
    (after .lookup (asked .lookup [6, 2] (holding [(14, .live (fridge none0))] drive))).sl.replies.map
      (·.payload) = [[14, 1, 2]] := by decide +kernel

/-- R28: a frame of unknown kind from a node that is not enrolled is answered NOT_ENROLLED. -/
theorem test_unknown_not_enrolled :
    (after .unknownKindRecordRequest (heard 9 [0x2A] drive)).vbp.tx.replies.map (fun f => f.body.data.getD 3 0) =
      [0x0B] := by decide +kernel

/-- R175: the park floor is not a live field: NOT_NOW in DRIVE. -/
theorem test_config_write_not_now :
    let d := after .configWrite (asked .configWrite [0x30, 0, 100] drive)
    d.cs.parkFloor = 200 ∧ d.sl.replies.map (·.result) = [0x0A] := by decide +kernel

/-- R174, R175: a reply trigger of 3 becomes the next listed value 6, CLAMPED. -/
theorem test_config_write_listed :
    let d := after .configWrite (asked .configWrite [0x06, 0, 3] drive)
    d.cs.replyTrigger = 6 ∧ d.sl.replies.map (·.payload) = [[0x06, 0, 6]] ∧ d.sl.replies.map (·.result) = [1] := by
  decide +kernel

theorem test_config_read_valid :
    (after .configRead (asked .configRead [0] drive)).sl.replies.map (·.payload) = [[0, 0, 1]] := by decide +kernel

/-- R176: equal operating points fail the second check, which names field 0x08. -/
theorem test_config_done_bad_points :
    let d := standby.withCs { standby.cs with points := standby.cs.points.set 1 120 }
    (after .configDone (asked .configDone [] d)).sl.replies.map (fun r => (r.result, r.payload)) = [(0x0D, [0x08])] := by
  decide +kernel

/-- R147: the first CONFIG_DONE takes the controller out of IDLE. -/
theorem test_config_done_leaves_idle :
    let d := after .configDone (asked .configDone [] State.reset.dev)
    d.vbp.ctrl = .active ∧ d.cs.valid = true := by decide +kernel

/-- R131: KEY off and no valid configuration: NOT_NOW names both. -/
theorem test_start_drive_both :
    (after .startDrive (asked .startDrive [] standby)).sl.replies.map (fun r => (r.result, r.payload)) =
      [(0x0A, [3])] := by decide +kernel

/-- R131, R173: in PARK NOT_NOW carries mode and genset state. -/
theorem test_start_drive_park :
    (after .startDrive (asked .startDrive [] park)).sl.replies.map (fun r => (r.result, r.payload)) =
      [(0x0A, [2, 0])] := by decide +kernel

/-- R140: a SLEEP request in PARK between passes: SLEEP is entered and OK carries the cause REQUEST. -/
theorem test_sleep_request :
    let d := after .sleep (asked .sleep [] park)
    d.mc.mode = .sleep ∧ d.sl.replies.map (fun r => (r.tag, r.payload)) = [(7, [1])] ∧ d.vbp.ctrl = .listening := by
  decide +kernel

/-- R126: OFF while CRANKING issues STOP and enters OFF. -/
theorem test_force_off_cranking :
    let d := peers drive
    let d := d.withGs { d.gs with state := .cranking, seq := 10, crankTimer := .running 700 }
    let d' := after .forceGenset (asked .forceGenset [2] d)
    d'.gs.state = .off ∧ d'.vbp.tx.orders.map (·.body.data.take 2) = [[0x43, 11]] ∧
      d'.sl.replies.map (·.payload) = [[0, 0, 2]] := by decide +kernel

def lockedOut (d : Device) : Device := d.withGs { d.gs with state := .lockout, crankCount := 3 }

theorem test_clear_lockout :
    let d := after .clearLockout (asked .clearLockout [] (lockedOut drive))
    d.gs.state = .off ∧ d.gs.crankCount = 0 ∧ d.gs.minOff = .running 10000 := by decide +kernel

/-- R168: without a kind the entry of highest priority is read and removed; the mask names the one left. -/
theorem test_notice_read_priority :
    let d := raise .link 0x300 (raise .shortfall 1 drive)
    (after .noticeRead (asked .noticeRead [] d)).sl.replies.map (·.payload) = [[3, 1, 0, 1, 0, 1, 0x40]] := by
  decide +kernel

/-- R22, R79: the Split Result Record is zero before the first pass. -/
theorem test_result_read_zero :
    (after .resultRead (asked .resultRead [] standby)).sl.replies.map (·.payload) = [List.replicate 40 0] := by
  decide +kernel

theorem test_roster_read :
    (after .rosterRead (asked .rosterRead [] (peers drive))).sl.replies.map (·.payload) =
      [[3, 1, 1, 0, 2, 0, 0, 6, 3, 0, 1, 0, 0, 0]] := by decide +kernel

/-- R171: LINK_RESET keeps the notices; its own reply is the only one. -/
theorem test_link_reset :
    let d := asked .linkReset [] (raise .shortfall 1 (placeReply 1 2 0 [] drive))
    (after .linkReset d).sl.replies.map (·.kind) = [ReqKind.linkReset.code] ∧
      ((after .linkReset d).sl.notices.shortfall).isSome = true := by decide +kernel

/-- R159: the order in flight is queued again. -/
theorem test_bus_restart_requeues :
    let d := peers drive
    let d := d.withGs { d.gs with inFlight := some { kind := .stop, seq := 9, resends := 1, timer := 5 } }
    let d' := after .busRestart (asked .busRestart [] d)
    d'.vbp.tx.orders.map (·.body.data.take 2) = [[0x43, 9]] ∧ d'.gs.lastSent = none := by decide +kernel

theorem test_mirror_bad_value :
    (after .mirror (asked .mirror [2] drive)).sl.replies.map (·.result) = [0x09] := by decide +kernel

/-- R170: a frame of any kind comes back in mirror mode. -/
theorem test_mirrored_frame :
    let d := drive.withSl { drive.sl with mirror := true, requests := [{ kind := 0xEE, tag := 3, payload := [1, 2] }] }
    (after .mirroredFrame d).sl.replies.map (fun r => (r.kind, r.payload)) = [(0xEE, [1, 2])] := by decide +kernel

/-- R163: an unknown kind is answered BAD_REQUEST. -/
theorem test_link_bad_request :
    let d := drive.withSl { drive.sl with requests := [{ kind := 0x77, tag := 3, payload := [] }] }
    (after .linkBadRequest d).sl.replies.map (fun r => (r.kind, r.tag, r.result)) = [(0x77, 3, 0x09)] := by decide +kernel

/-- R163, R173: a BUS_RESTART with a payload is answered BAD_REQUEST without one. -/
theorem test_link_bad_request_bare :
    (after .linkBadRequest (asked .busRestart [1] drive)).sl.replies.map (fun r => (r.result, r.payload)) =
      [(0x09, [])] := by decide +kernel

/-- R150: a second node that asks for ENGINE is answered DUPLICATE and not enrolled. -/
theorem test_hello_duplicate_engine :
    let d := after .hello (heard 8 [9, 1] (peers drive))
    d.vbp.roster.map (·.node) = [1, 2, 6] ∧ d.vbp.tx.replies.map (fun f => f.body.data.getD 3 0) = [0x04] := by
  decide +kernel

theorem test_hello_enrols_in_order :
    (after .hello (heard 4 [9, 3] (peers drive))).vbp.roster.map (·.node) = [1, 2, 4, 6] := by decide +kernel

/-- R115: a RUNNING report in CRANKING, coolant below the threshold: WARMUP, count 0. -/
theorem test_report_running :
    let d := peers drive
    let d := d.withGs { d.gs with state := .cranking, crankCount := 2, crankTimer := .running 300 }
    let d' := after .engineReport (heard 1 [0x0A, 0, 2] d)
    d'.gs.state = .warmup ∧ d'.gs.crankCount = 0 ∧ d'.gs.warmTimer = .running 120000 := by decide +kernel

/-- R122: a STALLED report in RUNNING: OFF with GENSET_FAULT, detail STALL. -/
theorem test_report_stall :
    let d := peers drive
    let d := d.withGs { d.gs with state := .running, setpoint := 200 }
    let d' := after .engineReport (heard 1 [0x0A, 0, 3] d)
    d'.gs.state = .off ∧ d'.sl.notices.gensetFault.map (·.last) = some 3 := by decide +kernel

/-- R161: the IDLE reply, no flag set; MISO carries its bytes and 0x00 behind its 6th, and nothing before the fall. -/
theorem test_idle_reply :
    (after .chipSelectFalling drive).sl.presented.map (·.bytes.take 5) = some [0, 0, 0, 0, 0] ∧
      (List.range 8).map (after .chipSelectFalling drive).sl.miso =
        [some 0, some 0, some 0, some 0, some 0, some (crc8 [0, 0, 0, 0, 0]), some 0, some 0] ∧
      drive.sl.miso 0 = none := by decide +kernel

/-- R142: chip select low in SLEEP wakes the device to STANDBY with cause LINK. -/
theorem test_chip_select_wakes :
    let d := after .chipSelectFalling asleep
    d.mc.mode = .standby ∧ d.vbp.tx.modes.map (·.body) = [.mode .standby .link] := by decide +kernel

def selected : Device := after .chipSelectFalling drive

theorem test_good_request_enters :
    (after (.chipSelectRising [0x13, 1, 0, crc8 [0x13, 1, 0]]) selected).sl.requests =
      [{ kind := 0x13, tag := 1, payload := [] }] := by decide +kernel

theorem test_short_request_frame_error :
    (after (.chipSelectRising [0x13, 1]) selected).sl.frameError = true := by decide +kernel

/-- R146: identifier B + 6 is node 6. -/
theorem test_frame_received :
    (after (.frameReceived { ident := 0x106, extended := false, remote := false, data := [5, 14, 1] })
      (peers drive)).vbp.rx.map (·.node) = [6] := by decide +kernel

theorem test_extended_frame_ignored :
    (after (.frameReceived { ident := 0x106, extended := true, remote := false, data := [5] }) (peers drive)).vbp.rx =
      [] := by decide +kernel

def modeFrame : TxFrame := { dest := .broadcast, body := .mode .drive .key }

def replyFrame : TxFrame := { dest := .node 6, body := .reply (List.replicate 8 0) }

def awardFrame : TxFrame := { dest := .node 6, body := .award 14 1 { grant := 22, reason := .shared } }

def queued (q : TxQueue) (d : Device) : Device := d.withVbp { d.vbp with tx := q }

/-- R154: a REPLY goes before a MODE broadcast. -/
theorem test_reply_before_mode :
    (after .transmissionStart (queued { TxQueue.cleared with replies := [replyFrame], modes := [modeFrame] } drive)).vbp.tx.inTx =
      some { cls := .reply, retries := 0 } := by decide +kernel

/-- An AWARD in transmission at the retry limit 16, with 252 transmit errors. -/
def lastTry : Device :=
  let d := queued { TxQueue.cleared with awards := [awardFrame], inTx := some { cls := .award, retries := 16 } } (peers drive)
  d.withVbp { d.vbp with txErrors := 252, lastAward := d.vbp.lastAward.set 14 (some { grant := 22, reason := .shared }) }

theorem test_frame_sent :
    let d := after .frameSent lastTry
    d.vbp.tx.awards = [] ∧ d.vbp.txErrors = 251 ∧ d.vbp.tx.inTx = none := by decide +kernel

theorem test_arbitration_lost_drops :
    let d := after .arbitrationLost lastTry
    d.vbp.tx.awards = [] ∧ d.vbp.lastAward[14] = none ∧ d.vbp.txErrors = 252 ∧
      d.sl.notices.link.map (·.last) = some 0x206 := by decide +kernel

/-- R158: an error that would raise 252 by 8 takes the controller to BUS_OFF; the frame is kept. -/
theorem test_transmit_error_bus_off :
    let d := after .transmitError lastTry
    d.vbp.ctrl = .busOff ∧ d.vbp.txErrors = 255 ∧ d.vbp.tx.awards = [awardFrame] := by decide +kernel

def offBus (d : Device) : Device := d.withVbp { d.vbp with ctrl := .busOff, txErrors := 255, busSilence := .running 30 }

theorem test_rejoin : (after .busOffRejoin (offBus drive)).vbp.txErrors = 0 := by decide +kernel

theorem test_activity_restarts_silence : (after .busActivity (offBus drive)).vbp.busSilence = .running 100 := by
  decide +kernel

def entry14 : AwardEntry := { slot := 14, generation := 1, answer := { grant := 22, reason := .shared } }

def awarding : Device :=
  let d := peers (holding [(14, .live (fridge none0))] drive)
  d.withVbp { d.vbp with awardQueue := [entry14] }

/-- "Awards through a bus-off": with 20 frames in the transmit queue the entry stays. -/
theorem test_award_waits_at_twenty :
    (after .awardToTransmitQueue
      (queued { TxQueue.cleared with replies := List.replicate 20 replyFrame } awarding)).vbp.awardQueue = [entry14] := by
  decide +kernel

theorem test_award_moves : (after .awardToTransmitQueue awarding).vbp.tx.awards = [awardFrame] := by decide +kernel

def losing : Device := (peers (holding [(14, .live (fridge none0))] drive)).withRau
  { turn := .link, peerLossSets := [6], parkEntrySet := false }

/-- R152, R45: the peer's record retires and its roster entry goes. -/
theorem test_peer_loss_purge :
    let d := after (.peerLossPurgeSet 6) losing
    (d.slot 14).content.lifeCode = 4 ∧ d.vbp.roster.map (·.node) = [1, 2] := by decide +kernel

def parkPurging : Device :=
  (peers (holding [(0, .live (demand 300)), (3, .live (load 0 3 0 15 none [] true none0)), (14, .live (fridge none0))]
    park)).withRau { turn := .link, peerLossSets := [], parkEntrySet := true }

/-- R135 with the factory mask (bank 0 alone): the DEMAND and bank 1 go, the load of bank 0 stays. -/
theorem test_park_entry_purge :
    let d := after .parkEntryPurgeSet parkPurging
    [(d.slot 0).content.lifeCode, (d.slot 3).content.lifeCode, (d.slot 14).content.lifeCode] = [4, 2, 4] := by
  decide +kernel

/-- R40: an abandoned DRAFT becomes FREE, the supervisor is told. -/
theorem test_edit_expiry :
    let d := after (.editTimerExpiry 0) (drafting (draftImage none) drive)
    (d.slot 3).content.isFree = true ∧ d.sl.notices.editAbandoned.map (·.first) = some 3 := by decide +kernel

def lapsing (c : Content) (n : Nat) : Device :=
  (peers (holding [(14, c)] drive)).setRta 14
    { timer := .running 0, lapse := n, periodInForce := 10, toleranceInForce := 3 }

/-- R50: the third lapse at tolerance 3 makes the record STALE. -/
theorem test_third_lapse_stale :
    let d := after (.renewalExpiry 14) (lapsing (.live (fridge none0)) 2)
    (d.slot 14).content.lifeCode = 3 ∧ (d.rtaOf 14).lapse = 3 ∧ (d.rtaOf 14).timer = .running 100 := by decide +kernel

/-- "A release during a pass": pass k+1's snapshot sets the retire mark. -/
theorem test_snapshot_marks_retiring :
    let d := after .splitTimerExpiry (holding [(14, .retiring (fridge none0) false)] drive)
    (d.slot 14).content.isMarked = true ∧ d.se.pass.isSome = true := by decide +kernel

def inPass (c : Content) : Device :=
  let d := after .splitTimerExpiry (peers (holding [(14, .live (fridge none0))] drive))
  d.setContent 14 c

/-- "A release during a pass": the completion writes 0.0 RETIRING_ZERO, and hands it on. -/
theorem test_completion_retiring_zero :
    let d := after .passCompletion (inPass (.retiring (fridge none0) false))
    d.vbp.awardQueue.map (·.answer) = [{ grant := 0, reason := .retiringZero }] ∧ d.se.passNumber = 1 := by
  decide +kernel

def turning (g : GensetState) (d : Device) : Device :=
  let d := peers d
  d.withGs { d.gs with
    state := g, seq := 10, crankCount := 2, crankTimer := if g = .cranking then .running 0 else .stopped,
    warmTimer := if g = .warmup then .running 0 else .stopped,
    cooldownTimer := if g = .cooldown then .running 0 else .stopped, minOff := .stopped }

/-- R115: the third failed start, at the factory limit 3, is LOCKOUT. -/
theorem test_third_crank_lockout :
    let d := after .crankTimerExpiry (turning .cranking drive)
    d.gs.state = .lockout ∧ d.gs.crankCount = 3 ∧ d.sl.notices.gensetFault.map (·.last) = some 2 := by decide +kernel

theorem test_warm_expiry_runs :
    (after .warmTimerExpiry (turning .warmup drive)).gs.state = .running := by decide +kernel

theorem test_cooldown_expiry_stops :
    let d := after .cooldownTimerExpiry (turning .cooldown drive)
    d.gs.state = .off ∧ d.vbp.tx.orders.map (·.body.data.take 2) = [[0x43, 11]] := by decide +kernel

theorem test_min_on_expiry :
    (after .minOnTimerExpiry (drive.withGs { drive.gs with minOn := .running 0 })).gs.minOn = .elapsed := by decide +kernel

theorem test_min_off_expiry :
    (after .minOffTimerExpiry (drive.withGs { drive.gs with minOff := .running 0 })).gs.minOff = .elapsed := by
  decide +kernel

def ordered (resends : Nat) (d : Device) : Device :=
  let d := peers d
  d.withGs { d.gs with inFlight := some { kind := .stop, seq := 9, resends := resends, timer := 0 } }

/-- R111 with the factory limit of 3 resends: the next expiry is LOCKOUT. -/
theorem test_order_unacknowledged :
    let d := after .acknowledgementTimerExpiry (ordered 3 drive)
    d.gs.state = .lockout ∧ d.gs.crankCount = 3 ∧ d.gs.inFlight = none := by decide +kernel

theorem test_order_resent :
    (after .acknowledgementTimerExpiry (ordered 2 drive)).vbp.tx.orders.map (·.body.data.take 2) = [[0x43, 9]] := by
  decide +kernel

theorem test_key_change_deglitches :
    (after (.keyLevelChange true) standby).mc.deglitchTimer = .running 50 := by decide +kernel

def keyPending (level : Bool) (d : Device) : Device :=
  d.withMc { d.mc with rawKey := level, deglitchTimer := .running 0 }

/-- R134: KEY off in DRIVE is park entry; the park-entry set waits. -/
theorem test_key_off_parks :
    let d := after .deglitchTimerExpiry (keyPending false drive)
    d.mc.mode = .park ∧ d.rau.parkEntrySet = true ∧ d.vbp.tx.modes.map (·.body) = [.mode .park .key] := by
  decide +kernel

def timed (d : Device) : Device := d.withMc { d.mc with parkTimer := .running 0, floorTimer := .running 0 }

theorem test_park_timer_sleeps :
    let d := after .parkTimerExpiry (timed park)
    d.mc.mode = .sleep ∧ d.sl.replies.map (fun r => (r.tag, r.payload)) = [(0, [2])] := by decide +kernel

theorem test_floor_timer_sleeps :
    (after .floorTimerExpiry (timed park)).vbp.tx.modes.map (·.body) = [.mode .sleep .parkFloor] := by decide +kernel

theorem test_silence_expiry :
    (after (.silenceExpiry 6) (peers drive)).vbp.roster.map (·.state) = [.joined, .joined, .silent] := by decide +kernel

def silent (d : Device) : Device := enrolled [{ peer 6 .body with state := .silent, silence := 1500 }] d

theorem test_declared_lost : (after (.peerDeclaredLost 6) (silent drive)).rau.peerLossSets = [6] := by decide +kernel

/-- R166: a reply older than 2 ms holds ATTN, whatever the reply trigger. -/
theorem test_aged_reply_attn :
    let d := placeReply 1 2 0 [] (drive.withCs { drive.cs with replyTrigger := 12 })
    d.attn = false ∧ (after .replyAgeExpiry d).attn = true := by decide +kernel

theorem test_device_reset_samples :
    (after (.deviceReset true .mode3) drive).mc.deglitchTimer = .running 50 ∧
      (after (.deviceReset true .mode3) drive).sl.clockMode = .mode3 := by decide +kernel

/-! ## Witnesses: states and operands that meet the hypotheses of each statement, clause by clause -/

theorem witness_StepRunsFrontCommand :
    ({ at' drive with pending := [.claim, .amend] } : State).pending = .claim :: [.amend] := by decide

theorem witness_IdleStepPassesOneMillisecond :
    ((at' drive).pending = [] ∧ (at' drive).dev.se.timer = .running 10 ∧ (at' standby).dev.se.timer = .stopped ∧
      ((lapsing (.live (fridge none0)) 0).rtaOf 14).timer = .running 0) ∧
    ∃ (less : Timer → Timer) (lessPhase : PhaseTimer → PhaseTimer),
      less .stopped = .stopped ∧ (∀ n, less (.running n) = .running (n - 1)) ∧
      lessPhase .stopped = .stopped ∧ lessPhase .elapsed = .elapsed ∧
      ∀ n, lessPhase (.running n) = .running (n - 1) :=
  ⟨by decide +kernel, Timer.tick, PhaseTimer.tick, rfl, fun _ => rfl, rfl, rfl, fun _ => rfl⟩

/-- The request of a CLAIM of a LOAD on either port. -/
def claimLink : Device := asked .claim [1, 5, 2] drive

def claimBus : Device := heard 6 [1, 0, 0, 1, 4, 1] (peers drive)

theorem witness_PortTurnDecidesBetweenPorts :
    ((linkOffer claimLink).isSome ∧ claimLink.rau.turn = .link) ∧
      ((linkOffer (claimLink.withRau { claimLink.rau with turn := .bus })).isSome ∧ busOffer claimLink = none) ∧
      ((busOffer (claimBus.withRau { claimBus.rau with turn := .bus })).isSome) ∧
      ((busOffer claimBus).isSome ∧ linkOffer claimBus = none) ∧
      (linkOffer drive = none ∧ busOffer drive = none) ∧
      (queued { TxQueue.cleared with replies := List.replicate 24 replyFrame } drive).txRoom = false ∧
      (rauOffer claimLink).isSome ∧ (rauOffer claimBus).isSome := by decide +kernel

theorem witness_RecordRequestAnsweredOnce :
    (rauOffer claimLink).map (·.port) = some .link ∧ (rauOffer claimBus).map (·.port) = some .bus := by decide +kernel

/-- A RENEW of a handle that is FREE, refused on either port. -/
def renewLink : Device := asked .renew [4, 1, 0, 0, 0] drive

def renewBus : Device := heard 6 [4, 4, 1, 0, 0, 0] (peers drive)

theorem witness_RefusedRecordRequestChangesNoRecord :
    ((rauOffer renewLink).map (fun o => (o.port, o.row.command)) = some (.link, .renew) ∧
        renewLink.sl.replies.length < 16 ∧
        (after .renew renewLink).sl.replies.getLast?.map (·.result) = some Result.badHandle.code) ∧
      (rauOffer renewBus).map (fun o => (o.port, o.row.command)) = some (.bus, .renew) ∧
        (after .renew renewBus).vbp.tx.replies.getLast?.map (fun f => byteAt f.body.data 3) =
          some Result.badHandle.code := by decide +kernel

theorem witness_ClaimOpensDraft :
    (∃ o, Admitted claimLink o ∧ o.row = .claim ∧ o.req = .claim 1 5 2 ∧ RecordClass.ofClaim 1 2 = some .load ∧
      ¬(RecordClass.load = .demand ∧ o.port = .bus) ∧
      (∀ j : SlotNo, clashes { cls := .load, owner := o.who, label := 5 } (claimLink.slot j) = false) ∧
      claimLink.mc.mode.noPasses = false ∧ allocate o.who claimLink = .ok 0) ∧
    (∃ o, Admitted claimBus o ∧ o.row = .claim ∧ o.req = .claim 1 4 1 ∧ RecordClass.ofClaim 1 1 = some .load ∧
      ¬(RecordClass.load = .demand ∧ o.port = .bus) ∧
      (∀ j : SlotNo, clashes { cls := .load, owner := o.who, label := 4 } (claimBus.slot j) = false) ∧
      claimBus.mc.mode.noPasses = false ∧ allocate o.who claimBus = .ok 12) :=
  ⟨⟨(rauOffer claimLink).get (by decide +kernel), by decide +kernel⟩,
   ⟨(rauOffer claimBus).get (by decide +kernel), by decide +kernel⟩⟩

/-- Node 6 with an edit open in its home bank 1; every bank under edit; every slot held. -/
def homeBusy : Device := editing 1 12 (draftImage none) .clear drive

def allBusy : Device :=
  editing 0 0 (draftImage none) .clear (editing 1 12 (draftImage none) .clear
    (editing 2 24 (draftImage none) .clear (editing 3 36 (draftImage none) .clear drive)))

def allHeld : Device := holding ((List.range 48).map fun i => (i, .live (soc 0 1 0))) drive

theorem witness_ClaimAllocatesLowestFreeSlot :
    allocate 6 drive = .ok 12 ∧ allocate 6 homeBusy = .ok 0 ∧ allocate 6 allBusy = .error .bankBusy ∧
      allocate 6 allHeld = .error .tableFull := by decide +kernel

/-- A field write of the request of slot 14, at a boundary of the fridge's range, by its owner. -/
def fridgeLive : Device := peers (holding [(14, .live (fridge none0))] drive)

def amendBus (commit : Byte) : Device := heard 6 [2, 14, 1, 0x20, 0, 22, commit] fridgeLive

/-- Another slot of the fridge's bank under edit; the fridge RETIRING. -/
def bankHeld : Device := editing 1 15 (draftImage none) .clear (amendBus 0)

def fridgeRetiring : Device :=
  heard 6 [2, 14, 1, 0x20, 0, 22, 0] (peers (holding [(14, .retiring (fridge none0) false)] drive))

theorem witness_AmendWritesIntoEditBuffer :
    (amendBuffer 14 bankHeld = .error .bankBusy ∧ amendBuffer 14 fridgeRetiring = .error .badState ∧
      (rauOffer bankHeld).isSome ∧ (rauOffer fridgeRetiring).isSome ∧
      ((drafting (draftImage none) drive).slot 3).content.isDraft ∧
      ((drafting (draftImage none) drive).openFor 3).isSome) ∧
    (∀ w ∈ ([⟨0x20, 22⟩, ⟨0x20, 0xFFFF⟩, ⟨0x21, 0x8000⟩, ⟨0x24, 0x8000⟩, ⟨0x24, 7⟩, ⟨0x2A, 0⟩] : List FieldWrite),
      (FieldId.ofByte w.id).isSome ∧ w.refusedFor .load = false) ∧ (draftImage none).InRange .load ∧
    ∃ o e, Admitted (amendBus 0) o ∧ o.row = .amend ∧
      o.req = .amend 14 1 [{ id := 0x20, value := 22 }] false ∧ checkOwned o.who 14 1 (amendBus 0) = .ok 14 ∧
      ((amendBus 0).slot 14).content.ident? = some { cls := .load, owner := 6, label := 2 } ∧
      (∀ w ∈ ([{ id := 0x20, value := 22 }] : List FieldWrite), w.refusedFor .load = false) ∧
      amendBuffer 14 (amendBus 0) = .ok e :=
  ⟨by decide +kernel, by decide +kernel, by decide +kernel, (rauOffer (amendBus 0)).get (by decide +kernel),
   { slot := 14, image := (fridge none0).image, marks := .clear, timer := 100 }, by decide +kernel⟩

/-- COMMITs of slot 3's DRAFT: with its request, without it. -/
def committing (q : Option Power) : Device := asked .commit [3, 1] (drafting (draftImage q) drive)

theorem witness_CommitEndsEditOrKeepsIt :
    ((fridge none0).image.InRange .load ∧ (draftImage (some 22)).InRange .load) ∧
    ([(0, draftImage none), (0, (load 0 1 1 21 (some 22) [22] true none0).image),
        (0, (load 0 1 1 30 none [22, 22] true none0).image), (0, (load 0 1 1 30 (some 21) [22] true none0).image),
        (6, draftImage (some 0)), (0, draftImage (some 0))].map fun x => firstFailing x.1 x.2) =
      [some .request, some .floor, some .stepCount, some .floor, some .period, none] ∧
    (∃ o e, Admitted (committing (some 0)) o ∧ checkOwned o.who 3 1 (committing (some 0)) = .ok 3 ∧
      ((committing (some 0)).slot 3).content.isRetiring = false ∧ o.row = .commit ∧ o.req = .commit 3 1 ∧
      (committing (some 0)).openFor 3 = some e ∧
      firstFailing 0 (resultingImage ((committing (some 0)).slot 3).content e) = none) ∧
    (∃ o e, Admitted (committing none) o ∧ checkOwned o.who 3 1 (committing none) = .ok 3 ∧ o.row = .commit ∧
      o.req = .commit 3 1 ∧ (committing none).openFor 3 = some e ∧
      firstFailing 0 (resultingImage ((committing none).slot 3).content e) = some .request) ∧
    (∃ o e₀, Admitted (amendBus 1) o ∧ checkOwned o.who 14 1 (amendBus 1) = .ok 14 ∧ o.row = .amendCommit ∧
      o.req = .amend 14 1 [{ id := 0x20, value := 22 }] true ∧
      (∀ w ∈ ([{ id := 0x20, value := 22 }] : List FieldWrite), w.refusedFor .load = false) ∧
      amendBuffer 14 (amendBus 1) = .ok e₀) :=
  ⟨by decide +kernel, by decide +kernel, ⟨(rauOffer (committing (some 0))).get (by decide +kernel),
    { slot := 3, image := draftImage (some 0), marks := .clear, timer := 40 }, by decide +kernel⟩,
   ⟨(rauOffer (committing none)).get (by decide +kernel),
    { slot := 3, image := draftImage none, marks := .clear, timer := 40 }, by decide +kernel⟩,
   ⟨(rauOffer (amendBus 1)).get (by decide +kernel),
    { slot := 14, image := (fridge none0).image, marks := .clear, timer := 100 }, by decide +kernel⟩⟩

/-- A RENEW of slot 14 by node 6, without a value, and with 0, 21 (one step below the floor) and the floor. -/
def renewing (flag v : Byte) : Device := heard 6 [4, 14, 1, flag, 0, v] fridgeLive

theorem witness_RenewRestartsAndRevives :
    (∃ o, Admitted (renewing 0 0) o ∧ o.row = .renew ∧ o.req = .renew 14 1 none ∧
      checkOwned o.who 14 1 (renewing 0 0) = .ok 14 ∧ ((renewing 0 0).slot 14).content = .live (fridge none0)) ∧
    (∀ v ∈ ([0, 21, 22] : List Byte), ∃ o, Admitted (renewing 1 v) o ∧ o.row = .renewWithValue ∧
      o.req = .renew 14 1 (some (halfOf 0 v)) ∧ checkOwned o.who 14 1 (renewing 1 v) = .ok 14 ∧
      (fridge none0).image.floor = some 22) := by
  refine ⟨⟨(rauOffer (renewing 0 0)).get (by decide +kernel), by decide +kernel⟩, ?_⟩
  intro v hv
  fin_cases hv
  · exact ⟨(rauOffer (renewing 1 0)).get (by decide +kernel), by decide +kernel⟩
  · exact ⟨(rauOffer (renewing 1 21)).get (by decide +kernel), by decide +kernel⟩
  · exact ⟨(rauOffer (renewing 1 22)).get (by decide +kernel), by decide +kernel⟩

def releasing (c : Content) : Device := heard 6 [5, 14, 1] (peers (holding [(14, c)] drive))

def purging (c : Content) (d : Device) : Device := asked .purge [14, 1] (holding [(14, c)] d)

theorem witness_ReleaseAndPurgeEndRecord :
    (∃ o, Admitted (releasing (.live (fridge none0))) o ∧ o.row = .release ∧ o.req = .release 14 1 ∧
      checkOwned o.who 14 1 (releasing (.live (fridge none0))) = .ok 14) ∧
    (∃ o, Admitted (releasing (.draft (fridge none0).ident 1)) o ∧ o.row = .release ∧ o.req = .release 14 1 ∧
      checkOwned o.who 14 1 (releasing (.draft (fridge none0).ident 1)) = .ok 14) ∧
    (∃ o, Admitted (purging (.retiring (fridge none0) true) drive) o ∧ o.row = .purge ∧ o.req = .purge 14 1 ∧
      o.port = .link ∧ checkHandle 14 1 (purging (.retiring (fridge none0) true) drive) = .ok 14) ∧
    (∃ o, Admitted (purging (.stale (fridge none0)) standby) o ∧ o.row = .purge ∧ o.req = .purge 14 1 ∧
      o.port = .link ∧ checkHandle 14 1 (purging (.stale (fridge none0)) standby) = .ok 14 ∧
      standby.mc.mode.noPasses = true) :=
  ⟨⟨(rauOffer (releasing (.live (fridge none0)))).get (by decide +kernel), by decide +kernel⟩,
   ⟨(rauOffer (releasing (.draft (fridge none0).ident 1))).get (by decide +kernel), by decide +kernel⟩,
   ⟨(rauOffer (purging (.retiring (fridge none0) true) drive)).get (by decide +kernel), by decide +kernel⟩,
   ⟨(rauOffer (purging (.stale (fridge none0)) standby)).get (by decide +kernel), by decide +kernel⟩⟩

/-- A record of each kind, at slots 0, 14, 36 and 38. -/
def fourKinds : Device :=
  peers (holding [(0, .live (demand 300)), (14, .stale (fridge none0)), (36, .live (bound 2 1 .enginePermit 1)),
    (38, .live (soc 2 3 1000)), (40, .draft { cls := .load, owner := 2, label := 7 } 3)] drive)

theorem witness_QueryReadsWithoutChange :
    (∃ o, Admitted (asked .query [14, 0x20] fourKinds) o ∧ (14 : Byte).toNat = (14 : SlotNo).val ∧
      o.row = .queryField ∧ o.req = .query 14 (some 0x20) ∧ o.port = .link ∧ FieldId.ofByte 0x20 = some .request ∧
      (fourKinds.slot 14).content.record? = some (fridge none0) ∧ FieldId.request.ofClass (fridge none0).ident.cls) ∧
    (∀ i ∈ ([0, 14, 36, 38, 40, 47] : List SlotNo), (rauOffer (asked .query [natByte i.val] fourKinds)).map
      (fun o => (o.row, o.req, o.port)) = some (.query, .query (natByte i.val) none, .link)) ∧
    (∀ i ∈ ([0, 14, 36, 38] : List SlotNo), ∀ r ∈ (fourKinds.slot i).content.record?, r.Sound) ∧
    (∃ o, Admitted (heard 6 [6, 14, 0, 0] fourKinds) o ∧ o.row = .query ∧ o.req = .query 14 none ∧ o.port = .bus) :=
  ⟨⟨(rauOffer (asked .query [14, 0x20] fourKinds)).get (by decide +kernel), by decide +kernel⟩, by decide +kernel,
   by decide +kernel, ⟨(rauOffer (heard 6 [6, 14, 0, 0] fourKinds)).get (by decide +kernel), by decide +kernel⟩⟩

theorem witness_LookupFindsRecord :
    (∀ ow ∈ ([6, 30, 31] : List Byte), (rauOffer (asked .lookup [ow, 2] fourKinds)).map
      (fun o => (o.row, o.req, o.port)) = some (.lookup, .lookup ow 2, .link)) ∧ UniqueSound fourKinds ∧
    (fourKinds.slot 14).content.ident? = some { cls := .load, owner := 6, label := 2 } ∧
    (∃ o, Admitted (heard 2 [7, 6, 2] fourKinds) o ∧ o.row = .lookup ∧ o.req = .lookup 6 2 ∧ o.port = .bus) :=
  ⟨by decide +kernel, by decide +kernel, by decide +kernel,
   ⟨(rauOffer (heard 2 [7, 6, 2] fourKinds)).get (by decide +kernel), by decide +kernel⟩⟩

theorem witness_UnknownKindRefused :
    (rauOffer (heard 9 [0x2A] drive)).map (·.row) = some .unknown ∧
      (rauOffer (heard 6 [] (peers drive))).map (·.row) = some .unknown := by decide +kernel

theorem witness_PurgeSetsEndNamedRecords :
    6 ∈ losing.rau.peerLossSets ∧ (losing.slot 14).content.owner? = some 6 ∧ losing.isEngine 6 = false ∧
      (let d := (turning .running losing).withRau { losing.rau with peerLossSets := [1] }
       1 ∈ d.rau.peerLossSets ∧ d.isEngine 1 = true ∧ d.gs.state.atRest = false) ∧
      parkPurging.rau.parkEntrySet = true ∧ parkPurging.cs.retainMask.getLsbD (bankOf 3).val = true ∧
      parkPurging.cs.retainMask.getLsbD (bankOf 14).val = false ∧
      ((parkPurging.slot 0).content.ident?.map (·.cls)) = some .demand := by decide +kernel

/-- An edit of node 6 open on its LIVE record. -/
def editingFridge : Device := editing 1 14 (fridge none0).image .clear fridgeLive

theorem witness_EditExpiryAbandonsEdit :
    ((drafting (draftImage none) drive).buffer 0).map (·.slot) = some 3 ∧
      ((drafting (draftImage none) drive).slot 3).content.ident?.map (·.owner) = some 0 ∧
      (editingFridge.buffer 1).map (·.slot) = some 14 ∧
      (editingFridge.slot 14).content.ident?.map (·.owner) = some 6 ∧ editingFridge.txRoom = true ∧
      (queued { TxQueue.cleared with replies := List.replicate 24 replyFrame } editingFridge).txRoom = false := by
  decide +kernel

theorem witness_RenewalExpiryCountsLapse :
    ((lapsing (.live (fridge none0)) 2).rtaOf 14).timer.isRunning ∧
      ((lapsing (.live (fridge none0)) 2).slot 14).content = .live (fridge none0) ∧
      (fridge none0).image.tolerance ≤ min (2 + 1) 15 ∧
      ((lapsing (.stale (fridge none0)) 15).slot 14).content = .stale (fridge none0) ∧ (demand 0).image.period = 0 ∧
      ((lapsing (.live (demand 0)) 0).slot 14).content = .live (demand 0) := by decide +kernel

/-- Case A with a battery limit STALE without fallback, the DEMAND STALE and a demand image below one ramp step. -/
def staleSlots (s : Int) : List (Nat × Content) :=
  [(0, .stale (demand 700)), (36, .stale (bound 2 1 (.power .battDis) 600)), (38, .live (soc 2 3 s)),
   (39, .live (bound 2 4 .enginePermit 0))]

def ramping (d : Device) (s : Int) : Device :=
  let d := holding (staleSlots s) d
  d.withSe { d.se with demandImage := 10 }

theorem witness_SplitExpiryBeginsPass :
    (drive.se.timer.isRunning ∧ drive.se.pass = none ∧ park.se.timer.isRunning ∧ park.mc.mode = .park) ∧
      ((takeSnapshot (holding (caseSlots 700 585) drive)).Sound ∧ UniqueSound (holding (caseSlots 700 585) drive)) ∧
      ((takeSnapshot (ramping drive 600)).Sound ∧ UniqueSound (ramping drive 600)) ∧
      (∀ s ∈ ([200, 201] : List Int), (takeSnapshot (ramping park s)).Sound ∧ UniqueSound (ramping park s)) := by
  refine ⟨?_, ?_, ?_, ?_⟩ <;> decide +kernel

/-- A pass in flight that cuts traction, with two shortfalls before it. -/
def cutting : Device :=
  let d := after .splitTimerExpiry (holding (caseSlots 850 585) drive)
  d.withSe { d.se with shortfall := 2 }

/-- PARK with a pass in flight, and with a SLEEP pending as well. -/
def parkPass : Device := after .splitTimerExpiry park

def sleepWaits : Device := parkPass.withMc { parkPass.mc with sleepPending := some .parkTime }

/-- The fridge granted in full in the pass in flight, with a last sent award and an award queue as given. -/
def fullAnswer : Answer := { grant := 30, reason := .full }

def awardRow (last : Option Answer) (queue : List AwardEntry) : Device :=
  let d := inPass (.live (fridge none0))
  d.withVbp { d.vbp with awardQueue := queue, lastAward := d.vbp.lastAward.set 14 last }

theorem witness_CompletionPublishesPass :
    cutting.se.pass.isSome ∧ cutting.mc.sleepPending = none ∧ (after .passCompletion cutting).se.shortfall = 3 ∧
      (let d := after .splitTimerExpiry (holding [(14, .retiring (fridge none0) false)] drive)
       d.se.pass.isSome ∧ (d.slot 14).content = .retiring (fridge none0) true) ∧
      (awardRow none []).se.pass.isSome ∧ ((awardRow none []).slot 14).content.isMarked = false ∧
      ((awardRow none []).se.pass.bind fun p => writtenAnswer p 14 ((awardRow none []).slot 14)) = some fullAnswer ∧
      ((awardRow none []).slot 14).content.owner? = some 6 ∧ (awardRow none []).enrolled 6 = true ∧
      (awardRow (some fullAnswer) [entry14]).vbp.lastAward[14] = some fullAnswer ∧
      (awardRow none [entry14]).vbp.awardQueue = [entry14] ∧
      parkPass.se.pass.isSome ∧ (parkPass.se.pass.map (·.snap.mode)) = some .park ∧ parkPass.mc.mode = .park ∧
      (∀ s ∈ ([200, 201] : List Int),
        (after .passCompletion (after .splitTimerExpiry (ramping park s))).mc.floorTimer =
          if s ≤ park.cs.parkFloor then .running 60000 else .stopped) := by decide +kernel

/-- The fridge with a step list lowered after the snapshot. -/
def lowered : Record := load 6 2 1 22 (some 22) [22] true none0

theorem witness_GrantsStayWithinRequest :
    (snapshot (caseSlots 700 585) .running).Sound ∧ lowered.Sound ∧
      writtenAnswer (computePass (snapshot (caseSlots 700 585) .running)
          (combine (snapshot (caseSlots 700 585) .running))) 14 { generation := 1, content := .live lowered } =
        some { grant := 22, reason := .full } ∧
      (writtenAnswer (computePass (snapshot (caseSlots 700 585) .running)
          (combine (snapshot (caseSlots 700 585) .running))) 14
        { generation := 1, content := .retiring (fridge none0) false }).isSome := by
  refine ⟨?_, ?_, ?_, ?_⟩ <;> decide +kernel

/-- Every row of R84: a slot as it stood at the snapshot, of one LIVE load, and as it stands at the completion. -/
theorem witness_CompletionWritesAnswers :
    (∀ c ∈ ([.live (fridge none0), .live lowered, .stale lowered, .retiring (fridge none0) false] : List Content),
      (inPass c).se.pass.isSome ∧ (inPass c).mc.sleepPending = none ∧
        ((inPass c).slot 14).content.record?.isSome ∧ ((inPass c).slot 14).content.isMarked = false) ∧
    PassSound (inPass (.live lowered)) ∧ ¬(fridge none0).image.SameAsk lowered.image ∧
    (inPass (.live lowered)).se.pass.map (fun p => (p.snap.slots[14].content, p.snap.slots[14].generation)) =
      some (.live (fridge none0), ((inPass (.live lowered)).slot 14).generation) ∧
    (inPass (.live lowered)).se.pass.map (fun p => p.grants[14]) = some (some fullAnswer) ∧
    (inPass (.live lowered)).se.pass.map (fun p => p.snap.slots[15].content.isUsed) = some false ∧
    (∀ y ∈ lowered.image.steps, 0 < y) ∧ (takeSnapshot (ramping park 600)).Sound := by
  refine ⟨?_, ?_, ?_, ?_, ?_, ?_, ?_, ?_⟩ <;> decide +kernel

theorem witness_AllotmentStaysWithinPool :
    (0 : Power) ≤ 30 ∧ ∀ c ∈ marginTier, 0 ≤ c.request ∧ 0 ≤ c.floor ∧ (c.request ≠ 0 → c.floor ≤ c.request) ∧ c.tier ≤ 3 ∧
      ∀ x ∈ c.steps, 0 < x := by decide

/-- Sound snapshots for the setpoint and battery statements: case A, case C (no point in the band), case D (no Gav, with a
regeneration cut). -/
theorem witness_SetpointBandHoldsDesiredOutput :
    (snapshot (caseSlots 700 585) .running).Sound ∧ (snapshot brakingSlots .off).Sound := by decide +kernel

theorem witness_SetpointIsNearestAdmissiblePoint :
    (snapshot (caseSlots 850 585) .warmup).Sound ∧ (figures (caseSlots 850 585) .warmup).gav ≠ 0 ∧
      (∀ q ∈ admissible (snapshot (caseSlots 850 585) .warmup), ¬within 150 150 q) ∧
      (figures brakingSlots .off).gav = 0 ∧
      (∃ q ∈ admissible (snapshot (caseSlots 700 585) .running), within 220 300 q) :=
  ⟨by decide +kernel, by decide +kernel, by decide +kernel, by decide +kernel, 280, by decide +kernel⟩

theorem witness_BatteryPowerStaysWithinLimits :
    (snapshot brakingSlots .off).Sound ∧ (figures brakingSlots .off).regenCutFlag = true ∧
      (figures (caseSlots 700 585) .running).regenCutFlag = false := by decide +kernel

theorem witness_ConfigWriteStoresInRange :
    HeadIs (asked .configWrite [0x13, 0, 5] standby) .configWrite (frame .configWrite [0x13, 0, 5]) ∧
      HeadIs (asked .configWrite [0x30, 0, 5] drive) .configWrite (frame .configWrite [0x30, 0, 5]) ∧
      ConfigField.ofByte 0x30 = some .parkFloor ∧ ConfigField.parkFloor.live = false ∧
      HeadIs (asked .configWrite [0x02, 3, 0] drive) .configWrite (frame .configWrite [0x02, 3, 0]) ∧
      ConfigField.ofByte 0x02 = some .sStart ∧ (drive.cs.set .sStart 768).levelsOrdered = false ∧
      (drive.cs.set .sStart 599).levelsOrdered = true ∧ ConfigField.ofByte 0x00 = none ∧
      HeadIs (asked .configWrite [0x14, 0, 1] (lockedOut standby)) .configWrite (frame .configWrite [0x14, 0, 1]) ∧
      ConfigField.ofByte 0x14 = some .crankLimit := by decide +kernel

theorem witness_ConfigReadReturnsStoredValue :
    HeadIs (asked .configRead [0x10] drive) .configRead (frame .configRead [0x10]) ∧
      ConfigField.ofByte 0x10 = some (.point 7) ∧
      HeadIs (asked .configRead [0] drive) .configRead (frame .configRead [0]) ∧
      HeadIs (asked .configRead [0xFF] drive) .configRead (frame .configRead [0xFF]) ∧
      ConfigField.ofByte 0xFF = none := by decide +kernel

theorem witness_ConfigDoneChecksAndTakesForce :
    HeadIs (asked .configDone [] drive) .configDone (frame .configDone []) ∧ drive.mc.mode ≠ .standby ∧
      HeadIs (asked .configDone [] standby) .configDone (frame .configDone []) ∧
      standby.cs.levelsOrdered = true ∧ ascending standby.cs.usedPoints = true ∧ standby.vbp.ctrl ≠ .idle ∧
      State.reset.dev.vbp.ctrl = .idle ∧ (standby.cs.set .sStart 600).levelsOrdered = false ∧
      ascending (standby.cs.set (.point 1) 120).usedPoints = false ∧
      (standby.cs.set .canRate 250).canRate ≠ standby.vbp.rateInForce := by decide +kernel

/-- STANDBY with KEY on and a valid configuration. -/
def ready : Device :=
  let d := standby.withCs { standby.cs with valid := true }
  d.withMc { d.mc with key := true, rawKey := true }

theorem witness_StartDriveEntersDrive :
    HeadIs (asked .startDrive [] ready) .startDrive (frame .startDrive []) ∧ ready.mc.mode = .standby ∧
      ready.mc.key = true ∧ ready.cs.valid = true ∧ ready.mc.sleepPending = none ∧ ready.txRoom = true ∧
      (queued { TxQueue.cleared with replies := List.replicate 24 replyFrame } ready).txRoom = false ∧
      standby.mc.key = false ∧ standby.cs.valid = false ∧ park.mc.mode = .park ∧
      HeadIs (asked .startDrive [] park) .startDrive (frame .startDrive []) := by decide +kernel

theorem witness_SleepRequestEntersSleepOrPends :
    HeadIs (asked .sleep [] park) .sleep (frame .sleep []) ∧ park.mc.sleepPending = none ∧ park.gs.state = .off ∧
      park.se.pass = none ∧ parkPass.mc.mode = .park ∧ parkPass.se.pass ≠ none ∧
      sleepWaits.mc.sleepPending = some .parkTime ∧ HeadIs (asked .sleep [] drive) .sleep (frame .sleep []) ∧
      (turning .running park).gs.state ≠ .off := by decide +kernel

theorem witness_ParkTimersEndInSleep :
    (timed park).mc.mode = .park ∧ (timed park).mc.parkTimer.isRunning ∧ (timed park).mc.floorTimer.isRunning ∧
      (timed park).se.pass = none ∧ (timed parkPass).se.pass ≠ none ∧ sleepWaits.se.pass.isSome ∧
      sleepWaits.mc.mode = .park ∧ sleepWaits.mc.sleepPending = some .parkTime ∧ sleepWaits.gs.state.atRest = true := by
  decide +kernel

theorem witness_KeyLevelMovesModes :
    false ≠ drive.mc.rawKey ∧ true ≠ standby.mc.rawKey ∧
      (keyPending false drive).mc.deglitchTimer.isRunning ∧ (keyPending false drive).mc.mode = .drive ∧
      (keyPending false drive).gs.state.atRest = true ∧
      (keyPending false (turning .warmup drive)).gs.state.atRest = false ∧
      (keyPending false drive).vbp.tx.count + 2 < 24 ∧ (keyPending true park).mc.rawKey = true ∧
      (keyPending true (sleepWaits.withMc { sleepWaits.mc with sleepPending := some (.request 7) })).mc.sleepPending =
        some (.request 7) ∧
      (keyPending true asleep).mc.mode = .sleep ∧ (keyPending true standby).mc.mode = .standby := by decide +kernel

theorem witness_GensetRequestsTakeEffect :
    (∀ x ∈ ([0, 2, 3] : List Byte), HeadIs (asked .forceGenset [x] (turning .warmup drive)) .forceGenset
      (frame .forceGenset [x])) ∧
      Force.ofByte 3 = none ∧ Force.ofByte 2 = some .off ∧ (turning .cranking drive).gs.state = .cranking ∧
      drive.cs.cooldown.toNat ≠ 0 ∧ (drive.cs.set .cooldown 0).cooldown.toNat = 0 ∧
      HeadIs (asked .clearLockout [] (lockedOut drive)) .clearLockout (frame .clearLockout []) ∧
      (lockedOut drive).gs.state = .lockout := by decide +kernel

def reporting (e : Byte) (g : GensetState) : Device := heard 1 [0x0A, 0, e] (turning g drive)

theorem witness_EngineReportActsByState :
    (∀ e ∈ ([0, 1, 2, 3, 4] : List Byte), ((reporting e .cranking).vbp.rx.find? isReportFrame).isSome) ∧
      (reporting 2 .cranking).enginePeer = some 1 ∧ (reporting 2 .cranking).gs.inFlight = none ∧
      EngineState.ofByte 2 = some .running ∧ EngineState.ofByte 3 = some .stalled ∧ EngineState.ofByte 4 = none ∧
      (reporting 3 .running).gs.state = .running ∧ (reporting 2 .off).gs.state.atRest = true ∧
      (heard 1 [0x0A, 8, 2] (ordered 0 drive)).gs.inFlight.map (·.seq) ≠ some 8 := by decide +kernel

theorem witness_GensetTimersExpire :
    (turning .cranking drive).gs.crankTimer.isRunning ∧
      ((turning .cranking drive).gs.crankCount : Int) + 1 = drive.cs.crankLimit ∧
      (turning .warmup drive).gs.warmTimer.isRunning ∧ (turning .warmup drive).enginePeer = some 1 ∧
      (turning .warmup drive).txRoom = true ∧ (turning .cooldown drive).gs.cooldownTimer.isRunning ∧
      (drive.withGs { drive.gs with minOn := .running 0 }).gs.minOn.isRunning ∧
      (drive.withGs { drive.gs with minOff := .running 0 }).gs.minOff.isRunning := by decide +kernel

theorem witness_AcknowledgementExpiryResendsOrLocksOut :
    (ordered 2 drive).gs.inFlight.isSome ∧ (2 : Int) < (ordered 2 drive).cs.orderRetryLimit ∧
      (ordered 3 drive).cs.orderRetryLimit ≤ (3 : Int) ∧ (ordered 4 drive).cs.orderRetryLimit < (4 : Int) ∧ (ordered 2 drive).enginePeer = some 1 := by decide +kernel

/-- A pass in flight with the genset in a state and the force setting ON, or OFF. -/
def evaluating (g : GensetState) (f : Force) : Device :=
  let d := after .splitTimerExpiry (turning g (holding (caseSlots 700 585) drive))
  d.withGs { d.gs with force := f, minOff := .elapsed }

theorem witness_CompletionEvaluatesGenset :
    (evaluating .off .on).se.pass.isSome ∧ (evaluating .off .on).mc.sleepPending = none ∧
      (evaluating .off .on).bc.permit = true ∧ (evaluating .off .on).enginePeer = some 1 ∧
      (after .passCompletion (evaluating .off .on)).gs.state = .cranking ∧
      (after .passCompletion (evaluating .off .off)).gs.state = .off ∧
      (after .passCompletion (evaluating .cranking .off)).gs.state = .off ∧
      (after .passCompletion (evaluating .running .off)).gs.state = .cooldown ∧
      (after .passCompletion (evaluating .running .auto)).gs.setpoint = 280 ∧
      (enrolled [] (evaluating .off .on)).enginePeer = none := by decide +kernel

theorem witness_NoticeAndResultReadAnswer :
    HeadIs (asked .noticeRead [] (raise .link 0x300 drive)) .noticeRead (frame .noticeRead []) ∧
      (raise .link 0x300 drive).sl.notices.get .link = some { count := 1, first := 0x300, last := 0x300 } ∧
      HeadIs (asked .noticeRead [7] (raise .link 0x300 drive)) .noticeRead (frame .noticeRead [7]) ∧
      byteAt [7] 0 = natByte NoticeKind.link.number ∧
      HeadIs (asked .noticeRead [0] drive) .noticeRead (frame .noticeRead [0]) ∧
      HeadIs (asked .resultRead [] drive) .resultRead (frame .resultRead []) := by decide +kernel

/-- Every kind above LINK in priority is absent where LINK alone was raised, no kind has the number 0, and no notice stands
after reset. -/
theorem witness_NoticeAndResultReadAnswer_kinds :
    (∀ j : NoticeKind, j.number < NoticeKind.link.number → (raise .link 0x300 drive).sl.notices.get j = none) ∧
      (∀ k : NoticeKind, (0 : Byte) ≠ natByte k.number) ∧ ∀ k : NoticeKind, drive.sl.notices.get k = none := by
  refine ⟨fun j => ?_, fun k => ?_, fun k => ?_⟩
  · cases j <;> decide +kernel
  · cases k <;> decide +kernel
  · cases k <;> decide +kernel

theorem witness_RosterReadReturnsPort :
    HeadIs (asked .rosterRead [] (peers drive)) .rosterRead (frame .rosterRead []) ∧
      RosterSound (asked .rosterRead [] (peers drive)) ∧ (peers drive).vbp.roster[2]? = some (peer 6 .body) := by
  decide +kernel

theorem witness_MirrorSwitchesMirrorMode :
    (∀ x ∈ ([0, 1, 2] : List Byte), HeadIs (asked .mirror [x] drive) .mirror (frame .mirror [x])) ∧
      (let d := asked .mirror [0] (drive.withSl { drive.sl with mirror := true })
       HeadIs d .mirror (frame .mirror [0])) ∧
      HeadIs (asked .linkReset [] drive) .linkReset (frame .linkReset []) ∧
      (timed park).mc.mode ≠ .sleep ∧ (after .parkTimerExpiry (timed park)).mc.mode = .sleep := by decide +kernel

theorem witness_LinkAnswersItsOwnFrames :
    HeadIs (asked .linkReset [] selected) .linkReset (frame .linkReset []) ∧ selected.sl.presented.isSome ∧
      (let d := (asked .claim [1] drive)
       d.sl.requests = frame .claim [1] :: [] ∧ (frame .claim [1]).accepted = none ∧ d.sl.mirror = false) ∧
      (frame .mirror []).accepted = none ∧ (frame .linkReset [1]).accepted = none ∧
      (frame .busRestart [1]).accepted = none ∧ (frame .claim [1]).kind ≠ ReqKind.mirror.code ∧ (frame .claim [1]).kind ≠ ReqKind.linkReset.code ∧
      (drive.withSl { drive.sl with mirror := true, requests := [frame .claim [1]] }).sl.mirror = true := by
  decide +kernel

theorem witness_ChipSelectFallPresentsReply :
    drive.sl.csLow = false ∧ drive.mc.mode ≠ .sleep ∧ asleep.sl.csLow = false ∧ asleep.mc.mode = .sleep ∧
      drive.sl.replies = [] ∧ (placeReply 1 2 0 [5] drive).sl.replies.length = 1 := by decide +kernel

/-- A transaction open on a queued reply of 5 + 1 + 1 bytes. -/
def selectedReply : Device := after .chipSelectFalling (placeReply 1 2 0 [5] drive)

theorem witness_ChipSelectRiseJudgesRequest :
    selected.sl.csLow = true ∧ selectedReply.sl.presented.map (fun p => (p.bytes.length, p.source)) = some (7, .head) ∧
      (after .chipSelectFalling asleep).sl.waking = true ∧
      (selected.withSl { selected.sl with requests := List.replicate 16 (frame .sleep []) }).sl.requests.length = 16 ∧
      (asleep.withSl { asleep.sl with csLow := true }).sl.csLow = true ∧
      ([[], [0], [1, 2], [1, 2, 31], [1, 2, 30] ++ List.replicate 30 0, [1, 2, 30] ++ List.replicate 31 0].map
        (fun m => (after (.chipSelectRising m) selected).sl.frameError) = [false, false, true, true, true, false]) ∧
      byteAt [0x13, 1, 0, 0] (3 + 0) ≠ crc8 ([0x13, 1, 0, 0].take (3 + 0)) ∧
      byteAt [0x13, 1, 0, crc8 [0x13, 1, 0]] (3 + 0) = crc8 ([0x13, 1, 0, crc8 [0x13, 1, 0]].take (3 + 0)) := by
  decide +kernel

theorem witness_FrameReceivedEntersBuffer :
    State.reset.dev.vbp.ctrl = .idle ∧ (offBus drive).vbp.ctrl = .busOff ∧ drive.vbp.ctrl = .active ∧
      asleep.vbp.ctrl = .listening ∧ isNode 1 ∧ isNode 30 ∧ ((0x101 : Nat) : Int) = drive.vbp.baseInForce + 1 ∧
      ((0x11E : Nat) : Int) = drive.vbp.baseInForce + 30 ∧ drive.vbp.baseInForce + 30 < ((0x11F : Nat) : Int) ∧
      ((0x100 : Nat) : Int) ≤ drive.vbp.baseInForce ∧
      (drive.withVbp { drive.vbp with rx := List.replicate 8 { node := 1, data := [] } }).vbp.rx.length = 8 ∧
      ((silent drive).entryOf 6).map (·.state) = some .silent := by decide +kernel

theorem witness_FramesLeaveInOrder :
    awarding.vbp.awardQueue = [entry14] ∧ (awarding.slot 14).content.owner? = some 6 ∧ awarding.vbp.ctrl ≠ .idle ∧
      awarding.vbp.tx.count < 20 ∧
      20 ≤ (queued { TxQueue.cleared with replies := List.replicate 20 replyFrame } awarding).vbp.tx.count ∧
      (let d := queued { TxQueue.cleared with modes := [modeFrame], awards := [awardFrame] } drive
       d.vbp.ctrl = .active ∧ d.vbp.tx.inTx = none ∧ d.vbp.tx.get .mode ≠ [] ∧ d.vbp.tx.orders = [] ∧
         d.vbp.tx.replies = []) ∧
      lastTry.vbp.ctrl = .active ∧ lastTry.vbp.tx.inTx.isSome := by decide +kernel

theorem witness_FailedFrameRetriedOrDropped :
    lastTry.vbp.ctrl = .active ∧ lastTry.vbp.tx.inTx = some { cls := .award, retries := 16 } ∧
      (lastTry.vbp.tx.get .award).head? = some awardFrame ∧ lastTry.cs.canRetryLimit ≤ (16 : Int) ∧
      255 < lastTry.vbp.txErrors + 8 ∧ 247 + 8 ≤ 255 ∧ (15 : Int) < lastTry.cs.canRetryLimit := by decide +kernel

theorem witness_ControllerReturnsToActive :
    (offBus drive).vbp.ctrl = .busOff ∧
      HeadIs (asked .busRestart [] (ordered 1 drive)) .busRestart (frame .busRestart []) ∧
      (ordered 1 drive).vbp.ctrl ≠ .idle ∧ (ordered 1 drive).gs.inFlight.isSome ∧
      (ordered 1 drive).enginePeer = some 1 ∧
      HeadIs (asked .busRestart [] State.reset.dev) .busRestart (frame .busRestart []) ∧
      State.reset.dev.vbp.ctrl = .idle := by decide +kernel

theorem witness_SilenceEndsInPurgeSet :
    (peers drive).entryOf 6 = some (peer 6 .body) ∧ (peer 6 .body).state = .joined ∧
      ((silent drive).entryOf 6).map (·.state) = some .silent ∧ 6 ∉ (silent drive).rau.peerLossSets ∧
      6 ∈ ((silent drive).withRau losing.rau).rau.peerLossSets := by decide +kernel

theorem witness_HelloEnrolsOrChangesRole :
    (∀ p ∈ ([[9], [9, 6], [9, 1], [9, 3]] : List (List Byte)),
      ((heard 4 p (peers drive)).vbp.rx.find? isHelloFrame).isSome ∧ (heard 4 p (peers drive)).txRoom = true) ∧
      Role.ofByte 6 = none ∧ Role.ofByte 1 = some .engine ∧ (peers drive).entryOf 4 = none ∧
      (peers drive).enginePeer = some 1 ∧ (peers drive).entryOf 1 = some (peer 1 .engine) ∧
      16 ≤ (enrolled ((List.range 16).map fun n => peer (n + 8) .other) drive).vbp.roster.length ∧
      (enrolled ((List.range 16).map fun n => peer (n + 8) .other) drive).entryOf 4 = none := by decide +kernel

/-- A sound device in DRIVE, with the peers and records of case A, a pass in flight and its timers running. -/
def soundDrive : Device :=
  after .splitTimerExpiry
    ((holding (caseSlots 700 585) (peers drive)).withRta
      (Vector.ofFn fun i =>
        if i.val ∈ [14, 15, 24, 25, 26, 27, 28, 36, 37, 38] then
          { timer := .running 50, lapse := 0, periodInForce := 10, toleranceInForce := 3 }
        else .cleared))

/-- The device after reset, and a device in DRIVE with records and a pass in flight, are sound. -/
theorem witness_sound : State.reset.dev.Sound ∧ soundDrive.Sound := by
  refine ⟨⟨?_, ?_, ?_, ?_, ?_, ?_, ?_, ?_, ?_, ?_, ?_, ?_, ?_, ?_⟩, ⟨?_, ?_, ?_, ?_, ?_, ?_, ?_, ?_, ?_, ?_, ?_, ?_, ?_, ?_⟩⟩ <;>
    decide +kernel

/-- Steps from it: the premises of the statements that every step keeps a rule. -/
theorem witness_QueuesAndRosterStayBounded :
    QueueSound soundDrive ∧ OrderSound soundDrive ∧ RosterSound soundDrive ∧
      ∃ t, step { dev := soundDrive, pending := [.passCompletion] } = .next t :=
  ⟨witness_sound.2.1, witness_sound.2.2.1, witness_sound.2.2.2.1, _, rfl⟩

theorem witness_TableRulesKept :
    BufferSound soundDrive ∧ UniqueSound soundDrive ∧ OwnerSound soundDrive ∧
      ∃ t, step { dev := soundDrive, pending := [.passCompletion] } = .next t :=
  ⟨witness_sound.2.2.2.2.1, witness_sound.2.2.2.2.2.1, witness_sound.2.2.2.2.2.2.1, _, rfl⟩

theorem witness_CommittedImagesStayValid :
    soundDrive.Sound ∧ ∃ t, step { dev := soundDrive, pending := [.renewalExpiry 14] } = .next t :=
  ⟨witness_sound.2, _, rfl⟩

theorem witness_ModeAndGensetRulesKept :
    soundDrive.Sound ∧ ∃ t, step { dev := soundDrive, pending := [.passCompletion] } = .next t :=
  ⟨witness_sound.2, _, rfl⟩

theorem witness_ConfigurationAndPassStayValid :
    soundDrive.Sound ∧ ∃ t, step { dev := soundDrive, pending := [] } = .next t :=
  ⟨witness_sound.2, _, rfl⟩

theorem witness_SoundAtReset : ∃ t, exec (.deviceReset true .mode3) (at' drive) = .next t := ⟨_, rfl⟩

theorem witness_ModesFollowTheirGraph :
    ModeSound (asked .startDrive [] ready) ∧ (after .startDrive (asked .startDrive [] ready)).mc.mode = .drive ∧
      (after .deglitchTimerExpiry (keyPending false drive)).mc.mode = .park ∧
      (after .deglitchTimerExpiry (keyPending true park)).mc.mode = .drive ∧
      (after .passCompletion sleepWaits).mc.mode = .sleep ∧
      (after (.frameReceived { ident := 0x106, extended := false, remote := false, data := [9, 3] }) asleep).mc.mode =
        .standby := by decide +kernel

theorem witness_PassInFlightUntouched :
    soundDrive.se.pass.isSome ∧ ∃ t, exec (.renewalExpiry 14) (at' soundDrive) = .next t :=
  ⟨by decide +kernel, _, rfl⟩

theorem witness_GrantsChangeOnlyAtCompletion :
    (soundDrive.slot 14).content.record?.map (·.answer) = some (some none0) ∧
      ((after .passCompletion soundDrive).slot 14).content.record?.map (·.answer) =
        some (some { grant := 0, reason := .shed }) ∧
      ((after (.renewalExpiry 14) soundDrive).slot 14).content.record?.isSome := by decide +kernel

end Sys2Proof.Tests
end

section
/-! PROOFS. The port turn of the Record Access Unit (R24 to R26): which port's request is offered, and what taking one
leaves unchanged. -/

namespace Sys2Proof.Machine

/-! ## The offers of the two ports (R25, R26) -/

theorem linkOffer_port {d : Device} {o : Offer} (h : linkOffer d = some o) : o.port = .link := by
  unfold linkOffer at h
  split at h
  · cases h
  · split at h
    · cases h
    · obtain ⟨_, _, rfl⟩ := Option.map_eq_some_iff.mp h
      rfl

theorem busOffer_port {d : Device} {o : Offer} (h : busOffer d = some o) : o.port = .bus := by
  unfold busOffer at h
  split at h
  · obtain ⟨_, _, rfl⟩ := Option.map_eq_some_iff.mp h
    rfl
  · cases h

/-- A CAN request is held back while the transmit queue is full (R25). -/
theorem busOffer_of_no_txRoom {d : Device} (h : d.txRoom = false) : busOffer d = none := by
  simp [busOffer, h]

theorem rauOffer_of_turn_link {d : Device} (h : d.rau.turn = .link) : rauOffer d = (linkOffer d).or (busOffer d) := by
  simp [rauOffer, h]

theorem rauOffer_of_turn_bus {d : Device} (h : d.rau.turn = .bus) : rauOffer d = (busOffer d).or (linkOffer d) := by
  simp [rauOffer, h]

/-- With no CAN request the turn does not matter. -/
theorem rauOffer_of_busOffer_none {d : Device} (h : busOffer d = none) : rauOffer d = linkOffer d := by
  cases ht : d.rau.turn with
  | link => rw [rauOffer_of_turn_link ht, h, Option.or_none]
  | bus => rw [rauOffer_of_turn_bus ht, h, Option.none_or]

/-- With no request on the link the turn does not matter. -/
theorem rauOffer_of_linkOffer_none {d : Device} (h : linkOffer d = none) : rauOffer d = busOffer d := by
  cases ht : d.rau.turn with
  | link => rw [rauOffer_of_turn_link ht, h, Option.none_or]
  | bus => rw [rauOffer_of_turn_bus ht, h, Option.or_none]

theorem rauOffer_eq_link {d : Device} {o : Offer} (h : linkOffer d = some o)
    (hd : d.rau.turn = .link ∨ busOffer d = none) : rauOffer d = some o := by
  rcases hd with hturn | hbus
  · rw [rauOffer_of_turn_link hturn, h, Option.some_or]
  · rw [rauOffer_of_busOffer_none hbus, h]

theorem rauOffer_eq_bus {d : Device} {o : Offer} (h : busOffer d = some o)
    (hd : d.rau.turn = .bus ∨ linkOffer d = none) : rauOffer d = some o := by
  rcases hd with hturn | hlink
  · rw [rauOffer_of_turn_bus hturn, h, Option.some_or]
  · rw [rauOffer_of_linkOffer_none hlink, h]

/-! ## What a record request may write -/

/-- The device with another table, renewal entries and award state: the parts that a record request may write. -/
def Device.withRecords (d : Device) (t : AllotmentTable) (r : Vector RenewalEntry 48) (q : List AwardEntry)
    (a : Vector (Option Answer) 48) : Device :=
  { d with tbl := t, rta := r, vbp := { d.vbp with awardQueue := q, lastAward := a } }

/-- Between the two devices nothing changed but the table, the renewal entries and the award state. -/
def ChangesRecordsOnly (d d' : Device) : Prop := ∃ t r q a, d' = d.withRecords t r q a

namespace ChangesRecordsOnly

theorem refl (d : Device) : ChangesRecordsOnly d d := ⟨d.tbl, d.rta, d.vbp.awardQueue, d.vbp.lastAward, rfl⟩

theorem trans {d e f : Device} (h : ChangesRecordsOnly d e) (h' : ChangesRecordsOnly e f) : ChangesRecordsOnly d f := by
  obtain ⟨_, _, _, _, rfl⟩ := h
  obtain ⟨t, r, q, a, rfl⟩ := h'
  exact ⟨t, r, q, a, rfl⟩

theorem rau_eq {d d' : Device} (h : ChangesRecordsOnly d d') : d'.rau = d.rau := by
  obtain ⟨_, _, _, _, rfl⟩ := h
  rfl

theorem setSlot (d : Device) (i : SlotNo) (x : Slot) : ChangesRecordsOnly d (d.setSlot i x) :=
  ⟨(d.setSlot i x).tbl, d.rta, d.vbp.awardQueue, d.vbp.lastAward, rfl⟩

theorem setContent (d : Device) (i : SlotNo) (c : Content) : ChangesRecordsOnly d (d.setContent i c) := setSlot d i _

theorem setBuffer (d : Device) (b : BankNo) (x : Option EditBuffer) : ChangesRecordsOnly d (d.setBuffer b x) :=
  ⟨(d.setBuffer b x).tbl, d.rta, d.vbp.awardQueue, d.vbp.lastAward, rfl⟩

theorem setRta (d : Device) (i : SlotNo) (x : RenewalEntry) : ChangesRecordsOnly d (d.setRta i x) :=
  ⟨d.tbl, (d.setRta i x).rta, d.vbp.awardQueue, d.vbp.lastAward, rfl⟩

theorem freeSlots (which : SlotNo → Bool) (d : Device) : ChangesRecordsOnly d (freeSlots which d) := ⟨_, _, _, _, rfl⟩

theorem retireSlots (which : SlotNo → Bool) (d : Device) : ChangesRecordsOnly d (retireSlots which d) :=
  ⟨_, _, d.vbp.awardQueue, d.vbp.lastAward, rfl⟩

theorem endRecords (named : SlotNo → Bool) (d : Device) : ChangesRecordsOnly d (endRecords named d) :=
  (freeSlots _ d).trans (retireSlots _ _)

theorem openDraft (x : Identity) (tier : Nat) (i : SlotNo) (d : Device) : ChangesRecordsOnly d (openDraft x tier i d) :=
  (setSlot d i _).trans ((setBuffer _ _ _).trans (setRta _ _ _))

theorem renewRecord (i : SlotNo) (r : Record) (v : Option Half) (d : Device) :
    ChangesRecordsOnly d (renewRecord i r v d) :=
  (setContent d i _).trans (setRta _ _ _)

theorem commitImage (i : SlotNo) (img : Image) (d : Device) : ChangesRecordsOnly d (commitImage i img d) := by
  refine (setBuffer d (bankOf i) none).trans ?_
  simp only [Machine.commitImage]
  split
  · exact (setContent _ i _).trans (setRta _ _ _)
  · split
    · exact (setContent _ i _).trans (setRta _ _ _)
    · exact setContent _ i _

/-! ## The requests' own acts

A refused request leaves the device as it is; each act has one branch, or a few, that writes. -/

/-- A check of an act: both of its branches keep to the records. -/
theorem ite {d : Device} {p : Prop} [Decidable p] {x y : Device × RauReply} (hx : ChangesRecordsOnly d x.1)
    (hy : ChangesRecordsOnly d y.1) : ChangesRecordsOnly d (if p then x else y).1 := by
  split
  · exact hx
  · exact hy

theorem claimAct (o : Offer) (kind label extra : Byte) (d : Device) :
    ChangesRecordsOnly d (claimAct o kind label extra d).1 := by
  unfold Machine.claimAct
  split
  · exact refl d
  · refine ite (refl d) (ite (refl d) (ite (refl d) ?_))
    split
    · exact refl d
    · exact openDraft _ _ _ d

theorem of_amendCore_taken {o : Offer} {slot gen : Byte} {ws : List FieldWrite} {d d' : Device} {i : SlotNo}
    {ks : List Bool} (h : amendCore o slot gen ws d = .taken i d' ks) : ChangesRecordsOnly d d' := by
  simp only [amendCore] at h
  repeat' split at h
  all_goals cases h
  exact setBuffer d _ _

theorem of_commitCore_badFields {owner : Nat} {i : SlotNo} {d d' : Device} {f : FieldId}
    (h : commitCore owner i d = .badFields f d') : ChangesRecordsOnly d d' := by
  simp only [commitCore] at h
  repeat' split at h
  all_goals cases h
  exact setBuffer d _ _

theorem of_commitCore_done {owner : Nat} {i : SlotNo} {d d' : Device} (h : commitCore owner i d = .done d') :
    ChangesRecordsOnly d d' := by
  simp only [commitCore] at h
  repeat' split at h
  all_goals cases h
  exact commitImage i _ d

theorem amendAct (o : Offer) (slot gen : Byte) (ws : List FieldWrite) (d : Device) :
    ChangesRecordsOnly d (amendAct o slot gen ws d).1 := by
  simp only [Machine.amendAct]
  split
  · exact refl d
  · exact of_amendCore_taken ‹_›

theorem commitAct (o : Offer) (slot gen : Byte) (d : Device) : ChangesRecordsOnly d (commitAct o slot gen d).1 := by
  simp only [Machine.commitAct]
  split
  · exact refl d
  · split
    · exact refl d
    · exact of_commitCore_badFields ‹_›
    · exact of_commitCore_done ‹_›

theorem amendCommitAct (o : Offer) (slot gen : Byte) (ws : List FieldWrite) (d : Device) :
    ChangesRecordsOnly d (amendCommitAct o slot gen ws d).1 := by
  simp only [Machine.amendCommitAct]
  split
  · exact refl d
  · next _ _ _ hamend =>
    have hwrites := of_amendCore_taken hamend
    split
    · exact hwrites
    · exact hwrites.trans (of_commitCore_badFields ‹_›)
    · exact hwrites.trans (of_commitCore_done ‹_›)

theorem renewAct (o : Offer) (slot gen : Byte) (v : Option Half) (d : Device) :
    ChangesRecordsOnly d (renewAct o slot gen v d).1 := by
  simp only [Machine.renewAct]
  split
  · exact refl d
  · split
    · exact renewRecord _ _ v d
    · exact renewRecord _ _ v d
    · exact refl d

theorem releaseAct (o : Offer) (slot gen : Byte) (d : Device) : ChangesRecordsOnly d (releaseAct o slot gen d).1 := by
  simp only [Machine.releaseAct]
  split
  · exact refl d
  · exact endRecords _ d

theorem purgeAct (o : Offer) (slot gen : Byte) (d : Device) : ChangesRecordsOnly d (purgeAct o slot gen d).1 := by
  simp only [Machine.purgeAct]
  split
  · exact refl d
  · split
    · exact refl d
    · exact endRecords _ d

end ChangesRecordsOnly

/-- The requests that read leave the device as it is (R19). -/
theorem queryAct_dev (o : Offer) (slot : Byte) (d : Device) : (queryAct o slot d).1 = d := by
  unfold queryAct
  split <;> rfl

theorem queryFieldAct_dev (o : Offer) (slot field : Byte) (d : Device) : (queryFieldAct o slot field d).1 = d := by
  simp only [queryFieldAct]
  repeat' split
  all_goals rfl

theorem lookupAct_dev (o : Offer) (owner label : Byte) (d : Device) : (lookupAct o owner label d).1 = d := by
  unfold lookupAct
  repeat' split
  all_goals rfl

/-! ## One act for every row -/

/-- What the command of a row does with the request it takes, past the common checks; `exec_command` ties it to the
model. -/
def RauRow.act : RauRow → Offer → Device → Device × RauReply
  | .claim, o, d =>
    match o.req with
    | .claim k l x => claimAct o k l x d
    | _ => (d, refusal o .badRequest d)
  | .amend, o, d =>
    match o.req with
    | .amend s g ws _ => amendAct o s g ws d
    | _ => (d, refusal o .badRequest d)
  | .amendCommit, o, d =>
    match o.req with
    | .amend s g ws _ => amendCommitAct o s g ws d
    | _ => (d, refusal o .badRequest d)
  | .commit, o, d =>
    match o.req with
    | .commit s g => commitAct o s g d
    | _ => (d, refusal o .badRequest d)
  | .renew, o, d | .renewWithValue, o, d =>
    match o.req with
    | .renew s g v => renewAct o s g v d
    | _ => (d, refusal o .badRequest d)
  | .release, o, d =>
    match o.req with
    | .release s g => releaseAct o s g d
    | _ => (d, refusal o .badRequest d)
  | .purge, o, d =>
    match o.req with
    | .purge s g => purgeAct o s g d
    | _ => (d, refusal o .badRequest d)
  | .query, o, d =>
    match o.req with
    | .query s _ => queryAct o s d
    | _ => (d, refusal o .badRequest d)
  | .queryField, o, d =>
    match o.req with
    | .query s (some f) => queryFieldAct o s f d
    | _ => (d, refusal o .badRequest d)
  | .lookup, o, d =>
    match o.req with
    | .lookup w l => lookupAct o w l d
    | _ => (d, refusal o .badRequest d)
  | .unknown, o, d => (d, refusal o .badRequest d)

/-- The command of a row takes the record request offered with the row's act, and leaves the queue to step. -/
theorem exec_command (r : RauRow) (s : State) :
    exec r.command s = .next { s with dev := takeRecord r r.act s.dev } := by
  cases r <;> rfl

/-- Past the common checks a record request of any row writes the table, the renewal entries and the award state
alone. -/
theorem RauRow.act_changesRecordsOnly (r : RauRow) (o : Offer) (d : Device) : ChangesRecordsOnly d (r.act o d).1 := by
  cases r with
  | unknown => exact .refl d
  | claim => simp only [act]; split; exacts [.claimAct .., .refl d]
  | amend => simp only [act]; split; exacts [.amendAct .., .refl d]
  | amendCommit => simp only [act]; split; exacts [.amendCommitAct .., .refl d]
  | commit => simp only [act]; split; exacts [.commitAct .., .refl d]
  | renew | renewWithValue => simp only [act]; split; exacts [.renewAct .., .refl d]
  | release => simp only [act]; split; exacts [.releaseAct .., .refl d]
  | purge => simp only [act]; split; exacts [.purgeAct .., .refl d]
  | query | queryField | lookup =>
    simp only [act]
    split <;> simp only [queryAct_dev, queryFieldAct_dev, lookupAct_dev, ChangesRecordsOnly.refl]

/-- A record request taken, whatever it is answered, changes one thing of the Record Access Unit: the turn names the
other port (R26). -/
theorem takeRecord_rau {d : Device} {o : Offer} (ho : rauOffer d = some o) :
    (takeRecord o.row o.row.act d).rau = { d.rau with turn := o.port.other } := by
  rw [takeRecord_some _ _ d o ho rfl]
  have hact := (o.row.act_changesRecordsOnly o (consume o d)).rau_eq
  split
  · simp
  · split
    · simp
    · simp [hact]

/-! ## The statement -/

/-- Settles O5: the port turn orders the two offers, and the act of taking one leaves the turn naming the other port. -/
theorem portTurnDecidesBetweenPorts : Obligations.PortTurnDecidesBetweenPorts := by
  refine ⟨fun d => ⟨?_, ?_, ?_, busOffer_of_no_txRoom⟩, ?_⟩
  · intro o hlink hfirst
    exact ⟨rauOffer_eq_link hlink hfirst, linkOffer_port hlink⟩
  · intro o hbus hfirst
    exact ⟨rauOffer_eq_bus hbus hfirst, busOffer_port hbus⟩
  · intro hlink hbus
    rw [rauOffer_of_linkOffer_none hlink, hbus]
  · intro s o ho
    refine ⟨_, exec_command o.row s, ?_⟩
    rw [takeRecord_rau ho]
    cases o.port <;> rfl

end Sys2Proof.Machine
end

section
/-! PROOFS. The renewal expiry of a committed record (R50, R51): which of its three outcomes is taken, what each writes, and
what all of them leave as it was. -/

namespace Sys2Proof.Machine

/-! ## The table and the renewal entries, read through a raise or a change of content -/

@[simp] theorem Device.slot_raise (k : NoticeKind) (x : Half) (d : Device) (i : SlotNo) :
    (raise k x d).slot i = d.slot i := rfl

@[simp] theorem Device.buffer_raise (k : NoticeKind) (x : Half) (d : Device) (b : BankNo) :
    (raise k x d).buffer b = d.buffer b := rfl

@[simp] theorem Device.rtaOf_raise (k : NoticeKind) (x : Half) (d : Device) (i : SlotNo) :
    (raise k x d).rtaOf i = d.rtaOf i := rfl

@[simp] theorem Device.buffer_setContent (d : Device) (i : SlotNo) (c : Content) (b : BankNo) :
    (d.setContent i c).buffer b = d.buffer b := rfl

@[simp] theorem Device.rtaOf_setContent (d : Device) (j : SlotNo) (c : Content) (i : SlotNo) :
    (d.setContent j c).rtaOf i = d.rtaOf i := rfl

/-- The entry of RECORD_STALE after it is raised (R51, R167). -/
@[simp] theorem raise_recordStale_entry (x : Half) (d : Device) :
    (raise .recordStale x d).sl.notices.recordStale = some (NoticeEntry.raised d.sl.notices.recordStale x) :=
  raise_get .recordStale .recordStale x d

/-! ## Period and tolerance taken into force -/

@[simp] theorem RenewalEntry.takeForce_periodInForce (e : RenewalEntry) (img : Image) :
    (e.takeForce img).periodInForce = img.period := rfl

@[simp] theorem RenewalEntry.takeForce_toleranceInForce (e : RenewalEntry) (img : Image) :
    (e.takeForce img).toleranceInForce = img.tolerance := rfl

theorem RenewalEntry.takeForce_timer_of_period_zero (e : RenewalEntry) {img : Image} (h : img.period = 0) :
    (e.takeForce img).timer = .stopped := by
  simp [takeForce, Timer.start, h]

theorem RenewalEntry.takeForce_timer_of_period_ne_zero (e : RenewalEntry) {img : Image} (h : img.period ≠ 0) :
    (e.takeForce img).timer = .running (img.period * 10) := by
  simp [takeForce, Timer.start, h]

/-! ## What an expiry leaves as it was -/

/-- Of the table and the renewal entries at most the content and the entry of slot `i` changed, and every block stands
but for these and the link. -/
def KeepsAllButRecord (i : SlotNo) (d d' : Device) : Prop :=
  (∀ b : BankNo, d'.buffer b = d.buffer b) ∧ d.keepsOtherRecords d' i ∧ d.keepsCore d' ∧ d'.vbp = d.vbp ∧
    d'.rau = d.rau

namespace KeepsAllButRecord

/-- Buffers, other slots and other entries standing, the named blocks are all that is left to show. -/
theorem of_blocks {i : SlotNo} {d d' : Device} (hbuffers : ∀ b : BankNo, d'.buffer b = d.buffer b)
    (hothers : ∀ j ≠ i, d'.slot j = d.slot j ∧ d'.rtaOf j = d.rtaOf j) (hcore : d.keepsCore d')
    (hvbp : d'.vbp = d.vbp) (hrau : d'.rau = d.rau) : KeepsAllButRecord i d d' :=
  ⟨hbuffers, ⟨hothers, fun b _ => hbuffers b⟩, hcore, hvbp, hrau⟩

theorem setRta (i : SlotNo) (x : RenewalEntry) (d : Device) : KeepsAllButRecord i d (d.setRta i x) :=
  of_blocks (d.buffer_setRta i x) (fun _ hj => ⟨rfl, d.rtaOf_setRta_other x hj⟩) (by simp [Device.keepsCore]) rfl rfl

theorem setContent (i : SlotNo) (c : Content) (d : Device) : KeepsAllButRecord i d (d.setContent i c) :=
  of_blocks (d.buffer_setContent i c) (fun _ hj => ⟨d.slot_setContent_other c hj, rfl⟩) (by simp [Device.keepsCore]) rfl rfl

theorem raise (i : SlotNo) (k : NoticeKind) (x : Half) (d : Device) : KeepsAllButRecord i d (raise k x d) :=
  of_blocks (d.buffer_raise k x) (fun _ _ => ⟨rfl, rfl⟩) (by simp [Device.keepsCore]) rfl rfl

theorem trans {i : SlotNo} {d e f : Device} (h : KeepsAllButRecord i d e) (h' : KeepsAllButRecord i e f) :
    KeepsAllButRecord i d f := by
  obtain ⟨hbuffers, ⟨hothers, -⟩, ⟨hnow, hbc, hse, hgs, hmc, hcs⟩, hvbp, hrau⟩ := h
  obtain ⟨hbuffers', ⟨hothers', -⟩, ⟨hnow', hbc', hse', hgs', hmc', hcs'⟩, hvbp', hrau'⟩ := h'
  refine of_blocks (fun b => (hbuffers' b).trans (hbuffers b)) (fun j hj => ?_)
    ⟨hnow'.trans hnow, hbc'.trans hbc, hse'.trans hse, hgs'.trans hgs, hmc'.trans hmc, hcs'.trans hcs⟩
    (hvbp'.trans hvbp) (hrau'.trans hrau)
  exact ⟨(hothers' j hj).1.trans (hothers j hj).1, (hothers' j hj).2.trans (hothers j hj).2⟩

end KeepsAllButRecord

/-! ## The three outcomes of an expiry (R50) -/

/-- The device with the period and tolerance of `r` in force for slot `i` and the lapse count `n`. -/
def Device.expireTo (d : Device) (i : SlotNo) (r : Record) (n : Nat) : Device :=
  d.setRta i { (d.rtaOf i).takeForce r.image with lapse := n }

@[simp] theorem Device.rtaOf_expireTo (d : Device) (i : SlotNo) (r : Record) (n : Nat) :
    (d.expireTo i r n).rtaOf i = { (d.rtaOf i).takeForce r.image with lapse := n } :=
  d.rtaOf_setRta_same i _

@[simp] theorem Device.slot_expireTo (d : Device) (i j : SlotNo) (r : Record) (n : Nat) :
    (d.expireTo i r n).slot j = d.slot j := rfl

@[simp] theorem Device.sl_expireTo (d : Device) (i : SlotNo) (r : Record) (n : Nat) : (d.expireTo i r n).sl = d.sl := rfl

theorem lapseRecord_of_period_zero {r : Record} (h : r.image.period = 0) (i : SlotNo) (wasLive : Bool) (d : Device) :
    lapseRecord i r wasLive d = d.expireTo i r 0 := by
  simp [lapseRecord, h, Device.expireTo]

/-- A STALE record, or one whose count stays below its tolerance, keeps its life state. -/
theorem lapseRecord_of_stays {i : SlotNo} {r : Record} {wasLive : Bool} {d : Device} (h : r.image.period ≠ 0)
    (hstays : wasLive = false ∨ min ((d.rtaOf i).lapse + 1) 15 < r.image.tolerance) :
    lapseRecord i r wasLive d = d.expireTo i r (min ((d.rtaOf i).lapse + 1) 15) := by
  rw [lapseRecord, if_neg h, countLapse, if_neg]
  · rfl
  · rcases hstays with rfl | hlt
    · simp
    · simp only [Bool.and_eq_true, decide_eq_true_eq, not_and]
      exact fun _ => Nat.not_le_of_lt hlt

/-- A LIVE record whose count reaches its tolerance goes STALE with RECORD_STALE (R51). -/
theorem lapseRecord_of_reaches {i : SlotNo} {r : Record} {d : Device} (h : r.image.period ≠ 0)
    (hreaches : r.image.tolerance ≤ min ((d.rtaOf i).lapse + 1) 15) :
    lapseRecord i r true d =
      raise .recordStale (BitVec.ofNat 16 i.val)
        ((d.expireTo i r (min ((d.rtaOf i).lapse + 1) 15)).setContent i (.stale r)) := by
  rw [lapseRecord, if_neg h, countLapse, if_pos (by simpa using hreaches)]
  rfl

/-- The entry of the slot after an expiry with a nonzero period, whatever becomes of the life state. -/
theorem lapseRecord_rtaOf {i : SlotNo} {r : Record} {d : Device} (h : r.image.period ≠ 0) (wasLive : Bool) :
    (lapseRecord i r wasLive d).rtaOf i =
      { (d.rtaOf i).takeForce r.image with lapse := min ((d.rtaOf i).lapse + 1) 15 } := by
  by_cases hlt : min ((d.rtaOf i).lapse + 1) 15 < r.image.tolerance
  · simp [lapseRecord_of_stays h (.inr hlt)]
  · cases wasLive with
    | false => simp [lapseRecord_of_stays h (.inl rfl)]
    | true => simp [lapseRecord_of_reaches h (Nat.le_of_not_lt hlt)]

theorem lapseRecord_keeps (i : SlotNo) (r : Record) (wasLive : Bool) (d : Device) :
    KeepsAllButRecord i d (lapseRecord i r wasLive d) := by
  unfold lapseRecord
  split
  · exact .setRta i _ d
  · simp only [countLapse]
    split
    · exact ((KeepsAllButRecord.setRta i _ d).trans (.setContent i _ _)).trans (.raise i _ _ _)
    · exact .setRta i _ d

/-! ## The statement -/

/-- The expiry of a running timer lapses the record, told whether it was LIVE. -/
theorem renewalExpiry_eq_lapseRecord {d : Device} {i : SlotNo} {r : Record} (hrun : (d.rtaOf i).timer.isRunning)
    (hused : (d.slot i).content = .live r ∨ (d.slot i).content = .stale r) :
    ∃ wasLive : Bool, renewalExpiry i d = lapseRecord i r wasLive d ∧
      (wasLive = true ↔ (d.slot i).content = .live r) ∧ (wasLive = false ↔ (d.slot i).content = .stale r) := by
  rcases hused with h | h
  · exact ⟨true, by simp [renewalExpiry, hrun, h], by simp [h], by simp [h]⟩
  · exact ⟨false, by simp [renewalExpiry, hrun, h], by simp [h], by simp [h]⟩

theorem exec_renewalExpiry (i : SlotNo) (s : State) :
    exec (.renewalExpiry i.val) s = .next { s with dev := renewalExpiry i s.dev } := by
  change onDevice (renewalExpiryOf i.val) s = _
  rw [onDevice, renewalExpiryOf, dif_pos i.isLt]

/-- Settles O19: the outcomes of an expiry by its committed period, its life state and its count, each over the one frame
of `lapseRecord_keeps`. -/
theorem renewalExpiryCountsLapse : Obligations.RenewalExpiryCountsLapse := by
  intro s i r hrun hused
  obtain ⟨wasLive, hexpiry, hlive, hstale⟩ := renewalExpiry_eq_lapseRecord hrun hused
  refine ⟨lapseRecord i r wasLive s.dev, by rw [exec_renewalExpiry, hexpiry], ?_⟩
  have hkeeps := lapseRecord_keeps i r wasLive s.dev
  by_cases hzero : r.image.period = 0
  · rw [lapseRecord_of_period_zero hzero] at hkeeps ⊢
    refine ⟨by simp, by simp, fun _ => ⟨?_, by simp, rfl, rfl⟩, fun h => absurd hzero h, hkeeps⟩
    simp [RenewalEntry.takeForce_timer_of_period_zero _ hzero]
  · have hentry := lapseRecord_rtaOf (i := i) (d := s.dev) hzero wasLive
    refine ⟨by simp [hentry], by simp [hentry], fun h => absurd h hzero,
      fun _ => ⟨?_, by simp [hentry], fun hl hreaches => ?_, fun hstays => ?_⟩, hkeeps⟩
    · simp [hentry, RenewalEntry.takeForce_timer_of_period_ne_zero _ hzero]
    · obtain rfl := hlive.mpr hl
      rw [lapseRecord_of_reaches hzero hreaches]
      exact ⟨by simp, by simp⟩
    · rw [lapseRecord_of_stays hzero (hstays.imp_left hstale.mpr)]
      exact ⟨rfl, rfl⟩

end Sys2Proof.Machine
end

section
/-! PROOFS. ROSTER_READ (R153): a request taken from the head with a reply of its own, the layout of the payload by roster
entry, and the reply in the roster's order. -/

namespace Sys2Proof.Machine

/-! ## A request taken from the head and answered (R163, R164) -/

theorem takenAs_of_headIs {d : Device} {k : ReqKind} {q : SpiRequest} (h : HeadIs d k q) : takenAs k d.sl q = true := by
  obtain ⟨-, hkind, hmirror⟩ := h
  cases hm : d.sl.mirror with
  | false => simp [takenAs, hkind, hm]
  | true => simpa [takenAs, hkind, hm] using hmirror hm

theorem takeRequest_of_headIs {d : Device} {k : ReqKind} {q : SpiRequest} (h : HeadIs d k q)
    (act : SpiRequest → Device → Taken) : takeRequest k act d = finish q (act q (dropHead d)) := by
  obtain ⟨rest, hrest⟩ := List.head?_eq_some_iff.mp h.1
  exact takeHead_some _ _ _ _ _ hrest (takenAs_of_headIs h)

theorem finish_answered (q : SpiRequest) (d : Device) (r : Result) (p : List Byte) :
    finish q (d.answered r p) = placeReply q.kind q.tag r.code p d.draw := rfl

/-- An answer writes the link and the draws of its device alone. -/
theorem finish_answered_blocks (q : SpiRequest) (d : Device) (r : Result) (p : List Byte) :
    finish q (d.answered r p) =
      { d with sl := (finish q (d.answered r p)).sl, draws := (finish q (d.answered r p)).draws } := by
  rw [finish_answered, placeReply_blocks]
  rfl

/-- An act that answers and leaves of the link `l` all but the head frame, which was dropped, has replied to that frame. -/
theorem finish_answered_repliedTo {d : Device} {l : Link} (hlink : d.sl = { l with requests := l.requests.tail })
    (q : SpiRequest) (r : Result) (p : List Byte) : l.repliedTo (finish q (d.answered r p)).sl q r p d.now := by
  rw [finish_answered, Link.repliedTo]
  obtain ⟨hroom, hsl⟩ | ⟨hfull, hsl⟩ := placeReply_cases q.kind q.tag r.code p d.draw
  · rw [Device.draw_sl, hlink] at hroom
    rw [hsl, if_pos hroom, Device.draw_sl, Device.draw_now, hlink]
  · rw [Device.draw_sl, hlink] at hfull
    rw [hsl, if_neg (Nat.not_lt.mpr hfull), Device.draw_sl, hlink]

/-! ## The payload of a ROSTER_READ (R153) -/

/-- Blocks of one length written one after the other: past the first `n` of them stand the blocks of the rest. -/
theorem drop_mul_flatMap {α β : Type} {f : α → List β} {k : Nat} (hf : ∀ x, (f x).length = k) (xs : List α) (n : Nat) :
    (xs.flatMap f).drop (k * n) = (xs.drop n).flatMap f := by
  induction n generalizing xs with
  | zero => rfl
  | succ n ih =>
    cases xs with
    | nil => simp
    | cons x xs =>
      rw [Nat.mul_succ, Nat.add_comm, ← List.drop_drop, List.flatMap_cons, List.drop_left' (hf x), ih]
      rfl

/-- The three bytes of a roster entry. -/
def RosterEntry.bytes (e : RosterEntry) : List Byte := [natByte e.node, e.role.code, e.state.code]

theorem RosterEntry.bytes_length (e : RosterEntry) : e.bytes.length = 3 := rfl

/-- The four bytes after the roster. -/
def BusPort.stateBytes (v : BusPort) : List Byte :=
  [v.ctrl.code, natByte v.txErrors, natByte v.tx.count, natByte v.awardQueue.length]

theorem rosterBytes_eq (v : BusPort) :
    rosterBytes v = natByte v.roster.length :: (v.roster.flatMap RosterEntry.bytes ++ v.stateBytes) := rfl

theorem length_flatMap_bytes (es : List RosterEntry) : (es.flatMap RosterEntry.bytes).length = 3 * es.length := by
  simp [List.length_flatMap, RosterEntry.bytes_length, Nat.mul_comm]

theorem rosterBytes_length (v : BusPort) : (rosterBytes v).length = 1 + 3 * v.roster.length + 4 := by
  rw [rosterBytes_eq, List.length_cons, List.length_append, length_flatMap_bytes]
  simp only [BusPort.stateBytes, List.length_cons, List.length_nil]
  omega

theorem rosterBytes_drop {v : BusPort} {n : Nat} (hn : n ≤ v.roster.length) :
    (rosterBytes v).drop (1 + 3 * n) = (v.roster.drop n).flatMap RosterEntry.bytes ++ v.stateBytes := by
  have hfits : 3 * n ≤ (v.roster.flatMap RosterEntry.bytes).length := by rw [length_flatMap_bytes]; omega
  rw [rosterBytes_eq, Nat.add_comm, List.drop_succ_cons, List.drop_append_of_le_length hfits,
    drop_mul_flatMap RosterEntry.bytes_length]

theorem rosterBytes_entry {v : BusPort} {n : Nat} {e : RosterEntry} (he : v.roster[n]? = some e) :
    ((rosterBytes v).drop (1 + 3 * n)).take 3 = e.bytes := by
  obtain ⟨hn, rfl⟩ := List.getElem?_eq_some_iff.mp he
  rw [rosterBytes_drop hn.le, List.drop_eq_getElem_cons hn]
  rfl

theorem rosterBytes_after_entries (v : BusPort) :
    (rosterBytes v).drop (1 + 3 * v.roster.length) = v.stateBytes := by
  rw [rosterBytes_drop le_rfl, List.drop_length]
  rfl

/-! ## The statement -/

theorem RosterSound.node_lt {d : Device} (h : RosterSound d) {n m : Nat} {e g : RosterEntry}
    (he : d.vbp.roster[n]? = some e) (hg : d.vbp.roster[m]? = some g) (hnm : n < m) : e.node < g.node := by
  obtain ⟨hascending, -⟩ := h
  obtain ⟨hn, rfl⟩ := List.getElem?_eq_some_iff.mp he
  obtain ⟨hm, rfl⟩ := List.getElem?_eq_some_iff.mp hg
  exact List.pairwise_iff_getElem.mp (List.pairwise_map.mp hascending) n m hn hm hnm

theorem exec_rosterRead {s : State} {q : SpiRequest} (h : HeadIs s.dev .rosterRead q) :
    exec .rosterRead s =
      .next { s with dev := finish q ((dropHead s.dev).answered .ok (rosterBytes s.dev.vbp)) } := by
  change onDevice (takeRequest .rosterRead rosterReadAct) s = _
  rw [onDevice, takeRequest_of_headIs h]
  rfl

/-- Settles O41: the request at the head is answered with `rosterBytes` of the port, read by the layout of R153. -/
theorem rosterReadReturnsPort : Obligations.RosterReadReturnsPort := by
  intro s q hhead hroster
  refine ⟨_, rosterBytes s.dev.vbp, exec_rosterRead hhead, finish_answered_blocks q (dropHead s.dev) _ _,
    finish_answered_repliedTo (d := dropHead s.dev) rfl q .ok _, rosterBytes_length _, rfl, fun n e he => ⟨?_, ?_⟩,
    rosterBytes_after_entries _⟩
  · exact rosterBytes_entry he
  · exact fun m g hg hnm => RosterSound.node_lt hroster he hg hnm

end Sys2Proof.Machine
end

section
/-! PROOFS. Mirror mode (R169): what a MIRROR answers and writes, and that a device which enters SLEEP, by whatever command,
does so with mirror mode off. For the second, the commands part into those that leave the Mode Controller or at least its
mode alone, those that move to another mode than SLEEP, and those that make SLEEP entry (R139). -/

namespace Sys2Proof.Machine

/-! ## Requests taken from the head and their replies -/

@[simp] theorem placeReply_mc (k t r : Byte) (p : List Byte) (d : Device) : (placeReply k t r p d).mc = d.mc := by
  rw [placeReply_blocks]

@[simp] theorem placeReply_mirror (k t r : Byte) (p : List Byte) (d : Device) :
    (placeReply k t r p d).sl.mirror = d.sl.mirror := by
  obtain ⟨-, hsl⟩ | ⟨-, hsl⟩ := placeReply_cases k t r p d <;> rw [hsl]

@[simp] theorem dropHead_mc (d : Device) : (dropHead d).mc = d.mc := rfl

@[simp] theorem Device.answered_dev (d : Device) (r : Result) (p : List Byte) : (d.answered r p).dev = d := rfl

@[simp] theorem finish_mc (q : SpiRequest) (t : Taken) : (finish q t).mc = t.dev.mc := by
  unfold finish
  split <;> simp

@[simp] theorem finish_mirror (q : SpiRequest) (t : Taken) : (finish q t).sl.mirror = t.dev.sl.mirror := by
  unfold finish
  split <;> simp

/-! ## SLEEP entered with mirror mode off -/

/-- Where the second device is in SLEEP, the first was in it already or mirror mode is off in the second. -/
def SleepsUnmirrored (d d' : Device) : Prop := d'.mc.mode = .sleep → d.mc.mode = .sleep ∨ d'.sl.mirror = false

namespace SleepsUnmirrored

theorem of_mode {d d' : Device} (h : d'.mc.mode = d.mc.mode) : SleepsUnmirrored d d' := fun hs => .inl (h ▸ hs)

theorem of_mc {d d' : Device} (h : d'.mc = d.mc) : SleepsUnmirrored d d' := of_mode (by rw [h])

theorem refl (d : Device) : SleepsUnmirrored d d := of_mc rfl

theorem of_awake {d d' : Device} (h : d'.mc.mode ≠ .sleep) : SleepsUnmirrored d d' := fun hs => absurd hs h

theorem of_mirror {d d' : Device} (h : d'.sl.mirror = false) : SleepsUnmirrored d d' := fun _ => .inr h

/-- SLEEP entry turns mirror mode off (R139, R169), whatever went before it. -/
theorem sleepEntry (c : SleepCause) (d e : Device) : SleepsUnmirrored d (sleepEntry c e) := of_mirror rfl

/-- A command whose first part keeps the mode is judged by its last part. -/
theorem of_mode_trans {d e f : Device} (hkept : e.mc.mode = d.mc.mode) (h : SleepsUnmirrored e f) :
    SleepsUnmirrored d f := fun hs => hkept ▸ h hs

/-- Neither the frame leaving the FIFO nor the reply entering the other one counts: a request is judged by its act. -/
theorem takeHead {mine : Link → SpiRequest → Bool} {act : SpiRequest → Device → Taken}
    (hact : ∀ f d, SleepsUnmirrored d (act f d).dev) (d : Device) : SleepsUnmirrored d (takeHead mine act d) := by
  unfold Machine.takeHead
  split
  · exact refl d
  · next f _ _ =>
    split
    · intro hs
      rw [finish_mc] at hs
      rw [finish_mirror]
      exact hact f (dropHead d) hs
    · exact refl d

end SleepsUnmirrored

/-! ## Record requests and purge sets leave the Mode Controller alone -/

theorem ChangesRecordsOnly.mc_eq {d d' : Device} (h : ChangesRecordsOnly d d') : d'.mc = d.mc := by
  obtain ⟨_, _, _, _, rfl⟩ := h
  rfl

theorem takeRecord_mc (r : RauRow) (d : Device) : (takeRecord r r.act d).mc = d.mc := by
  by_cases h : ∃ o, rauOffer d = some o ∧ o.row = r
  · obtain ⟨o, ho, hrow⟩ := h
    have hact := (r.act_changesRecordsOnly o (consume o d)).mc_eq
    rw [takeRecord_some r r.act d o ho hrow]
    split
    · simp
    · split
      · simp
      · simp [hact]
  · rw [takeRecord_none r r.act d fun o ho hrow => h ⟨o, ho, hrow⟩]

theorem peerLossPurge_mc (node : Nat) (d : Device) : (peerLossPurge node d).mc = d.mc := by
  simp only [peerLossPurge]
  repeat' split
  all_goals simp [raiseRoster]

theorem parkEntryPurge_mc (d : Device) : (parkEntryPurge d).mc = d.mc := by
  unfold parkEntryPurge
  split <;> simp

theorem editExpiryOf_mc (b : Nat) (d : Device) : (editExpiryOf b d).mc = d.mc := by
  simp only [editExpiryOf, editExpiry, tellAbandoned]
  repeat' split
  all_goals simp

theorem renewalExpiryOf_mc (i : Nat) (d : Device) : (renewalExpiryOf i d).mc = d.mc := by
  simp only [renewalExpiryOf, renewalExpiry, lapseRecord, countLapse]
  repeat' split
  all_goals simp

/-! ## The requests to the other blocks leave it alone -/

theorem configWriteAct_mc (f : SpiRequest) (d : Device) : (configWriteAct f d).dev.mc = d.mc := by
  simp only [configWriteAct, writeField, storeField]
  repeat' split
  all_goals simp

theorem configReadAct_mc (f : SpiRequest) (d : Device) : (configReadAct f d).dev.mc = d.mc := by
  unfold configReadAct
  repeat' split
  all_goals rfl

theorem configDoneAct_mc (f : SpiRequest) (d : Device) : (configDoneAct f d).dev.mc = d.mc := by
  unfold configDoneAct
  repeat' split
  all_goals rfl

theorem applyForce_mc (x : Force) (d : Device) : (applyForce x d).mc = d.mc := by
  simp only [applyForce]
  repeat' split
  all_goals simp

theorem forceGensetAct_mc (f : SpiRequest) (d : Device) : (forceGensetAct f d).dev.mc = d.mc := by
  unfold forceGensetAct
  split
  · exact applyForce_mc _ d
  · rfl

theorem clearLockoutAct_mc (f : SpiRequest) (d : Device) : (clearLockoutAct f d).dev.mc = d.mc := by
  unfold clearLockoutAct clearLockout
  split <;> simp

theorem readNotice_mc (k : Option NoticeKind) (d : Device) : (readNotice k d).dev.mc = d.mc := by
  unfold readNotice
  split <;> rfl

theorem noticeReadAct_mc (f : SpiRequest) (d : Device) : (noticeReadAct f d).dev.mc = d.mc := by
  unfold noticeReadAct
  repeat' split
  all_goals simp [readNotice_mc]

theorem gensetBusRestart_mc (d : Device) : (gensetBusRestart d).mc = d.mc := by
  simp only [gensetBusRestart]
  split <;> simp

theorem busRestartAct_mc (f : SpiRequest) (d : Device) : (busRestartAct f d).dev.mc = d.mc := by
  unfold busRestartAct
  split
  · rfl
  · exact gensetBusRestart_mc _

theorem mirrorAct_mc (f : SpiRequest) (d : Device) : (mirrorAct f d).dev.mc = d.mc := by
  unfold mirrorAct
  repeat' split
  all_goals rfl

/-! ## The Vehicle Bus Port leaves it alone, but for a wake -/

theorem applyHello_mc (node : Nat) (o : HelloOutcome) (d : Device) : (applyHello node o d).mc = d.mc := by
  simp only [applyHello, enrol, changeRole, roleTaken, raiseRoster]
  repeat' split
  all_goals simp

theorem hello_mc (d : Device) : (hello d).mc = d.mc := by
  simp only [hello]
  repeat' split
  all_goals simp [applyHello_mc]

theorem engineReport_mc (d : Device) : (engineReport d).mc = d.mc := by
  simp only [engineReport, deliverReport]
  repeat' split
  all_goals simp

theorem transmissionStart_mc (d : Device) : (transmissionStart d).mc = d.mc := by
  unfold transmissionStart
  repeat' split
  all_goals rfl

theorem frameSent_mc (d : Device) : (frameSent d).mc = d.mc := by
  unfold frameSent
  split <;> rfl

theorem retryOrDrop_mc (t : InTx) (d : Device) : (retryOrDrop t d).mc = d.mc := by
  unfold retryOrDrop dropCurrent forgetAward
  repeat' split
  all_goals rfl

theorem arbitrationLost_mc (d : Device) : (arbitrationLost d).mc = d.mc := by
  unfold arbitrationLost
  split
  · exact retryOrDrop_mc _ d
  · rfl

theorem transmitError_mc (d : Device) : (transmitError d).mc = d.mc := by
  unfold transmitError
  repeat' split
  · rfl
  · exact retryOrDrop_mc _ _
  · rfl

theorem busOffRejoin_mc (d : Device) : (busOffRejoin d).mc = d.mc := by
  unfold busOffRejoin
  split <;> rfl

theorem busActivity_mc (d : Device) : (busActivity d).mc = d.mc := by
  unfold busActivity
  split <;> rfl

theorem awardToQueue_mc (d : Device) : (awardToQueue d).mc = d.mc := by
  unfold awardToQueue
  repeat' split
  all_goals rfl

theorem silenceExpiry_mc (node : Nat) (d : Device) : (silenceExpiry node d).mc = d.mc := by
  unfold silenceExpiry
  repeat' split
  all_goals rfl

theorem peerDeclaredLost_mc (node : Nat) (d : Device) : (peerDeclaredLost node d).mc = d.mc := by
  unfold peerDeclaredLost
  repeat' split
  all_goals rfl

theorem bufferFrame_mc (node : Nat) (data : List Byte) (d : Device) : (bufferFrame node data d).mc = d.mc := by
  unfold bufferFrame hearNode
  repeat' split
  all_goals rfl

/-! ## Timers of the Genset Sequencer and the beginning of a pass leave it alone -/

theorem crankExpiry_mc (d : Device) : (crankExpiry d).mc = d.mc := by
  unfold crankExpiry
  split <;> simp

theorem warmExpiry_mc (d : Device) : (warmExpiry d).mc = d.mc := by
  unfold warmExpiry
  split <;> simp

theorem cooldownExpiry_mc (d : Device) : (cooldownExpiry d).mc = d.mc := by
  unfold cooldownExpiry
  split <;> simp

theorem minOnExpiry_mc (d : Device) : (minOnExpiry d).mc = d.mc := by
  unfold minOnExpiry
  split <;> rfl

theorem minOffExpiry_mc (d : Device) : (minOffExpiry d).mc = d.mc := by
  unfold minOffExpiry
  split <;> rfl

theorem ackExpiry_mc (d : Device) : (ackExpiry d).mc = d.mc := by
  simp only [ackExpiry]
  repeat' split
  all_goals simp

theorem raiseIfOpens_mc (before after : Bool) (q : SupplyQty) (d : Device) :
    (raiseIfOpens before after q d).mc = d.mc := by
  unfold raiseIfOpens
  split <;> rfl

theorem makeCombination_mc (snap : Snapshot) (d : Device) : (makeCombination snap d).mc = d.mc := by
  simp [makeCombination, raiseIfOpens_mc]

theorem splitExpiry_mc (d : Device) : (splitExpiry d).mc = d.mc := by
  simp only [splitExpiry, beginPass]
  split
  · simp [makeCombination_mc, startSplit, markRetiring]
  · rfl

/-! ## Transactions on the link: a fall may wake the device -/

@[simp] theorem wake_mode (c : ModeCause) (d : Device) : (wake c d).mc.mode = .standby := by
  simp [wake, broadcastMode]

theorem chipSelectRising_mc (mosi : List Byte) (d : Device) : (chipSelectRising mosi d).mc = d.mc := by
  unfold chipSelectRising
  split <;> rfl

namespace SleepsUnmirrored

theorem chipSelectFalling (d : Device) : SleepsUnmirrored d (chipSelectFalling d) := by
  simp only [Machine.chipSelectFalling]
  split
  · exact refl d
  · split
    · exact of_awake (by simp)
    · exact of_mc rfl

theorem frameReceived (f : CanFrame) (d : Device) : SleepsUnmirrored d (frameReceived f d) := by
  unfold Machine.frameReceived
  split
  · exact refl d
  · exact of_mc rfl
  all_goals
    split
    · exact refl d
    · split
      · exact of_awake (by simp [bufferFrame_mc])
      · exact of_mc (bufferFrame_mc _ _ d)

end SleepsUnmirrored

/-! ## The Mode Controller's own moves -/

@[simp] theorem deviceReset_mode (rawKey : Bool) (straps : SpiMode) (d : Device) :
    (deviceReset rawKey straps d).mc.mode = .standby := rfl

theorem cancelSleep_mc (p : Option SleepCause) (d : Device) : (cancelSleep p d).mc = d.mc := by
  unfold cancelSleep
  split
  · exact placeReply_mc _ _ _ _ d
  · rfl

@[simp] theorem driveEntry_mode (c : ModeCause) (d : Device) : (driveEntry c d).mc.mode = .drive := by
  simp [driveEntry, broadcastMode, cancelSleep_mc, startSplit]

@[simp] theorem parkEntry_mode (d : Device) : (parkEntry d).mc.mode = .park := by
  simp [parkEntry, broadcastMode]

theorem keyChange_mode (level : Bool) (d : Device) : (keyChange level d).mc.mode = d.mc.mode := by
  unfold keyChange
  split <;> rfl

theorem floorCheck_mode (m : Mode) (d : Device) : (floorCheck m d).mc.mode = d.mc.mode := by
  unfold floorCheck
  split <;> rfl

namespace SleepsUnmirrored

theorem keyEvent (on : Bool) (d : Device) : SleepsUnmirrored d (keyEvent on d) := by
  unfold Machine.keyEvent
  split
  · exact of_awake (by simp)
  · exact of_awake (by simp)
  · exact of_awake (by simp)
  · exact refl d

theorem deglitchExpiry (d : Device) : SleepsUnmirrored d (deglitchExpiry d) := by
  unfold Machine.deglitchExpiry
  split
  · exact of_mode_trans rfl (keyEvent _ _)
  · exact refl d

theorem startDriveAct (f : SpiRequest) (d : Device) : SleepsUnmirrored d (startDriveAct f d).dev := by
  unfold Machine.startDriveAct
  split
  · split
    · exact of_awake (by simp)
    · exact refl d
  all_goals exact refl d

/-- A SLEEP cause makes SLEEP entry, or sets the mark in the mode as it is (R138). -/
theorem sleepCause (c : SleepCause) (d : Device) : SleepsUnmirrored d (sleepCause c d) := by
  unfold Machine.sleepCause
  split
  · exact sleepEntry c d d
  · exact of_mode rfl

theorem sleepAct (f : SpiRequest) (d : Device) : SleepsUnmirrored d (sleepAct f d).dev := by
  unfold Machine.sleepAct
  split
  · split
    · exact refl d
    · split
      · exact sleepCause _ d
      · exact refl d
  all_goals exact refl d

/-- A timer's SLEEP cause, taken in PARK alone (R136, R137). -/
theorem sleepCause_of_park (c : SleepCause) (d : Device) :
    SleepsUnmirrored d (if d.mc.mode = .park then Machine.sleepCause c d else d) := by
  split
  · exact sleepCause c d
  · exact refl d

theorem parkExpiry (d : Device) : SleepsUnmirrored d (parkExpiry d) := by
  simp only [Machine.parkExpiry]
  split
  · exact of_mode_trans (e := d.withMc { d.mc with parkTimer := .stopped }) rfl (sleepCause_of_park _ _)
  · exact refl d

theorem floorExpiry (d : Device) : SleepsUnmirrored d (floorExpiry d) := by
  simp only [Machine.floorExpiry]
  split
  · exact of_mode_trans (e := d.withMc { d.mc with floorTimer := .stopped }) rfl (sleepCause_of_park _ _)
  · exact refl d

theorem sleepIfPending (d : Device) : SleepsUnmirrored d (sleepIfPending d) := by
  unfold Machine.sleepIfPending
  split
  · exact sleepEntry _ d d
  · exact refl d

end SleepsUnmirrored

theorem publishPass_mc (p : Pass) (d : Device) : (publishPass p d).mc = d.mc := by
  simp only [publishPass, raiseShortfall, freeSlots_mc]
  split <;> simp

theorem queueAwards_mc (new : List AwardEntry) (d : Device) : (queueAwards new d).mc = d.mc := by
  simp [queueAwards]

/-- A completion keeps the mode up to the pending SLEEP entry that ends it (R138). -/
theorem SleepsUnmirrored.passCompletion (d : Device) : SleepsUnmirrored d (passCompletion d) := by
  unfold Machine.passCompletion
  split
  · refine of_mode_trans ?_ (sleepIfPending _)
    rw [floorCheck_mode, evaluate_mc, queueAwards_mc, publishPass_mc]
  · exact refl d

/-! ## Every command -/

theorem SleepsUnmirrored.of_onDevice {f : Device → Device} {s t : State} (h : onDevice f s = .next t)
    (hf : ∀ d, SleepsUnmirrored d (f d)) : SleepsUnmirrored s.dev t.dev := by
  cases h
  exact hf s.dev

/-- A request taken from the head whose act keeps the Mode Controller. -/
theorem SleepsUnmirrored.of_act_mc {mine : Link → SpiRequest → Bool} {act : SpiRequest → Device → Taken}
    (hact : ∀ f d, (act f d).dev.mc = d.mc) (d : Device) : SleepsUnmirrored d (Machine.takeHead mine act d) :=
  takeHead (fun f d => of_mc (hact f d)) d

open SleepsUnmirrored in
/-- Of all commands the first four below make SLEEP entry, and each other that moves the mode leaves the device awake. -/
theorem exec_sleepsUnmirrored {s t : State} {c : Instr} (h : exec c s = .next t) : SleepsUnmirrored s.dev t.dev := by
  cases c with
  | sleep => exact of_onDevice h (SleepsUnmirrored.takeHead SleepsUnmirrored.sleepAct)
  | parkTimerExpiry => exact of_onDevice h SleepsUnmirrored.parkExpiry
  | floorTimerExpiry => exact of_onDevice h SleepsUnmirrored.floorExpiry
  | passCompletion => exact of_onDevice h SleepsUnmirrored.passCompletion
  | deviceReset rawKey straps => exact of_onDevice h fun d => of_awake (by simp)
  | startDrive => exact of_onDevice h (SleepsUnmirrored.takeHead SleepsUnmirrored.startDriveAct)
  | deglitchTimerExpiry => exact of_onDevice h SleepsUnmirrored.deglitchExpiry
  | chipSelectFalling => exact of_onDevice h SleepsUnmirrored.chipSelectFalling
  | frameReceived frame => exact of_onDevice h (SleepsUnmirrored.frameReceived frame)
  | keyLevelChange level => exact of_onDevice h fun d => of_mode (keyChange_mode level d)
  | claim => exact of_onDevice h fun d => of_mc (takeRecord_mc .claim d)
  | amend => exact of_onDevice h fun d => of_mc (takeRecord_mc .amend d)
  | amendCommit => exact of_onDevice h fun d => of_mc (takeRecord_mc .amendCommit d)
  | commit => exact of_onDevice h fun d => of_mc (takeRecord_mc .commit d)
  | renew => exact of_onDevice h fun d => of_mc (takeRecord_mc .renew d)
  | renewWithValue => exact of_onDevice h fun d => of_mc (takeRecord_mc .renewWithValue d)
  | release => exact of_onDevice h fun d => of_mc (takeRecord_mc .release d)
  | purge => exact of_onDevice h fun d => of_mc (takeRecord_mc .purge d)
  | query => exact of_onDevice h fun d => of_mc (takeRecord_mc .query d)
  | queryField => exact of_onDevice h fun d => of_mc (takeRecord_mc .queryField d)
  | lookup => exact of_onDevice h fun d => of_mc (takeRecord_mc .lookup d)
  | unknownKindRecordRequest => exact of_onDevice h fun d => of_mc (takeRecord_mc .unknown d)
  | configWrite => exact of_onDevice h (of_act_mc configWriteAct_mc)
  | configRead => exact of_onDevice h (of_act_mc configReadAct_mc)
  | configDone => exact of_onDevice h (of_act_mc configDoneAct_mc)
  | forceGenset => exact of_onDevice h (of_act_mc forceGensetAct_mc)
  | clearLockout => exact of_onDevice h (of_act_mc clearLockoutAct_mc)
  | noticeRead => exact of_onDevice h (of_act_mc noticeReadAct_mc)
  | busRestart => exact of_onDevice h (of_act_mc busRestartAct_mc)
  | mirror => exact of_onDevice h (of_act_mc mirrorAct_mc)
  | resultRead | rosterRead | linkReset | mirroredFrame | linkBadRequest =>
    exact of_onDevice h (of_act_mc fun _ _ => rfl)
  | hello => exact of_onDevice h fun d => of_mc (hello_mc d)
  | engineReport => exact of_onDevice h fun d => of_mc (engineReport_mc d)
  | chipSelectRising mosi => exact of_onDevice h fun d => of_mc (chipSelectRising_mc mosi d)
  | transmissionStart => exact of_onDevice h fun d => of_mc (transmissionStart_mc d)
  | frameSent => exact of_onDevice h fun d => of_mc (frameSent_mc d)
  | arbitrationLost => exact of_onDevice h fun d => of_mc (arbitrationLost_mc d)
  | transmitError => exact of_onDevice h fun d => of_mc (transmitError_mc d)
  | busOffRejoin => exact of_onDevice h fun d => of_mc (busOffRejoin_mc d)
  | busActivity => exact of_onDevice h fun d => of_mc (busActivity_mc d)
  | awardToTransmitQueue => exact of_onDevice h fun d => of_mc (awardToQueue_mc d)
  | peerLossPurgeSet node => exact of_onDevice h fun d => of_mc (peerLossPurge_mc node d)
  | parkEntryPurgeSet => exact of_onDevice h fun d => of_mc (parkEntryPurge_mc d)
  | editTimerExpiry bank => exact of_onDevice h fun d => of_mc (editExpiryOf_mc bank d)
  | renewalExpiry slot => exact of_onDevice h fun d => of_mc (renewalExpiryOf_mc slot d)
  | splitTimerExpiry => exact of_onDevice h fun d => of_mc (splitExpiry_mc d)
  | crankTimerExpiry => exact of_onDevice h fun d => of_mc (crankExpiry_mc d)
  | warmTimerExpiry => exact of_onDevice h fun d => of_mc (warmExpiry_mc d)
  | cooldownTimerExpiry => exact of_onDevice h fun d => of_mc (cooldownExpiry_mc d)
  | minOnTimerExpiry => exact of_onDevice h fun d => of_mc (minOnExpiry_mc d)
  | minOffTimerExpiry => exact of_onDevice h fun d => of_mc (minOffExpiry_mc d)
  | acknowledgementTimerExpiry => exact of_onDevice h fun d => of_mc (ackExpiry_mc d)
  | silenceExpiry node => exact of_onDevice h fun d => of_mc (silenceExpiry_mc node d)
  | peerDeclaredLost node => exact of_onDevice h fun d => of_mc (peerDeclaredLost_mc node d)
  | replyAgeExpiry => exact of_onDevice h fun _ => of_mc rfl

/-! ## MIRROR and LINK_RESET taken from the head (R169, R171) -/

/-- The three outcomes of a MIRROR by its byte (R169). -/
theorem mirrorAct_cases (f : SpiRequest) (d : Device) :
    (byteAt f.payload 0 = 1 ∧ mirrorAct f d = (d.withSl { d.sl with mirror := true }).answered .ok []) ∨
      (byteAt f.payload 0 = 0 ∧ mirrorAct f d = (d.withSl { d.sl with mirror := false }).answered .ok []) ∨
      (byteAt f.payload 0 ≠ 1 ∧ byteAt f.payload 0 ≠ 0 ∧ mirrorAct f d = d.answered .badRequest []) := by
  unfold mirrorAct
  split
  · exact .inl ⟨‹_›, rfl⟩
  · split
    · exact .inr (.inl ⟨‹_›, rfl⟩)
    · exact .inr (.inr ⟨‹_›, ‹_›, rfl⟩)

theorem exec_mirror {s : State} {q : SpiRequest} (h : HeadIs s.dev .mirror q) :
    exec .mirror s = .next { s with dev := finish q (mirrorAct q (dropHead s.dev)) } := by
  change onDevice (takeRequest .mirror mirrorAct) s = _
  rw [onDevice, takeRequest_of_headIs h]

theorem exec_linkReset {s : State} {q : SpiRequest} (h : HeadIs s.dev .linkReset q) :
    exec .linkReset s = .next { s with dev := finish q (linkResetAct q (dropHead s.dev)) } := by
  change onDevice (takeRequest .linkReset linkResetAct) s = _
  rw [onDevice, takeRequest_of_headIs h]

/-- A link that differs from the device's in mirror mode alone, answered for the dropped head. -/
theorem finish_mirrorSet_repliedTo (d : Device) (b : Bool) (q : SpiRequest) (r : Result) (p : List Byte) :
    { d.sl with mirror := b }.repliedTo
      (finish q (((dropHead d).withSl { (dropHead d).sl with mirror := b }).answered r p)).sl q r p d.now :=
  finish_answered_repliedTo (d := (dropHead d).withSl { (dropHead d).sl with mirror := b }) rfl q r p

/-! ## The statement -/

/-- A MIRROR at the head does and answers what its byte says (R169). -/
theorem mirror_answers_by_byte {s : State} {q : SpiRequest} (h : HeadIs s.dev .mirror q) :
    ∃ d', exec .mirror s = .next { s with dev := d' } ∧ d' = { s.dev with sl := d'.sl, draws := d'.draws } ∧
      (byteAt q.payload 0 = 1 → { s.dev.sl with mirror := true }.repliedTo d'.sl q .ok [] s.dev.now) ∧
      (byteAt q.payload 0 = 0 → { s.dev.sl with mirror := false }.repliedTo d'.sl q .ok [] s.dev.now) ∧
      (byteAt q.payload 0 ≠ 0 → byteAt q.payload 0 ≠ 1 → s.dev.sl.repliedTo d'.sl q .badRequest [] s.dev.now) := by
  refine ⟨_, exec_mirror h, ?_⟩
  obtain ⟨hb, hact⟩ | ⟨hb, hact⟩ | ⟨hone, hzero, hact⟩ := mirrorAct_cases q (dropHead s.dev) <;> rw [hact]
  · exact ⟨finish_answered_blocks q _ _ _, fun _ => finish_mirrorSet_repliedTo s.dev true q .ok [], by simp [hb],
      fun _ hne => absurd hb hne⟩
  · exact ⟨finish_answered_blocks q _ _ _, by simp [hb], fun _ => finish_mirrorSet_repliedTo s.dev false q .ok [],
      fun hne => absurd hb hne⟩
  · exact ⟨finish_answered_blocks q _ _ _, fun hb => absurd hb hone, fun hb => absurd hb hzero,
      fun _ _ => finish_answered_repliedTo (d := dropHead s.dev) rfl q .badRequest []⟩

/-- Settles O42: the three outcomes of a MIRROR, then mirror mode after device reset, after LINK_RESET, and after SLEEP
entry by any command (`exec_sleepsUnmirrored`). -/
theorem mirrorSwitchesMirrorMode : Obligations.MirrorSwitchesMirrorMode := by
  refine ⟨fun s q hhead => mirror_answers_by_byte hhead, fun s rawKey straps => ⟨_, rfl, rfl⟩,
    fun s q hhead => ⟨_, exec_linkReset hhead, ?_⟩, fun s t c hexec hawake hasleep => ?_⟩
  · rw [finish_mirror]
    rfl
  · exact (exec_sleepsUnmirrored hexec hasleep).resolve_left hawake

end Sys2Proof.Machine
end

section
/-! PROOFS. CONFIG_READ (R177): a field number and the byte that names it, the three outcomes of a read, and the reply with
the value as stored. -/

namespace Sys2Proof.Machine

/-! ## The byte that names a field (R174) -/

theorem ConfigField.natByte_number {b : Byte} {x : ConfigField} (h : ConfigField.ofByte b = some x) :
    natByte x.number = b := by
  have hnumber : x.number = b.toNat := by simpa using List.find?_some h
  rw [natByte, hnumber, BitVec.ofNat_toNat, BitVec.setWidth_eq]

/-- Field 0x00 is the valid mark, which stands apart from the fields (R174). -/
theorem ConfigField.ofByte_zero : ConfigField.ofByte 0 = none := by decide

theorem ConfigField.byte_ne_zero {b : Byte} {x : ConfigField} (h : ConfigField.ofByte b = some x) : b ≠ 0 := by
  rintro rfl
  rw [ConfigField.ofByte_zero] at h
  cases h

/-! ## CONFIG_READ taken from the head (R177) -/

/-- The three outcomes of a CONFIG_READ by the byte that names the field (R177): a field, the valid mark, neither. -/
theorem configReadAct_cases (q : SpiRequest) (d : Device) :
    (∃ x, ConfigField.ofByte (byteAt q.payload 0) = some x ∧
        configReadAct q d = d.answered .ok (byteAt q.payload 0 :: valueBytes (d.cs.get x))) ∨
      (byteAt q.payload 0 = 0 ∧ configReadAct q d = d.answered .ok (0 :: validBytes d.cs)) ∨
      (byteAt q.payload 0 ≠ 0 ∧ ConfigField.ofByte (byteAt q.payload 0) = none ∧
        configReadAct q d = d.answered .badRequest (byteAt q.payload 0 :: openValue d)) := by
  unfold configReadAct
  split
  case h_1 x hx => exact .inl ⟨x, hx, by rw [fieldPayload, ConfigField.natByte_number hx]⟩
  case h_2 hnone =>
    split
    case isTrue hzero => exact .inr (.inl ⟨hzero, rfl⟩)
    case isFalse hne => exact .inr (.inr ⟨hne, hnone, rfl⟩)

theorem exec_configRead {s : State} {q : SpiRequest} (h : HeadIs s.dev .configRead q) :
    exec .configRead s = .next { s with dev := finish q (configReadAct q (dropHead s.dev)) } := by
  change onDevice (takeRequest .configRead configReadAct) s = _
  rw [onDevice, takeRequest_of_headIs h]

/-! ## The statement -/

/-- Settles O29: in each outcome the act only answers, so the link and the draws alone change, and its reply is the one of
that outcome; the premises of the other two contradict the byte. -/
theorem configReadReturnsStoredValue : Obligations.ConfigReadReturnsStoredValue := by
  intro s q hhead
  have hreply (r : Result) (p : List Byte) :
      s.dev.sl.repliedTo (finish q ((dropHead s.dev).answered r p)).sl q r p s.dev.now :=
    finish_answered_repliedTo (d := dropHead s.dev) rfl q r p
  refine ⟨_, exec_configRead hhead, ?_⟩
  obtain ⟨x, hx, hact⟩ | ⟨hzero, hact⟩ | ⟨hne, hnone, hact⟩ := configReadAct_cases q (dropHead s.dev) <;> rw [hact]
  · refine ⟨finish_answered_blocks q _ _ _, fun y hy => ?_, fun hzero => absurd hzero (ConfigField.byte_ne_zero hx),
      fun _ hnone => by simp [hx] at hnone⟩
    obtain rfl : x = y := Option.some.inj (hx.symm.trans hy)
    exact hreply .ok _
  · exact ⟨finish_answered_blocks q _ _ _, fun _ hy => absurd hzero (ConfigField.byte_ne_zero hy), fun _ => hreply .ok _,
      fun hne => absurd hzero hne⟩
  · exact ⟨finish_answered_blocks q _ _ _, fun _ hy => by simp [hnone] at hy, fun hzero => absurd hzero hne,
      fun _ _ => ⟨_, hreply .badRequest _⟩⟩

end Sys2Proof.Machine
end

section
/-! PROOFS. Every command as one act on the device, and what each act can change: a device is read as a list of parts, and
of every operation it is said once which parts it can write. -/

namespace Sys2Proof.Machine

-- A default proof `by decide` waits for the kernel: side by side the proofs would ask for a thread each.
set_option Elab.async false

/-! ## The act of a command -/

/-- What a command does to the device; `exec_eq` ties it to the model. -/
def actOf : Instr → Device → Device
  | .deviceReset rawKey straps => deviceReset rawKey straps
  | .claim => takeRecord .claim (RauRow.act .claim)
  | .amend => takeRecord .amend (RauRow.act .amend)
  | .amendCommit => takeRecord .amendCommit (RauRow.act .amendCommit)
  | .commit => takeRecord .commit (RauRow.act .commit)
  | .renew => takeRecord .renew (RauRow.act .renew)
  | .renewWithValue => takeRecord .renewWithValue (RauRow.act .renewWithValue)
  | .release => takeRecord .release (RauRow.act .release)
  | .purge => takeRecord .purge (RauRow.act .purge)
  | .query => takeRecord .query (RauRow.act .query)
  | .queryField => takeRecord .queryField (RauRow.act .queryField)
  | .lookup => takeRecord .lookup (RauRow.act .lookup)
  | .unknownKindRecordRequest => takeRecord .unknown (RauRow.act .unknown)
  | .configWrite => configWrite
  | .configRead => configRead
  | .configDone => configDone
  | .startDrive => startDrive
  | .sleep => sleepRequest
  | .forceGenset => forceGenset
  | .clearLockout => takeClearLockout
  | .noticeRead => noticeRead
  | .resultRead => resultRead
  | .rosterRead => rosterRead
  | .linkReset => linkReset
  | .busRestart => busRestart
  | .mirror => mirror
  | .mirroredFrame => mirroredFrame
  | .linkBadRequest => linkBadRequest
  | .hello => hello
  | .engineReport => engineReport
  | .chipSelectFalling => chipSelectFalling
  | .chipSelectRising mosi => chipSelectRising mosi
  | .frameReceived frame => frameReceived frame
  | .transmissionStart => transmissionStart
  | .frameSent => frameSent
  | .arbitrationLost => arbitrationLost
  | .transmitError => transmitError
  | .busOffRejoin => busOffRejoin
  | .awardToTransmitQueue => awardToQueue
  | .peerLossPurgeSet node => peerLossPurge node
  | .parkEntryPurgeSet => parkEntryPurge
  | .editTimerExpiry bank => editExpiryOf bank
  | .renewalExpiry slot => renewalExpiryOf slot
  | .splitTimerExpiry => splitExpiry
  | .passCompletion => passCompletion
  | .crankTimerExpiry => crankExpiry
  | .warmTimerExpiry => warmExpiry
  | .cooldownTimerExpiry => cooldownExpiry
  | .minOnTimerExpiry => minOnExpiry
  | .minOffTimerExpiry => minOffExpiry
  | .acknowledgementTimerExpiry => ackExpiry
  | .keyLevelChange level => keyChange level
  | .deglitchTimerExpiry => deglitchExpiry
  | .parkTimerExpiry => parkExpiry
  | .floorTimerExpiry => floorExpiry
  | .silenceExpiry node => silenceExpiry node
  | .peerDeclaredLost node => peerDeclaredLost node
  | .replyAgeExpiry => replyAgeExpiry
  | .busActivity => busActivity

/-- Every command answers next, with its act done and the queue as it was. -/
theorem exec_eq (c : Instr) (s : State) : exec c s = .next { s with dev := actOf c s.dev } := by
  cases c <;> rfl

theorem dev_of_exec {c : Instr} {s t : State} (h : exec c s = .next t) : t.dev = actOf c s.dev := by
  rw [exec_eq] at h
  cases h
  rfl

/-- The device after a step: the act of some command done, or 1 ms passed. -/
theorem dev_of_step {s t : State} (h : step s = .next t) : t.dev = tick s.dev ∨ ∃ c, t.dev = actOf c s.dev := by
  unfold step at h
  split at h
  · cases h
    exact .inl rfl
  · next c rest _ => exact .inr ⟨c, dev_of_exec (s := { s with pending := rest }) h⟩

/-! ## The parts of a device -/

/-- The parts of a device that operations write apart from each other. -/
inductive Part where
  | now | draws | slots | buffers | rau | rta | combiner | splitTimer | pass | splitRest | genset | mode | key | parkTimers
  | sleepPending | force | roster | rx | orders | replies | modes | awards | inTx | awardQueue | lastAward | controller
  | requests | replyFifo | flags | presented
  | notice (k : NoticeKind)
  | mirrorMode | transaction | config
  deriving DecidableEq

/-- The part is the same in both devices. -/
def Part.Same (d d' : Device) : Part → Prop
  | .now => d'.now = d.now
  | .draws => d'.draws = d.draws
  | .slots => d'.tbl.slots = d.tbl.slots
  | .buffers => d'.tbl.buffers = d.tbl.buffers
  | .rau => d'.rau = d.rau
  | .rta => d'.rta = d.rta
  | .combiner => d'.bc = d.bc
  | .splitTimer => d'.se.timer = d.se.timer
  | .pass => d'.se.pass = d.se.pass
  | .splitRest => d'.se.demandImage = d.se.demandImage ∧ d'.se.passNumber = d.se.passNumber ∧ d'.se.result = d.se.result ∧
      d'.se.shortfall = d.se.shortfall
  | .genset => d'.gs = d.gs
  | .mode => d'.mc.mode = d.mc.mode
  | .key => d'.mc.rawKey = d.mc.rawKey ∧ d'.mc.key = d.mc.key ∧ d'.mc.deglitchTimer = d.mc.deglitchTimer
  | .parkTimers => d'.mc.parkTimer = d.mc.parkTimer ∧ d'.mc.floorTimer = d.mc.floorTimer
  | .sleepPending => d'.mc.sleepPending = d.mc.sleepPending
  | .force => d'.vbp.baseInForce = d.vbp.baseInForce ∧ d'.vbp.rateInForce = d.vbp.rateInForce
  | .roster => d'.vbp.roster = d.vbp.roster
  | .rx => d'.vbp.rx = d.vbp.rx
  | .orders => d'.vbp.tx.orders = d.vbp.tx.orders
  | .replies => d'.vbp.tx.replies = d.vbp.tx.replies
  | .modes => d'.vbp.tx.modes = d.vbp.tx.modes
  | .awards => d'.vbp.tx.awards = d.vbp.tx.awards
  | .inTx => d'.vbp.tx.inTx = d.vbp.tx.inTx
  | .awardQueue => d'.vbp.awardQueue = d.vbp.awardQueue
  | .lastAward => d'.vbp.lastAward = d.vbp.lastAward
  | .controller => d'.vbp.ctrl = d.vbp.ctrl ∧ d'.vbp.txErrors = d.vbp.txErrors ∧ d'.vbp.busSilence = d.vbp.busSilence
  | .requests => d'.sl.requests = d.sl.requests
  | .replyFifo => d'.sl.replies = d.sl.replies ∧ d'.sl.lostReply = d.sl.lostReply
  | .flags => d'.sl.overrun = d.sl.overrun ∧ d'.sl.crcError = d.sl.crcError ∧ d'.sl.frameError = d.sl.frameError
  | .presented => d'.sl.presented = d.sl.presented
  | .notice k => d'.sl.notices.get k = d.sl.notices.get k
  | .mirrorMode => d'.sl.mirror = d.sl.mirror
  | .transaction => d'.sl.clockMode = d.sl.clockMode ∧ d'.sl.csLow = d.sl.csLow ∧ d'.sl.waking = d.sl.waking
  | .config => d'.cs = d.cs

theorem Part.Same.refl (d : Device) (p : Part) : p.Same d d := by
  cases p <;> simp [Part.Same]

theorem Part.Same.trans {d e f : Device} {p : Part} (h : p.Same d e) (h' : p.Same e f) : p.Same d f := by
  cases p <;> simp_all [Part.Same]

/-- The part of the transmit queue that holds a class. -/
def TxClass.part : TxClass → Part
  | .order => .orders
  | .reply => .replies
  | .mode => .modes
  | .award => .awards

/-- Between the two devices at most the listed parts changed. -/
def Changes (ps : List Part) (d d' : Device) : Prop := ∀ p, p ∉ ps → p.Same d d'

/-! ## Groups of parts -/

/-- The parts that a record request writes past the reply. -/
def Part.records : List Part := [.slots, .buffers, .rta, .awardQueue, .lastAward]

/-- The parts that a reply placed on either port writes, and a frame handed to the transmit queue. -/
def Part.replying : List Part := [.draws, .replyFifo, .replies, .notice .link]

/-- The parts that the Genset Sequencer's operations write. -/
def Part.sequencer : List Part := [.genset, .orders, .notice .gensetFault, .notice .link]

namespace Changes

variable {ps qs : List Part} {d d' e f : Device}

theorem refl (d : Device) : Changes ps d d := fun p _ => .refl d p

theorem trans (h : Changes ps d e) (h' : Changes ps e f) : Changes ps d f := fun p hp => (h p hp).trans (h' p hp)

theorem mono (h : Changes ps d d') (hsub : ps ⊆ qs := by decide) : Changes qs d d' := fun p hp => h p fun hin => hp (hsub hin)

/-- A part that is not listed stands. -/
theorem same (h : Changes ps d d') (p : Part) (hp : p ∉ ps := by decide) : p.Same d d' := h p hp

theorem ite {p : Prop} [Decidable p] {x y : Device} (hx : Changes ps d x) (hy : Changes ps d y) :
    Changes ps d (if p then x else y) := by
  split
  · exact hx
  · exact hy

/-! ### Leaves -/

theorem withGs (x : Genset) (d : Device) (h : .genset ∈ ps := by decide) : Changes ps d (d.withGs x) := by
  intro p hp
  cases p <;> simp_all [Part.Same]

theorem raise (k : NoticeKind) (x : Half) (d : Device) (h : .notice k ∈ ps := by decide) :
    Changes ps d (raise k x d) := by
  intro p hp
  cases p with
  | notice l =>
    have hl : l ≠ k := fun hl => hp (hl ▸ h)
    simp [Part.Same, raise_get, hl]
  | _ => simp [Part.Same, Machine.raise]

theorem handFrame (c : TxClass) (f : TxFrame) (d : Device) (h : c.part ∈ ps) (h' : .notice .link ∈ ps := by decide) :
    Changes ps d (handFrame c f d) := by
  obtain ⟨-, heq⟩ | ⟨-, heq⟩ := handFrame_cases c f d <;> rw [heq]
  · intro p hp
    cases c <;> cases p <;> simp_all [Part.Same, TxClass.part, TxQueue.set, TxQueue.get]
  · exact raise .link _ d h'

theorem placeReply (k t r : Byte) (p : List Byte) (d : Device) (h : .replyFifo ∈ ps := by decide) :
    Changes ps d (placeReply k t r p d) := by
  intro q hq
  unfold Machine.placeReply
  split <;> cases q <;> simp_all [Part.Same]

theorem draw (d : Device) (h : .draws ∈ ps := by decide) : Changes ps d d.draw := by
  intro p hp
  cases p <;> simp_all [Part.Same]

end Changes

theorem ChangesRecordsOnly.changes {d d' : Device} (h : ChangesRecordsOnly d d') : Changes Part.records d d' := by
  obtain ⟨_, _, _, _, rfl⟩ := h
  intro p hp
  cases p <;> simp_all [Part.Same, Part.records, Device.withRecords]

/-! ## The Genset Sequencer -/

theorem withTx_orders_changes (d : Device) (l : List TxFrame) :
    Changes [.orders] d (d.withTx { d.vbp.tx with orders := l }) := by
  intro p hp
  cases p <;> simp_all [Part.Same]

theorem handOrder_changes (p : TxFrame → Bool) (f : TxFrame) (d : Device) :
    Changes [.orders, .notice .link] d (handOrder p f d).1 := by
  unfold handOrder
  split
  · exact (withTx_orders_changes d _).mono
  · exact .handFrame .order f d (by decide)

theorem handToEngine_changes (p : TxFrame → Bool) (b : TxBody) (d : Device) :
    Changes [.orders, .notice .link] d (handToEngine p b d).1 := by
  unfold handToEngine
  split
  · exact handOrder_changes p _ d
  · exact .refl d

/-- A body handed to the engine as a frame of its sort: a START or STOP, or a SETPOINT (R154). -/
inductive HandedAs : (TxFrame → Bool) → TxBody → Prop
  | order (k : OrderKind) (seq : Byte) : HandedAs TxFrame.isOrder (.order k seq)
  | setpoint (v : Power) : HandedAs TxFrame.isSetpoint (.setpoint v)

/-- What the Sequencer's operations do, one after the other: they change the Sequencer, raise GENSET_FAULT, and hand ORDER
frames to the port. -/
inductive Sequenced : Device → Device → Prop
  | refl (d : Device) : Sequenced d d
  | andGs {d e : Device} (x : Genset) (h : Sequenced d e) : Sequenced d (e.withGs x)
  | andRaise {d e : Device} (x : Half) (h : Sequenced d e) : Sequenced d (raise .gensetFault x e)
  | andHand {d e : Device} {p : TxFrame → Bool} {b : TxBody} (hb : HandedAs p b) (h : Sequenced d e) :
      Sequenced d (handToEngine p b e).1

namespace Sequenced

variable {d e f : Device}

theorem trans (h : Sequenced d e) (h' : Sequenced e f) : Sequenced d f := by
  induction h' with
  | refl => exact h
  | andGs x _ ih => exact ih.andGs x
  | andRaise x _ ih => exact ih.andRaise x
  | andHand hb _ ih => exact ih.andHand hb

theorem ite {p : Prop} [Decidable p] {x y : Device} (hx : Sequenced d x) (hy : Sequenced d y) :
    Sequenced d (if p then x else y) := by
  split
  · exact hx
  · exact hy

theorem withGs (x : Genset) (d : Device) : Sequenced d (d.withGs x) := (refl d).andGs x

theorem changes (h : Sequenced d e) : Changes Part.sequencer d e := by
  induction h with
  | refl => exact .refl d
  | andGs x _ ih => exact ih.trans (.withGs x _)
  | andRaise x _ ih => exact ih.trans (.raise .gensetFault x _)
  | andHand _ _ ih => exact ih.trans (handToEngine_changes _ _ _).mono

end Sequenced

theorem issueOrder_sequenced (k : OrderKind) (d : Device) : Sequenced d (issueOrder k d) :=
  (Sequenced.withGs _ d).andHand (.order k _)

theorem handOrderAgain_sequenced (o : InFlight) (d : Device) : Sequenced d (handOrderAgain o d) :=
  (Sequenced.refl d).andHand (.order _ _)

theorem sendSetpoint_sequenced (d : Device) : Sequenced d (sendSetpoint d) := by
  have h := (Sequenced.refl d).andHand (.setpoint d.gs.setpoint)
  unfold sendSetpoint
  split <;> next heq =>
    rw [heq] at h
    exact h.andGs _

theorem sendSetpointIfNew_sequenced (d : Device) : Sequenced d (sendSetpointIfNew d) :=
  .ite (.refl d) (sendSetpoint_sequenced d)

theorem raiseGensetFault_sequenced (x : GensetFaultDetail) (d : Device) : Sequenced d (raiseGensetFault x d) :=
  (Sequenced.refl d).andRaise _

theorem enterOff_sequenced (d : Device) : Sequenced d (enterOff d) := .withGs _ d

theorem enterLockout_sequenced (d : Device) : Sequenced d (enterLockout d) := .withGs _ d

theorem stopToOff_sequenced (d : Device) : Sequenced d (stopToOff d) :=
  (issueOrder_sequenced .stop d).trans (enterOff_sequenced _)

theorem enterCranking_sequenced (d : Device) : Sequenced d (enterCranking d) :=
  (issueOrder_sequenced .start d).trans (.withGs _ _)

theorem enterRunning_sequenced (d : Device) : Sequenced d (enterRunning d) :=
  .trans (.withGs _ d) (sendSetpoint_sequenced _)

theorem enterWarmup_sequenced (d : Device) : Sequenced d (enterWarmup d) :=
  have h : Sequenced d _ := .trans (.withGs _ d) (sendSetpoint_sequenced _)
  .ite (h.trans (enterRunning_sequenced _)) h

theorem engineStarted_sequenced (d : Device) : Sequenced d (engineStarted d) :=
  .ite (.trans (.withGs _ d) (enterRunning_sequenced _)) (.trans (.withGs _ d) (enterWarmup_sequenced _))

theorem startFailed_sequenced (d : Device) : Sequenced d (startFailed d) :=
  have h : Sequenced d _ := (issueOrder_sequenced .stop d).trans (.withGs _ _)
  .ite ((h.trans (enterLockout_sequenced _)).trans (raiseGensetFault_sequenced _ _)) (h.trans (enterOff_sequenced _))

theorem enterCooldown_sequenced (ms : Nat) (d : Device) : Sequenced d (enterCooldown ms d) :=
  have h : Sequenced d _ := .trans (.withGs _ d) (sendSetpointIfNew_sequenced _)
  .ite (h.trans (stopToOff_sequenced _)) (h.trans (.withGs _ _))

theorem modeChangeStop_sequenced (d : Device) : Sequenced d (modeChangeStop d) := by
  unfold modeChangeStop
  split
  any_goals exact stopToOff_sequenced d
  any_goals exact enterCooldown_sequenced 0 d
  all_goals exact .refl d

theorem stall_sequenced (d : Device) : Sequenced d (stall d) :=
  (raiseGensetFault_sequenced .stall d).trans (enterOff_sequenced _)

theorem loseEnginePeer_sequenced (d : Device) : Sequenced d (loseEnginePeer d) := by
  have h : Sequenced d (d.withGs { d.gs with inFlight := none }) := .withGs _ d
  simp only [loseEnginePeer]
  split
  any_goals exact h
  all_goals exact ((h.trans (enterOff_sequenced _)).trans (raiseGensetFault_sequenced _ _)).trans (.withGs _ _)

theorem evaluateOff_sequenced (h : Handed) (d : Device) : Sequenced d (evaluateOff h d) :=
  .ite (.ite (enterCranking_sequenced d) (.ite (.refl d) ((raiseGensetFault_sequenced _ d).trans (.withGs _ _)))) (.refl d)

theorem takeSetpoint_sequenced (h : Handed) (d : Device) : Sequenced d (takeSetpoint h d) :=
  .trans (.withGs _ d) (sendSetpointIfNew_sequenced _)

theorem evaluate_sequenced (h : Handed) (d : Device) : Sequenced d (evaluate h d) := by
  have hcool (ms : Nat) := enterCooldown_sequenced ms d
  unfold evaluate
  split
  · exact evaluateOff_sequenced h d
  · exact .ite (stopToOff_sequenced d) (.refl d)
  · exact .ite (hcool _) (.ite (hcool _) (.ite (hcool _) (.ite (enterRunning_sequenced d) (takeSetpoint_sequenced h d))))
  · exact .ite (hcool _) (.ite (hcool _) (.ite (hcool _) (takeSetpoint_sequenced h d)))
  · exact .ite (stopToOff_sequenced d) (.refl d)
  · exact .refl d

theorem actOnReport_sequenced (e : EngineState) (d : Device) : Sequenced d (actOnReport e d) := by
  unfold actOnReport
  repeat' split
  any_goals exact .refl d
  any_goals exact stall_sequenced d
  any_goals exact startFailed_sequenced d
  any_goals exact (raiseGensetFault_sequenced _ d).trans (issueOrder_sequenced _ _)
  exact engineStarted_sequenced d

theorem takeReport_sequenced (echo : Byte) (e : EngineState) (d : Device) :
    Sequenced d (takeReport echo e d) := by
  unfold takeReport
  split
  · exact actOnReport_sequenced e d
  · exact .ite (.trans (.withGs _ d) (actOnReport_sequenced e _)) (.refl d)

theorem deliverReport_sequenced (f : RxFrame) (d : Device) : Sequenced d (deliverReport f d) := by
  unfold deliverReport
  repeat' split
  · exact takeReport_sequenced _ _ d
  all_goals exact .refl d

theorem withRx_changes (d : Device) (l : List RxFrame) : Changes [.rx] d (d.withVbp { d.vbp with rx := l }) := by
  intro p hp
  cases p <;> simp_all [Part.Same]

theorem engineReport_changes (d : Device) : Changes (.rx :: Part.sequencer) d (engineReport d) := by
  unfold engineReport
  split
  · exact (withRx_changes d _).mono.trans (deliverReport_sequenced _ _).changes.mono
  · exact .refl d

theorem crankExpiry_sequenced (d : Device) : Sequenced d (crankExpiry d) :=
  .ite (startFailed_sequenced d) (.refl d)

theorem warmExpiry_sequenced (d : Device) : Sequenced d (warmExpiry d) :=
  .ite (enterRunning_sequenced d) (.refl d)

theorem cooldownExpiry_sequenced (d : Device) : Sequenced d (cooldownExpiry d) :=
  .ite (stopToOff_sequenced d) (.refl d)

theorem minOnExpiry_changes (d : Device) : Changes [.genset] d (minOnExpiry d) := .ite (.withGs _ d) (.refl d)

theorem minOffExpiry_changes (d : Device) : Changes [.genset] d (minOffExpiry d) := .ite (.withGs _ d) (.refl d)

theorem ackExpiry_sequenced (d : Device) : Sequenced d (ackExpiry d) := by
  unfold ackExpiry
  split
  · exact .refl d
  · exact .ite (.trans (.withGs _ d) (handOrderAgain_sequenced _ _))
      (((enterLockout_sequenced d).trans (.withGs _ _)).trans (raiseGensetFault_sequenced _ _))

theorem applyForce_sequenced (f : Force) (d : Device) : Sequenced d (applyForce f d) := by
  have h : Sequenced d (d.withGs { d.gs with force := f }) := .withGs _ d
  simp only [applyForce]
  repeat' split
  any_goals exact h
  · exact h.trans (stopToOff_sequenced _)
  all_goals exact h.trans (enterCooldown_sequenced _ _)

theorem clearLockout_changes (d : Device) : Changes [.genset] d (clearLockout d) :=
  .ite (.trans (.withGs _ d) (.withGs _ _)) (.refl d)

theorem gensetBusRestart_sequenced (d : Device) : Sequenced d (gensetBusRestart d) := by
  have h : Sequenced d (d.withGs { d.gs with lastSent := none }) := .withGs _ d
  simp only [gensetBusRestart]
  split
  · exact (h.trans (.withGs _ _)).trans (handOrderAgain_sequenced _ _)
  · exact h

/-! ## The Record Access Unit -/

theorem consume_changes (o : Offer) (d : Device) : Changes [.requests, .rx, .rau] d (consume o d) := by
  intro p hp
  unfold consume
  cases o.port <;> cases p <;> simp_all [Part.Same]

theorem answer_changes (o : Offer) (r : RauReply) (d : Device) : Changes Part.replying d (answer o r d) := by
  unfold answer
  split
  · exact .trans (.draw d) (.placeReply _ _ _ _ _)
  · exact .trans (.draw d) (.handFrame .reply _ _ (by decide))

/-- What a record request taken can write: its frame's place, the reply, the turn, and the records. -/
def Part.recordRequest : List Part := [.requests, .rx, .rau] ++ Part.replying ++ Part.records

theorem takeRecord_changes (r : RauRow) (d : Device) : Changes Part.recordRequest d (takeRecord r r.act d) := by
  by_cases h : ∃ o, rauOffer d = some o ∧ o.row = r
  · obtain ⟨o, ho, hrow⟩ := h
    have htaken : Changes Part.recordRequest d (consume o d) := (consume_changes o d).mono
    have hanswer (x : RauReply) (e : Device) : Changes Part.recordRequest e (answer o x e) := (answer_changes o x e).mono
    rw [takeRecord_some r r.act d o ho hrow]
    exact .ite (htaken.trans (hanswer _ _)) (.ite (htaken.trans (hanswer _ _))
      ((htaken.trans (r.act_changesRecordsOnly o _).changes.mono).trans (hanswer _ _)))
  · rw [takeRecord_none r r.act d fun o ho hrow => h ⟨o, ho, hrow⟩]
    exact .refl d

theorem endRecords_changes (named : SlotNo → Bool) (d : Device) : Changes Part.records d (endRecords named d) :=
  (ChangesRecordsOnly.endRecords named d).changes

theorem withRau_changes (x : AccessUnit) (d : Device) : Changes [.rau] d (d.withRau x) := by
  intro p hp
  cases p <;> simp_all [Part.Same]

theorem withRosterAwards_changes (r : List RosterEntry) (q : List AwardEntry) (d : Device) :
    Changes [.roster, .awardQueue] d (d.withVbp { d.vbp with roster := r, awardQueue := q }) := by
  intro p hp
  cases p <;> simp_all [Part.Same]

/-- What a peer-loss purge set can write. -/
def Part.peerLoss : List Part := [.rau, .roster, .notice .roster] ++ Part.records ++ Part.sequencer

theorem peerLossPurge_changes (node : Nat) (d : Device) : Changes Part.peerLoss d (peerLossPurge node d) := by
  unfold peerLossPurge
  split
  · refine .ite (.trans ?_ (loseEnginePeer_sequenced _).changes.mono) ?_
    all_goals exact (((withRau_changes _ d).mono.trans (endRecords_changes _ _).mono).trans
      (withRosterAwards_changes _ _ _).mono).trans (.raise .roster _ _)
  · exact .refl d

theorem parkEntryPurge_changes (d : Device) : Changes (.rau :: Part.records) d (parkEntryPurge d) :=
  .ite ((withRau_changes _ d).mono.trans (endRecords_changes _ _).mono) (.refl d)

theorem tellAbandoned_changes (x : Identity) (i : SlotNo) (gen : Byte) (wasDraft : Bool) (d : Device) :
    Changes [.replies, .notice .editAbandoned, .notice .link] d (tellAbandoned x i gen wasDraft d) :=
  .ite (.raise .editAbandoned _ d) (.handFrame .reply _ d (by decide))

/-- What an edit timer's expiry can write. -/
def Part.editExpiry : List Part := [.replies, .notice .editAbandoned, .notice .link] ++ Part.records

theorem editExpiry_changes (b : BankNo) (d : Device) : Changes Part.editExpiry d (editExpiry b d) := by
  unfold editExpiry
  split
  · exact .refl d
  · next e _ =>
    have h : Changes Part.editExpiry d
        (if (d.slot e.slot).content.isDraft then freeSlots (only e.slot) d else d.setBuffer b none) :=
      .ite (ChangesRecordsOnly.freeSlots _ d).changes.mono (ChangesRecordsOnly.setBuffer d b none).changes.mono
    dsimp only
    split
    · exact h.trans (tellAbandoned_changes _ _ _ _ _).mono
    · exact h

theorem editExpiryOf_changes (b : Nat) (d : Device) : Changes Part.editExpiry d (editExpiryOf b d) := by
  unfold editExpiryOf
  split
  · exact editExpiry_changes _ d
  · exact .refl d

theorem lapseRecord_changes (i : SlotNo) (r : Record) (wasLive : Bool) (d : Device) :
    Changes [.slots, .rta, .notice .recordStale] d (lapseRecord i r wasLive d) := by
  have hrta (x : RenewalEntry) : Changes [.slots, .rta, .notice .recordStale] d (d.setRta i x) := by
    intro p hp
    cases p <;> simp_all [Part.Same]
  have hslot (c : Content) (e : Device) : Changes [.slots, .rta, .notice .recordStale] e (e.setContent i c) := by
    intro p hp
    cases p <;> simp_all [Part.Same, Device.setContent]
  unfold lapseRecord
  split
  · exact hrta _
  · exact .ite (((hrta _).trans (hslot _ _)).trans (.raise .recordStale _ _)) (hrta _)

theorem renewalExpiryOf_changes (i : Nat) (d : Device) :
    Changes [.slots, .rta, .notice .recordStale] d (renewalExpiryOf i d) := by
  unfold renewalExpiryOf renewalExpiry
  repeat' split
  any_goals exact .refl d
  all_goals exact lapseRecord_changes _ _ _ d

/-! ## Requests taken from the head -/

/-- What the link's answer to a request taken from the head writes. -/
def Part.answering : List Part := [.requests, .draws, .replyFifo]

theorem dropHead_changes (d : Device) : Changes [.requests] d (dropHead d) := by
  intro p hp
  cases p <;> simp_all [Part.Same, dropHead]

theorem finish_changes (f : SpiRequest) (t : Taken) : Changes [.draws, .replyFifo] t.dev (finish f t) := by
  unfold finish
  split
  · exact .trans (.draw _) (.placeReply _ _ _ _ _)
  · exact .refl _

/-- A request taken from the head writes what its act writes, its place in the FIFO and the reply. -/
theorem takeHead_changes {ps : List Part} {mine : Link → SpiRequest → Bool} {act : SpiRequest → Device → Taken}
    (hact : ∀ f d, Changes ps d (act f d).dev) (d : Device) :
    Changes (Part.answering ++ ps) d (takeHead mine act d) := by
  have hin {qs : List Part} (h : qs ⊆ Part.answering) : qs ⊆ Part.answering ++ ps :=
    List.subset_append_of_subset_left ps h
  unfold takeHead
  split
  · exact .refl d
  · exact .ite (((dropHead_changes d).mono (hin (by decide))).trans
      (((hact _ _).mono (List.subset_append_right _ _)).trans ((finish_changes _ _).mono (hin (by decide))))) (.refl d)

theorem storeField_changes (f : ConfigField) (v : Int) (d : Device) : Changes [.config, .genset] d (storeField f v d) := by
  intro p hp
  cases p <;> simp_all [Part.Same, storeField]

theorem configWriteAct_changes (f : SpiRequest) (d : Device) : Changes [.config, .genset] d (configWriteAct f d).dev := by
  simp only [configWriteAct, writeField]
  repeat' split
  any_goals exact .refl d
  all_goals exact storeField_changes _ _ d

theorem configReadAct_changes (f : SpiRequest) (d : Device) : Changes [] d (configReadAct f d).dev := by
  unfold configReadAct
  repeat' split
  all_goals exact .refl d

/-- What the port's re-initialisation can write. -/
def Part.reinitialise : List Part :=
  [.force, .rx, .orders, .replies, .modes, .awards, .inTx, .awardQueue, .lastAward, .controller]

theorem reinitialise_changes (d : Device) : Changes Part.reinitialise d (d.withVbp (reinitialise d.vbp)) := by
  intro p hp
  cases p <;> simp_all [Part.Same, Part.reinitialise, reinitialise, emptyBusQueues]

theorem takeBusForce_changes (c : ConfigSet) (d : Device) : Changes Part.reinitialise d (d.withVbp (takeBusForce c d.vbp)) := by
  intro p hp
  unfold takeBusForce
  repeat' split
  all_goals cases p <;> simp_all [Part.Same, Part.reinitialise, reinitialise, emptyBusQueues]

theorem withCs_changes (c : ConfigSet) (d : Device) : Changes [.config] d (d.withCs c) := by
  intro p hp
  cases p <;> simp_all [Part.Same]

theorem configDoneAct_changes (f : SpiRequest) (d : Device) :
    Changes (.config :: Part.reinitialise) d (configDoneAct f d).dev := by
  unfold configDoneAct
  repeat' split
  any_goals exact .refl d
  exact (withCs_changes _ d).mono.trans (takeBusForce_changes _ _).mono

theorem forceGensetAct_changes (f : SpiRequest) (d : Device) : Changes Part.sequencer d (forceGensetAct f d).dev := by
  unfold forceGensetAct
  split
  · exact (applyForce_sequenced _ d).changes
  · exact .refl d

theorem clearLockoutAct_changes (f : SpiRequest) (d : Device) : Changes [.genset] d (clearLockoutAct f d).dev :=
  clearLockout_changes d

theorem withNotices_changes (k : NoticeKind) (d : Device) :
    Changes (NoticeKind.all.map .notice) d (d.withSl { d.sl with notices := d.sl.notices.set k none }) := by
  intro p hp
  cases p with
  | notice l => exact absurd (List.mem_map_of_mem (by cases l <;> decide)) hp
  | _ => simp [Part.Same]

theorem noticeReadAct_changes (f : SpiRequest) (d : Device) :
    Changes (NoticeKind.all.map .notice) d (noticeReadAct f d).dev := by
  unfold noticeReadAct readNotice
  repeat' split
  any_goals exact .refl d
  all_goals exact withNotices_changes _ d

theorem busRestartAct_changes (f : SpiRequest) (d : Device) :
    Changes (Part.sequencer ++ Part.reinitialise) d (busRestartAct f d).dev := by
  unfold busRestartAct
  split
  · exact .refl d
  · exact (reinitialise_changes d).mono.trans (gensetBusRestart_sequenced _).changes.mono

theorem withMirror_changes (b : Bool) (d : Device) : Changes [.mirrorMode] d (d.withSl { d.sl with mirror := b }) := by
  intro p hp
  cases p <;> simp_all [Part.Same]

theorem mirrorAct_changes (f : SpiRequest) (d : Device) : Changes [.mirrorMode] d (mirrorAct f d).dev := by
  unfold mirrorAct
  repeat' split
  all_goals exact withMirror_changes _ d

theorem linkResetAct_changes (f : SpiRequest) (d : Device) :
    Changes [.requests, .replyFifo, .flags, .presented, .mirrorMode] d (linkResetAct f d).dev := by
  intro p hp
  cases p <;> simp_all [Part.Same, linkResetAct, Device.answered, Link.emptied]

/-! ## The Vehicle Bus Port -/

theorem withRoster_changes (r : List RosterEntry) (d : Device) :
    Changes [.roster] d (d.withVbp { d.vbp with roster := r }) := by
  intro p hp
  cases p <;> simp_all [Part.Same]

/-- What a role taken or lost can write. -/
def Part.enrolment : List Part := [.roster, .notice .roster] ++ Part.sequencer

theorem roleTaken_changes (role : Role) (d : Device) : Changes [.genset] d (roleTaken role d) :=
  .ite (.withGs _ d) (.refl d)

theorem applyHello_changes (node : Nat) (o : HelloOutcome) (d : Device) :
    Changes Part.enrolment d (applyHello node o d) := by
  have h (r : List RosterEntry) (role : Role) : Changes Part.enrolment d
      (roleTaken role (raiseRoster node (d.withVbp { d.vbp with roster := r }))) :=
    ((withRoster_changes r d).mono.trans (.raise .roster _ _)).trans (roleTaken_changes role _).mono
  unfold applyHello
  split
  · exact .refl d
  · exact .refl d
  · exact h _ _
  · exact .ite ((h _ _).trans (loseEnginePeer_sequenced _).changes.mono) (h _ _)

theorem hello_changes (d : Device) : Changes ([.rx, .draws, .replies] ++ Part.enrolment) d (hello d) := by
  unfold hello
  split
  · exact .refl d
  · exact .ite ((((withRx_changes d _).mono.trans (applyHello_changes _ _ _).mono).trans (.draw _)).trans
      (.handFrame .reply _ _ (by decide))) (.refl d)

theorem hearNode_changes (node : Nat) (d : Device) : Changes [.roster, .notice .roster] d (hearNode node d) := by
  unfold hearNode
  split
  · exact .refl d
  · exact .ite ((withRoster_changes _ d).mono.trans (.raise .roster _ _)) (withRoster_changes _ d).mono

theorem bufferFrame_changes (node : Nat) (data : List Byte) (d : Device) :
    Changes [.rx, .roster, .notice .roster, .notice .link] d (bufferFrame node data d) :=
  .ite ((withRx_changes d _).mono.trans (hearNode_changes node _).mono) (.raise .link _ d)

theorem withMode_changes (m : Mode) (d : Device) : Changes [.mode] d (d.withMc { d.mc with mode := m }) := by
  intro p hp
  cases p <;> simp_all [Part.Same]

theorem withController_changes (c : Controller) (n : Nat) (t : Timer) (d : Device) :
    Changes [.controller] d (d.withVbp { d.vbp with ctrl := c, txErrors := n, busSilence := t }) := by
  intro p hp
  cases p <;> simp_all [Part.Same]

theorem broadcastMode_changes (m : Mode) (c : ModeCause) (d : Device) :
    Changes [.modes, .notice .link] d (broadcastMode m c d) := .handFrame .mode _ d (by decide)

theorem wake_changes (c : ModeCause) (d : Device) : Changes [.mode, .controller, .modes, .notice .link] d (wake c d) :=
  ((withMode_changes .standby d).mono.trans (withController_changes .active d.vbp.txErrors .stopped _).mono).trans
    (broadcastMode_changes _ _ _).mono

/-- What a frame received can write, a wake included. -/
def Part.reception : List Part := [.mode, .controller, .modes, .rx, .roster, .notice .roster, .notice .link]

theorem frameReceived_changes (f : CanFrame) (d : Device) : Changes Part.reception d (frameReceived f d) := by
  unfold frameReceived
  split
  · exact .refl d
  · exact (withController_changes d.vbp.ctrl d.vbp.txErrors (.running 100) d).mono
  all_goals
    split
    · exact .refl d
    · exact .trans (.ite (wake_changes .bus d).mono (.refl d)) (bufferFrame_changes _ _ _).mono

theorem withInTx_changes (t : Option InTx) (d : Device) : Changes [.inTx] d (d.withTx { d.vbp.tx with inTx := t }) := by
  intro p hp
  cases p <;> simp_all [Part.Same]

theorem transmissionStart_changes (d : Device) : Changes [.inTx] d (transmissionStart d) := by
  unfold transmissionStart
  repeat' split
  · exact withInTx_changes _ d
  all_goals exact .refl d

/-- What the end of a transmission can write. -/
def Part.transmission : List Part :=
  [.orders, .replies, .modes, .awards, .inTx, .lastAward, .controller, .notice .link]

theorem popCurrent_changes (d : Device) : Changes Part.transmission d (d.withTx d.vbp.tx.popCurrent) := by
  intro p hp
  unfold TxQueue.popCurrent TxQueue.set
  repeat' split
  all_goals cases p <;> simp_all [Part.Same, Part.transmission]

theorem frameSent_changes (d : Device) : Changes Part.transmission d (frameSent d) := by
  unfold frameSent
  split
  · exact (popCurrent_changes d).trans
      (withController_changes d.vbp.ctrl (d.vbp.txErrors - 1) d.vbp.busSilence _).mono
  · exact .refl d

theorem forgetAward_changes (f : TxFrame) (d : Device) : Changes [.lastAward] d (forgetAward f d) := by
  unfold forgetAward
  split
  · intro p hp
    cases p <;> simp_all [Part.Same]
  · exact .refl d

theorem dropCurrent_changes (d : Device) : Changes Part.transmission d (dropCurrent d) := by
  unfold dropCurrent
  split
  · exact ((popCurrent_changes d).trans (.raise .link _ _)).trans (forgetAward_changes _ _).mono
  · exact .refl d

theorem retryOrDrop_changes (t : InTx) (d : Device) : Changes Part.transmission d (retryOrDrop t d) :=
  .ite (withInTx_changes _ d).mono (dropCurrent_changes d)

theorem arbitrationLost_changes (d : Device) : Changes Part.transmission d (arbitrationLost d) := by
  unfold arbitrationLost
  split
  · exact retryOrDrop_changes _ d
  · exact .refl d

theorem enterBusOff_changes (d : Device) : Changes Part.transmission d (enterBusOff d) :=
  .trans ((withInTx_changes (d.vbp.tx.inTx.map fun t => { t with retries := 0 }) d).mono.trans
    (withController_changes .busOff 255 (.running 100) _).mono) (.raise .link _ _)

theorem transmitError_changes (d : Device) : Changes Part.transmission d (transmitError d) := by
  unfold transmitError
  split
  · exact .ite (enterBusOff_changes d)
      ((withController_changes d.vbp.ctrl (d.vbp.txErrors + 8) d.vbp.busSilence d).mono.trans (retryOrDrop_changes _ _))
  · exact .refl d

theorem busOffRejoin_changes (d : Device) : Changes [.inTx, .controller] d (busOffRejoin d) := by
  unfold busOffRejoin TxQueue.resumed
  split
  · intro p hp
    split <;> cases p <;> simp_all [Part.Same]
  · exact .refl d

theorem busActivity_changes (d : Device) : Changes [.controller] d (busActivity d) :=
  .ite (withController_changes d.vbp.ctrl d.vbp.txErrors (.running 100) d) (.refl d)

theorem awardToQueue_changes (d : Device) : Changes [.awards, .awardQueue, .lastAward] d (awardToQueue d) := by
  unfold awardToQueue
  repeat' split
  any_goals exact .refl d
  intro p hp
  cases p <;> simp_all [Part.Same, TxQueue.set]

theorem silenceExpiry_changes (node : Nat) (d : Device) : Changes [.roster, .notice .roster] d (silenceExpiry node d) := by
  unfold silenceExpiry
  split
  · exact .refl d
  · exact .ite ((withRoster_changes _ d).mono.trans (.raise .roster _ _)) (.refl d)

theorem peerDeclaredLost_changes (node : Nat) (d : Device) : Changes [.rau] d (peerDeclaredLost node d) := by
  unfold peerDeclaredLost
  split
  · exact .refl d
  · exact .ite (withRau_changes _ d) (.refl d)

/-! ## The Mode Controller -/

theorem startSplit_changes (ms : Nat) (d : Device) : Changes [.splitTimer] d (startSplit ms d) := by
  intro p hp
  cases p <;> simp_all [Part.Same, startSplit]

theorem cancelSleep_changes (p : Option SleepCause) (d : Device) : Changes [.replyFifo] d (cancelSleep p d) := by
  unfold cancelSleep
  split
  · exact .placeReply _ _ _ _ d
  · exact .refl d

/-- What an entry into DRIVE can write. -/
def Part.driveEntry : List Part := [.mode, .parkTimers, .sleepPending, .splitTimer, .replyFifo, .modes, .notice .link]

theorem withModeTimers_changes (m : Mode) (t u : Timer) (c : Option SleepCause) (d : Device) :
    Changes [.mode, .parkTimers, .sleepPending] d
      (d.withMc { d.mc with mode := m, parkTimer := t, floorTimer := u, sleepPending := c }) := by
  intro p hp
  cases p <;> simp_all [Part.Same]

theorem driveEntry_changes (c : ModeCause) (d : Device) : Changes Part.driveEntry d (driveEntry c d) :=
  (((withModeTimers_changes .drive .stopped .stopped none d).mono.trans (startSplit_changes 10 _).mono).trans
    (cancelSleep_changes _ _).mono).trans (broadcastMode_changes _ _ _).mono

/-- What park entry can write. -/
def Part.parkEntry : List Part := [.mode, .parkTimers, .rau, .modes] ++ Part.sequencer

theorem parkEntry_changes (d : Device) : Changes Part.parkEntry d (parkEntry d) := by
  have hmode (t : Timer) (e : Device) :
      Changes Part.parkEntry e (e.withMc { e.mc with mode := .park, parkTimer := t, floorTimer := .stopped }) := by
    intro p hp
    cases p <;> simp_all [Part.Same, Part.parkEntry]
  exact (((modeChangeStop_sequenced d).changes.mono.trans (withRau_changes _ _).mono).trans (hmode _ _)).trans
    (broadcastMode_changes _ _ _).mono

theorem keyChange_changes (level : Bool) (d : Device) : Changes [.key] d (keyChange level d) := by
  unfold keyChange
  split
  · exact .refl d
  · intro p hp
    cases p <;> simp_all [Part.Same]

/-- What a KEY event can write beside the KEY levels: an entry into DRIVE or PARK, or a wake. -/
def Part.keyEvent : List Part := Part.driveEntry ++ Part.parkEntry ++ [.controller]

theorem keyEvent_changes (on : Bool) (d : Device) : Changes Part.keyEvent d (keyEvent on d) := by
  unfold keyEvent
  split
  · exact (parkEntry_changes d).mono
  · exact (driveEntry_changes .key d).mono
  · exact (wake_changes .key d).mono
  · exact .refl d

theorem deglitchExpiry_changes (d : Device) : Changes (.key :: Part.keyEvent) d (deglitchExpiry d) := by
  have hkey : Changes (.key :: Part.keyEvent) d
      (d.withMc { d.mc with key := d.mc.rawKey, deglitchTimer := .stopped }) := by
    intro p hp
    cases p <;> simp_all [Part.Same]
  exact .ite (hkey.trans (keyEvent_changes _ _).mono) (.refl d)

theorem startDriveAct_changes (f : SpiRequest) (d : Device) : Changes Part.driveEntry d (startDriveAct f d).dev := by
  unfold startDriveAct
  repeat' split
  any_goals exact .refl d
  exact driveEntry_changes .request d

theorem withSleepPending_changes (c : Option SleepCause) (d : Device) :
    Changes [.sleepPending] d (d.withMc { d.mc with sleepPending := c }) := by
  intro p hp
  cases p <;> simp_all [Part.Same]

theorem floorCheck_changes (m : Mode) (d : Device) : Changes [.parkTimers] d (floorCheck m d) := by
  unfold floorCheck
  split
  · intro p hp
    cases p <;> simp_all [Part.Same]
  · exact .refl d

/-! ## The Supervisor Link -/

/-- What the fall of chip select can write, a wake included. -/
def Part.fall : List Part := [.presented, .transaction, .mode, .controller, .modes, .notice .link]

theorem chipSelectFalling_changes (d : Device) : Changes Part.fall d (chipSelectFalling d) := by
  have hopen (e : Device) (w : Bool) :
      Changes Part.fall e (e.withSl { e.sl with presented := some (present e), csLow := true, waking := w }) := by
    intro p hp
    cases p <;> simp_all [Part.Same, Part.fall]
  unfold chipSelectFalling
  split
  · exact .refl d
  · exact .trans (.ite (wake_changes .link d).mono (.refl d)) (hopen _ _)

/-- What the rise of chip select can write. -/
def Part.rise : List Part := [.presented, .transaction, .requests, .replyFifo, .flags]

theorem chipSelectRising_changes (mosi : List Byte) (d : Device) : Changes Part.rise d (chipSelectRising mosi d) := by
  have hsettle : ∀ (n : Nat) (l : Link), (l.settle n).mirror = l.mirror ∧ (l.settle n).notices = l.notices := by
    intro n l
    unfold Link.settle Link.clearShown
    repeat' split
    all_goals simp
  have hreceive : ∀ (j : Judgement) (l : Link), (l.receive j).mirror = l.mirror ∧ (l.receive j).notices = l.notices := by
    intro j l
    unfold Link.receive
    repeat' split
    all_goals simp
  unfold chipSelectRising
  split
  · intro p hp
    cases p <;> simp_all [Part.Same, Part.rise]
  · exact .refl d

theorem replyAgeExpiry_changes (d : Device) : Changes [.replyFifo] d (replyAgeExpiry d) := by
  intro p hp
  cases p <;> simp_all [Part.Same, replyAgeExpiry]

/-! ## The Split Engine -/

theorem withBc_changes (x : Combiner) (d : Device) : Changes [.combiner] d (d.withBc x) := by
  intro p hp
  cases p <;> simp_all [Part.Same]

theorem raiseIfOpens_changes (before after : Bool) (q : SupplyQty) (d : Device) :
    Changes [.notice .supplyFault] d (raiseIfOpens before after q d) := .ite (.raise .supplyFault _ d) (.refl d)

theorem makeCombination_changes (snap : Snapshot) (d : Device) :
    Changes [.combiner, .notice .supplyFault] d (makeCombination snap d) :=
  ((((raiseIfOpens_changes _ _ _ d).trans (raiseIfOpens_changes _ _ _ _)).trans (raiseIfOpens_changes _ _ _ _)).mono).trans
    (withBc_changes _ _).mono

theorem markRetiring_changes (d : Device) : Changes [.slots] d (markRetiring d) := by
  intro p hp
  cases p <;> simp_all [Part.Same, markRetiring]

theorem withPass_changes (p : Option Pass) (d : Device) : Changes [.pass] d (d.withSe { d.se with pass := p }) := by
  intro p hp
  cases p <;> simp_all [Part.Same]

/-- What the beginning of a pass can write. -/
def Part.beginning : List Part := [.slots, .splitTimer, .pass, .combiner, .notice .supplyFault]

theorem beginPass_changes (d : Device) : Changes Part.beginning d (beginPass d) :=
  (((markRetiring_changes d).mono.trans (startSplit_changes _ _).mono).trans (makeCombination_changes _ _).mono).trans
    (withPass_changes _ _).mono

theorem splitExpiry_changes (d : Device) : Changes Part.beginning d (splitExpiry d) :=
  .ite (beginPass_changes d) (.refl d)

/-- What the Split Engine's part of a completion can write. -/
def Part.publication : List Part := [.pass, .splitRest, .notice .shortfall] ++ Part.records

theorem publishPass_changes (p : Pass) (d : Device) : Changes Part.publication d (publishPass p d) := by
  have hpass (x : Vector Slot 48) :
      Changes Part.publication d ((d.withTbl { d.tbl with slots := x }).withSe (d.se.completed p)) := by
    intro p hp
    cases p <;> simp_all [Part.Same, Part.publication, Part.records, SplitEngine.completed]
  have hshort (e : Device) : Changes Part.publication e (raiseShortfall p.fig d.se.shortfall e) :=
    .ite (.raise .shortfall _ e) (.refl e)
  have hfree (which : SlotNo → Bool) (e : Device) : Changes Part.publication e (freeSlots which e) :=
    (ChangesRecordsOnly.freeSlots which e).changes.mono
  unfold publishPass
  exact ((hpass _).trans (hshort _)).trans (hfree _ _)

theorem queueAwards_changes (new : List AwardEntry) (d : Device) : Changes [.awardQueue, .draws] d (queueAwards new d) := by
  intro p hp
  cases p <;> simp_all [Part.Same, queueAwards]

/-- A completion up to the pending SLEEP entry that can end it (R83, R137). -/
def completed (p : Pass) (d : Device) : Device :=
  let d' := publishPass p d
  let d' := queueAwards (handedAwards (writtenAnswers p d.tbl.slots) d') d'
  let d' := evaluate (handedFigures p d'.se.shortfall) d'
  floorCheck p.snap.mode d'

theorem completePass_eq (p : Pass) (d : Device) : completePass p d = sleepIfPending (completed p d) := rfl

/-- What a completion can write, a pending SLEEP entry apart. -/
def Part.completion : List Part := [.draws, .parkTimers] ++ Part.publication ++ Part.sequencer

theorem completed_changes (p : Pass) (d : Device) : Changes Part.completion d (completed p d) :=
  (((publishPass_changes p d).mono.trans (queueAwards_changes _ _).mono).trans (evaluate_sequenced _ _).changes.mono).trans
    (floorCheck_changes _ _).mono

end Sys2Proof.Machine
end

section
/-! PROOFS. What each command can write, and the rules about two moments of a run that follow from it: a pass in flight
is left alone (R82), and the modes follow their graph (chapter 7). -/

namespace Sys2Proof.Machine

-- A default proof `by decide` waits for the kernel: side by side the proofs would ask for a thread each.
set_option Elab.async false

/-! ## The parts that a command can write -/

/-- The parts that a command can write, DEVICE_RESET and a SLEEP entry made in the same act apart. -/
def touches : Instr → List Part
  | .deviceReset _ _ => []
  | .claim | .amend | .amendCommit | .commit | .renew | .renewWithValue | .release | .purge | .query | .queryField
  | .lookup | .unknownKindRecordRequest => Part.recordRequest
  | .configWrite => Part.answering ++ [.config, .genset]
  | .configRead | .resultRead | .rosterRead | .mirroredFrame | .linkBadRequest => Part.answering ++ []
  | .configDone => Part.answering ++ .config :: Part.reinitialise
  | .startDrive => Part.answering ++ Part.driveEntry
  | .sleep => Part.answering ++ [.sleepPending]
  | .forceGenset => Part.answering ++ Part.sequencer
  | .clearLockout => Part.answering ++ [.genset]
  | .noticeRead => Part.answering ++ NoticeKind.all.map .notice
  | .linkReset => Part.answering ++ [.requests, .replyFifo, .flags, .presented, .mirrorMode]
  | .busRestart => Part.answering ++ (Part.sequencer ++ Part.reinitialise)
  | .mirror => Part.answering ++ [.mirrorMode]
  | .hello => [.rx, .draws, .replies] ++ Part.enrolment
  | .engineReport => .rx :: Part.sequencer
  | .chipSelectFalling => Part.fall
  | .chipSelectRising _ => Part.rise
  | .frameReceived _ => Part.reception
  | .transmissionStart => [.inTx]
  | .frameSent | .arbitrationLost | .transmitError => Part.transmission
  | .busOffRejoin => [.inTx, .controller]
  | .awardToTransmitQueue => [.awards, .awardQueue, .lastAward]
  | .peerLossPurgeSet _ => Part.peerLoss
  | .parkEntryPurgeSet => .rau :: Part.records
  | .editTimerExpiry _ => Part.editExpiry
  | .renewalExpiry _ => [.slots, .rta, .notice .recordStale]
  | .splitTimerExpiry => Part.beginning
  | .passCompletion => Part.completion
  | .crankTimerExpiry | .warmTimerExpiry | .cooldownTimerExpiry | .acknowledgementTimerExpiry => Part.sequencer
  | .minOnTimerExpiry | .minOffTimerExpiry => [.genset]
  | .keyLevelChange _ => [.key]
  | .deglitchTimerExpiry => .key :: Part.keyEvent
  | .parkTimerExpiry | .floorTimerExpiry => [.parkTimers, .sleepPending]
  | .silenceExpiry _ => [.roster, .notice .roster]
  | .peerDeclaredLost _ => [.rau]
  | .replyAgeExpiry => [.replyFifo]
  | .busActivity => [.controller]

/-- A command that can end in a SLEEP entry (R138). -/
def canSleep : Instr → Bool
  | .sleep | .parkTimerExpiry | .floorTimerExpiry | .passCompletion => true
  | _ => false

/-- The command ends in a SLEEP entry, made on a device `e` that differs from `d` in parts the command can write: in PARK
between passes, or at the completion that a pending one waited for (R138). -/
def SleepsThrough (c : Instr) (d d' : Device) : Prop :=
  canSleep c = true ∧ ∃ cause e, d' = sleepEntry cause e ∧ Changes (touches c) d e ∧
    (d.mc.mode = .park ∧ d.se.pass = none ∨ c = .passCompletion ∧ d.mc.sleepPending.isSome)

/-- What a command comes to: it writes its own parts alone, or ends in a SLEEP entry. -/
def Acts (c : Instr) (d d' : Device) : Prop := Changes (touches c) d d' ∨ SleepsThrough c d d'

theorem sleepCause_cases (c : SleepCause) (d : Device) :
    Changes [.sleepPending] d (sleepCause c d) ∨ (sleepCause c d = sleepEntry c d ∧ d.se.pass = none) := by
  unfold sleepCause
  split
  · exact .inr ⟨rfl, ‹_›⟩
  · exact .inl (withSleepPending_changes _ d)

theorem sleepRequest_acts (d : Device) : Acts .sleep d (sleepRequest d) := by
  have hdrop : Changes (touches .sleep) d (dropHead d) := (dropHead_changes d).mono
  have hanswer (f : SpiRequest) (r : Result) (p : List Byte) :
      Acts .sleep d (finish f ((dropHead d).answered r p)) :=
    .inl (hdrop.trans (finish_changes f ((dropHead d).answered r p)).mono)
  unfold sleepRequest takeRequest takeHead
  split
  · exact .inl (.refl d)
  · next f _ _ =>
    split
    case isFalse => exact .inl (.refl d)
    unfold sleepAct
    split
    case h_1 hpark =>
      split
      · exact hanswer _ _ _
      · split
        case isTrue =>
          obtain h | ⟨h, hpass⟩ := sleepCause_cases (.request f.tag) (dropHead d)
          · exact .inl (hdrop.trans h.mono)
          · exact .inr ⟨rfl, _, _, h, hdrop, .inl ⟨hpark, hpass⟩⟩
        case isFalse => exact hanswer _ _ _
    all_goals exact hanswer _ _ _

theorem withParkTimer_changes (t : Timer) (d : Device) :
    Changes [.parkTimers] d (d.withMc { d.mc with parkTimer := t }) := by
  intro p hp
  cases p <;> simp_all [Part.Same]

theorem withFloorTimer_changes (t : Timer) (d : Device) :
    Changes [.parkTimers] d (d.withMc { d.mc with floorTimer := t }) := by
  intro p hp
  cases p <;> simp_all [Part.Same]

/-- A park timer's expiry, once its timer is stopped. -/
theorem timedSleep_acts {c : Instr} {cause : SleepCause} {d e : Device} (hc : canSleep c = true)
    (he : Changes (touches c) d e) (hmode : e.mc.mode = d.mc.mode) (hpass : e.se.pass = d.se.pass)
    (hin : .sleepPending ∈ touches c) : Acts c d (if e.mc.mode = .park then sleepCause cause e else e) := by
  split
  case isFalse => exact .inl he
  case isTrue hpark =>
    obtain h | ⟨h, hnone⟩ := sleepCause_cases cause e
    · exact .inl (he.trans (h.mono (by simpa using hin)))
    · exact .inr ⟨hc, _, _, h, he, .inl ⟨hmode ▸ hpark, hpass ▸ hnone⟩⟩

theorem parkExpiry_acts (d : Device) : Acts .parkTimerExpiry d (parkExpiry d) := by
  unfold parkExpiry
  split
  · exact timedSleep_acts rfl (withParkTimer_changes _ d).mono rfl rfl (by decide)
  · exact .inl (.refl d)

theorem floorExpiry_acts (d : Device) : Acts .floorTimerExpiry d (floorExpiry d) := by
  unfold floorExpiry
  split
  · exact timedSleep_acts rfl (withFloorTimer_changes _ d).mono rfl rfl (by decide)
  · exact .inl (.refl d)

theorem completed_sleepPending (p : Pass) (d : Device) : (completed p d).mc.sleepPending = d.mc.sleepPending :=
  (completed_changes p d).same .sleepPending

theorem passCompletion_acts (d : Device) : Acts .passCompletion d (passCompletion d) := by
  unfold passCompletion
  split
  · next p _ =>
    rw [completePass_eq]
    unfold sleepIfPending
    split
    · next cause hpending =>
      rw [completed_sleepPending] at hpending
      exact .inr ⟨rfl, cause, _, rfl, completed_changes p d, .inr ⟨rfl, by simp [hpending]⟩⟩
    · exact .inl (completed_changes p d)
  · exact .inl (.refl d)

/-- Every command but DEVICE_RESET writes its own parts alone, or ends in a SLEEP entry. -/
theorem actOf_acts (c : Instr) (d : Device) (hc : ∀ k m, c ≠ .deviceReset k m) : Acts c d (actOf c d) := by
  cases c with
  | deviceReset k m => exact absurd rfl (hc k m)
  | sleep => exact sleepRequest_acts d
  | parkTimerExpiry => exact parkExpiry_acts d
  | floorTimerExpiry => exact floorExpiry_acts d
  | passCompletion => exact passCompletion_acts d
  | claim | amend | amendCommit | commit | renew | renewWithValue | release | purge | query | queryField | lookup
  | unknownKindRecordRequest => exact .inl (takeRecord_changes _ d)
  | configWrite => exact .inl (takeHead_changes configWriteAct_changes d)
  | configRead => exact .inl (takeHead_changes configReadAct_changes d)
  | configDone => exact .inl (takeHead_changes configDoneAct_changes d)
  | startDrive => exact .inl (takeHead_changes startDriveAct_changes d)
  | forceGenset => exact .inl (takeHead_changes forceGensetAct_changes d)
  | clearLockout => exact .inl (takeHead_changes clearLockoutAct_changes d)
  | noticeRead => exact .inl (takeHead_changes noticeReadAct_changes d)
  | linkReset => exact .inl (takeHead_changes linkResetAct_changes d)
  | busRestart => exact .inl (takeHead_changes busRestartAct_changes d)
  | mirror => exact .inl (takeHead_changes mirrorAct_changes d)
  | resultRead | rosterRead | mirroredFrame | linkBadRequest =>
    exact .inl (takeHead_changes (fun _ d => .refl d) d)
  | hello => exact .inl (hello_changes d)
  | engineReport => exact .inl (engineReport_changes d)
  | chipSelectFalling => exact .inl (chipSelectFalling_changes d)
  | chipSelectRising mosi => exact .inl (chipSelectRising_changes mosi d)
  | frameReceived frame => exact .inl (frameReceived_changes frame d)
  | transmissionStart => exact .inl (transmissionStart_changes d)
  | frameSent => exact .inl (frameSent_changes d)
  | arbitrationLost => exact .inl (arbitrationLost_changes d)
  | transmitError => exact .inl (transmitError_changes d)
  | busOffRejoin => exact .inl (busOffRejoin_changes d)
  | awardToTransmitQueue => exact .inl (awardToQueue_changes d)
  | peerLossPurgeSet node => exact .inl (peerLossPurge_changes node d)
  | parkEntryPurgeSet => exact .inl (parkEntryPurge_changes d)
  | editTimerExpiry bank => exact .inl (editExpiryOf_changes bank d)
  | renewalExpiry slot => exact .inl (renewalExpiryOf_changes slot d)
  | splitTimerExpiry => exact .inl (splitExpiry_changes d)
  | crankTimerExpiry => exact .inl (crankExpiry_sequenced d).changes
  | warmTimerExpiry => exact .inl (warmExpiry_sequenced d).changes
  | cooldownTimerExpiry => exact .inl (cooldownExpiry_sequenced d).changes
  | minOnTimerExpiry => exact .inl (minOnExpiry_changes d)
  | minOffTimerExpiry => exact .inl (minOffExpiry_changes d)
  | acknowledgementTimerExpiry => exact .inl (ackExpiry_sequenced d).changes
  | keyLevelChange level => exact .inl (keyChange_changes level d)
  | deglitchTimerExpiry => exact .inl (deglitchExpiry_changes d)
  | silenceExpiry node => exact .inl (silenceExpiry_changes node d)
  | peerDeclaredLost node => exact .inl (peerDeclaredLost_changes node d)
  | replyAgeExpiry => exact .inl (replyAgeExpiry_changes d)
  | busActivity => exact .inl (busActivity_changes d)

/-! ## A pass in flight (R82) -/

theorem splitExpiry_of_pass {d : Device} {p : Pass} (h : d.se.pass = some p) : splitExpiry d = d := by
  simp [splitExpiry, h]

theorem actOf_pass {c : Instr} {d : Device} {p : Pass} (hp : d.se.pass = some p) (hc : c ≠ .passCompletion)
    (hreset : ∀ k m, c ≠ .deviceReset k m) : (actOf c d).se.pass = some p := by
  by_cases hsplit : c = .splitTimerExpiry
  · subst hsplit
    rw [actOf, splitExpiry_of_pass hp, hp]
  · obtain h | ⟨-, _, _, -, -, ⟨-, hnone⟩ | ⟨hcomp, -⟩⟩ := actOf_acts c d hreset
    · have hkept : Part.pass ∉ touches c := by
        cases c with
        | passCompletion => exact absurd rfl hc
        | splitTimerExpiry => exact absurd rfl hsplit
        | _ => exact of_decide_eq_false rfl
      have hsame : (actOf c d).se.pass = d.se.pass := h.same .pass hkept
      rw [hsame, hp]
    · simp [hp] at hnone
    · exact absurd hcomp hc

/-- Settles O59: of the other commands only SPLIT_TIMER_EXPIRY writes the pass, and does so with none in flight; a SLEEP
entry in the same act is made between passes. -/
theorem passInFlightUntouched : Obligations.PassInFlightUntouched := by
  intro s t c p hp hexec hc hreset
  rw [dev_of_exec hexec]
  exact actOf_pass hp hc hreset

/-! ## The mode graph (chapter 7) -/

theorem sleepEntry_mode (c : SleepCause) (d : Device) : (sleepEntry c d).mc.mode = .sleep := rfl

theorem finish_mode (f : SpiRequest) (t : Taken) : (finish f t).mc.mode = t.dev.mc.mode := by
  rw [finish_mc]

theorem startDrive_mode (d : Device) :
    (startDrive d).mc.mode = d.mc.mode ∨
      (startDrive d).mc.mode = .drive ∧ d.mc.mode = .standby ∧ d.mc.key = true ∧ d.cs.valid = true := by
  unfold startDrive takeRequest takeHead
  split
  · exact .inl rfl
  split
  case isFalse => exact .inl rfl
  rw [finish_mode]
  unfold startDriveAct
  split
  case h_1 hstandby =>
    split
    case isTrue hready =>
      have hkey := Bool.and_eq_true_iff.mp hready
      exact .inr ⟨driveEntry_mode _ _, hstandby, hkey.1, hkey.2⟩
    case isFalse => exact .inl rfl
  all_goals exact .inl rfl

theorem chipSelectFalling_mode (d : Device) :
    (chipSelectFalling d).mc.mode = if d.mc.mode = .sleep && !d.sl.csLow then .standby else d.mc.mode := by
  unfold chipSelectFalling
  split
  · simp [*]
  · by_cases h : d.mc.mode = .sleep <;> simp_all

theorem frameReceived_mode (f : CanFrame) (d : Device) :
    (frameReceived f d).mc.mode = d.mc.mode ∨ (frameReceived f d).mc.mode = .standby ∧ d.mc.mode = .sleep := by
  have hbuffer (n : Nat) (e : Device) : (bufferFrame n f.data e).mc.mode = e.mc.mode :=
    (bufferFrame_changes n f.data e).same .mode
  unfold frameReceived
  split
  · exact .inl rfl
  · exact .inl rfl
  all_goals
    split
    · exact .inl rfl
    · rw [hbuffer]
      split
      · exact .inr ⟨wake_mode _ _, ‹_›⟩
      · exact .inl rfl

theorem keyEvent_mode (on : Bool) (d : Device) :
    (keyEvent on d).mc.mode = d.mc.mode ∨
      (keyEvent on d).mc.mode = .park ∧ d.mc.mode = .drive ∧ on = false ∨
      (keyEvent on d).mc.mode = .drive ∧ d.mc.mode = .park ∧ on = true ∨
      (keyEvent on d).mc.mode = .standby ∧ d.mc.mode = .sleep ∧ on = true := by
  unfold keyEvent
  split
  case h_1 h => exact .inr (.inl ⟨parkEntry_mode d, h, rfl⟩)
  case h_2 h => exact .inr (.inr (.inl ⟨driveEntry_mode _ d, h, rfl⟩))
  case h_3 h => exact .inr (.inr (.inr ⟨wake_mode _ d, h, rfl⟩))
  case h_4 => exact .inl rfl

theorem deglitchExpiry_mode (d : Device) :
    (deglitchExpiry d).mc.mode = d.mc.mode ∨
      (deglitchExpiry d).mc.mode = .park ∧ d.mc.mode = .drive ∧ d.mc.rawKey = false ∨
      (deglitchExpiry d).mc.mode = .drive ∧ d.mc.mode = .park ∧ d.mc.rawKey = true ∨
      (deglitchExpiry d).mc.mode = .standby ∧ d.mc.mode = .sleep ∧ d.mc.rawKey = true := by
  unfold deglitchExpiry
  split
  · exact keyEvent_mode _ _
  · exact .inl rfl

theorem actOf_mode {c : Instr} {d : Device} (hmode : ModeSound d) (hreset : ∀ k m, c ≠ .deviceReset k m)
    (hkeeps : Part.mode ∉ touches c) :
    (actOf c d).mc.mode = d.mc.mode ∨
      (actOf c d).mc.mode = .sleep ∧ d.mc.mode = .park ∧ canSleep c = true := by
  obtain h | ⟨hsleep, cause, e, heq, -, hfrom⟩ := actOf_acts c d hreset
  · exact .inl (h.same .mode hkeeps)
  · obtain ⟨-, -, -, -, hpending, -⟩ := hmode
    refine .inr ⟨heq ▸ sleepEntry_mode cause e, ?_, hsleep⟩
    obtain ⟨hpark, -⟩ | ⟨-, hsome⟩ := hfrom
    · exact hpark
    · exact (hpending hsome).1

/-- Settles O58: START_DRIVE, the two wakes from outside and the deglitch timer's expiry are the commands that write the
mode, each along its edge; any other changes it only by a SLEEP entry, which is made from PARK. -/
theorem modesFollowTheirGraph : Obligations.ModesFollowTheirGraph := by
  intro s t c hmode hexec hreset hne
  rw [dev_of_exec hexec] at hne ⊢
  cases c with
  | startDrive =>
    obtain h | ⟨h, hfrom, hkey, hvalid⟩ := startDrive_mode s.dev
    · exact absurd h hne
    · simp_all [actOf]
  | chipSelectFalling =>
    have h := chipSelectFalling_mode s.dev
    by_cases hsleep : s.dev.mc.mode = .sleep <;> simp_all [actOf]
  | frameReceived f =>
    obtain h | ⟨h, hfrom⟩ := frameReceived_mode f s.dev
    · exact absurd h hne
    · simp_all [actOf]
  | deglitchTimerExpiry =>
    obtain h | ⟨h, hfrom, hkey⟩ | ⟨h, hfrom, hkey⟩ | ⟨h, hfrom, hkey⟩ := deglitchExpiry_mode s.dev
    · exact absurd h hne
    all_goals simp_all [actOf]
  | sleep | parkTimerExpiry | floorTimerExpiry | passCompletion =>
    obtain h | ⟨h, hfrom, -⟩ := actOf_mode hmode hreset (by decide)
    · exact absurd h hne
    · simp_all
  | deviceReset k m => exact absurd rfl (hreset k m)
  | _ =>
    obtain h | ⟨-, -, hsleep⟩ := actOf_mode hmode hreset (of_decide_eq_false rfl)
    · exact absurd h hne
    · simp [canSleep] at hsleep

end Sys2Proof.Machine
end

section
/-! PROOFS. The machine's own statements: a step, the passing of 1 ms, reset (chapter 0, R22), and the soundness of the
device after reset. -/

namespace Sys2Proof.Machine

-- A default proof `by decide` waits for the kernel: side by side the proofs would ask for a thread each.
set_option Elab.async false

/-! ## Steps -/

/-- Settles O1: step on a queue with a front command, by definition. -/
theorem stepRunsFrontCommand : Obligations.StepRunsFrontCommand := by
  intro s c rest h
  simp [step, h]

/-- Settles O3: every command is one act on the device (`exec_eq`). -/
theorem everyCommandAnswersNext : Obligations.EveryCommandAnswersNext :=
  fun c s => ⟨actOf c s.dev, exec_eq c s⟩

/-! ## The passing of 1 ms (log 2) -/

@[simp] theorem tick_slot (d : Device) (i : SlotNo) : (tick d).slot i = d.slot i := rfl

@[simp] theorem tick_buffer (d : Device) (b : BankNo) : (tick d).buffer b = (d.buffer b).map EditBuffer.tick := by
  simp [tick, Device.buffer]

@[simp] theorem tick_rtaOf (d : Device) (i : SlotNo) : (tick d).rtaOf i = (d.rtaOf i).tick := by
  simp [tick, Device.rtaOf]

/-- A way to lower timers that agrees with the model's on a stopped and on a running timer is the model's. -/
theorem Timer.eq_tick {less : Timer → Timer} (hstopped : less .stopped = .stopped)
    (hrunning : ∀ n, less (.running n) = .running (n - 1)) : less = Timer.tick := by
  funext t
  cases t with
  | stopped => exact hstopped
  | running n => exact hrunning n

theorem PhaseTimer.eq_tick {less : PhaseTimer → PhaseTimer} (hstopped : less .stopped = .stopped)
    (helapsed : less .elapsed = .elapsed) (hrunning : ∀ n, less (.running n) = .running (n - 1)) :
    less = PhaseTimer.tick := by
  funext t
  cases t with
  | stopped => exact hstopped
  | elapsed => exact helapsed
  | running n => exact hrunning n

/-- Settles O2: a step on an empty queue is `tick`, whose effect on each block is read off. -/
theorem idleStepPassesOneMillisecond : Obligations.IdleStepPassesOneMillisecond := by
  intro s less lessPhase hpending hstopped hrunning hpstopped hpelapsed hprunning
  obtain rfl := Timer.eq_tick hstopped hrunning
  obtain rfl := PhaseTimer.eq_tick hpstopped hpelapsed hprunning
  exact ⟨tick s.dev, by simp [step, hpending], rfl, rfl, fun i => ⟨rfl, tick_rtaOf s.dev i⟩, tick_buffer s.dev, rfl, rfl,
    rfl, rfl, rfl, rfl, rfl, rfl⟩

/-! ## Reset (R22) -/

/-- The table, the renewal entries and the last sent awards at their device-reset values, which a SLEEP entry gives them too
(R22, R23). -/
def Device.HasNoRecords (d : Device) : Prop :=
  d.tbl = .cleared ∧ d.rta = Vector.replicate 48 .cleared ∧ d.vbp.lastAward = Vector.replicate 48 none

theorem Device.HasNoRecords.slot {d : Device} (h : d.HasNoRecords) (i : SlotNo) :
    d.slot i = { generation := 0, content := .free } := by
  simp [Device.slot, h.1, AllotmentTable.cleared, Slot.cleared]

theorem Device.HasNoRecords.buffer {d : Device} (h : d.HasNoRecords) (b : BankNo) : d.buffer b = none := by
  simp [Device.buffer, h.1, AllotmentTable.cleared]

theorem Device.HasNoRecords.rtaOf {d : Device} (h : d.HasNoRecords) (i : SlotNo) : d.rtaOf i = .cleared := by
  simp [Device.rtaOf, h.2.1]

theorem Device.HasNoRecords.lastAward {d : Device} (h : d.HasNoRecords) (i : SlotNo) : d.vbp.lastAward[i] = none := by
  simp [h.2.2]

theorem deviceReset_hasNoRecords (k : Bool) (m : SpiMode) (d : Device) : (deviceReset k m d).HasNoRecords :=
  ⟨rfl, rfl, rfl⟩

theorem sleepEntry_hasNoRecords (c : SleepCause) (d : Device) : (sleepEntry c d).HasNoRecords := ⟨rfl, rfl, rfl⟩

theorem deviceReset_isReset (k : Bool) (m : SpiMode) (d : Device) : (deviceReset k m d).IsReset k m := by
  have hclear := deviceReset_hasNoRecords k m d
  refine ⟨fun i => ⟨hclear.slot i, hclear.rtaOf i, hclear.lastAward i⟩, hclear.buffer, ?_⟩
  have hnotices : ∀ kind : NoticeKind, (deviceReset k m d).sl.notices.get kind = none := by
    intro kind
    cases kind <;> rfl
  have htimer : (deviceReset k m d).mc.deglitchTimer.isRunning = k := by
    cases k <;> rfl
  refine ⟨rfl, rfl, rfl, rfl, rfl, rfl, rfl, rfl, rfl, rfl, rfl, rfl, rfl, rfl, rfl, rfl, rfl, rfl, rfl, rfl, rfl, rfl, rfl,
    rfl, rfl, rfl, htimer, rfl, rfl, rfl, rfl, rfl, rfl, rfl, rfl, rfl, rfl, rfl, rfl, rfl, rfl, rfl, rfl, hnotices, rfl,
    rfl, rfl, rfl⟩

/-- Settles O4: the reset values are those of `deviceReset`, of which State.reset is the one with KEY off and clock mode 0. -/
theorem resetGivesEveryBlockItsValues : Obligations.ResetGivesEveryBlockItsValues := by
  refine ⟨deviceReset_isReset false .mode0 State.reset.dev, rfl, fun s k m => ?_⟩
  exact ⟨_, exec_eq _ s, deviceReset_isReset k m s.dev, fun hk => by subst hk; rfl⟩

/-! ## Soundness after reset -/

theorem ConfigSet.factory_inRange : ConfigSet.factory.InRange := by decide

theorem deviceReset_modeSound (k : Bool) (m : SpiMode) (d : Device) : ModeSound (deviceReset k m d) := by
  cases k <;>
    simp [ModeSound, deviceReset, Device.afterReset, ModeController.afterReset, SplitEngine.cleared, Timer.isRunning,
      Mode.noPasses]

theorem deviceReset_gensetSound (k : Bool) (m : SpiMode) (d : Device) : GensetSound (deviceReset k m d) := by
  simp [GensetSound, deviceReset, Device.afterReset, ModeController.afterReset, Genset.cleared, ConfigSet.factory,
    Timer.isRunning, GensetState.atRest]

theorem deviceReset_configSound (k : Bool) (m : SpiMode) (d : Device) : ConfigSound (deviceReset k m d) := by
  have hcs : (deviceReset k m d).cs = .factory := rfl
  have hmode : (deviceReset k m d).mc.mode = .standby := rfl
  have hvalid : ConfigSet.factory.valid = false := rfl
  unfold ConfigSound
  rw [hcs, hmode, hvalid]
  exact ⟨ConfigSet.factory_inRange, nofun, fun h => absurd rfl h⟩

theorem deviceReset_sound (k : Bool) (m : SpiMode) (d : Device) : (deviceReset k m d).Sound := by
  have hclear := deviceReset_hasNoRecords k m d
  have hslot := hclear.slot
  have hbuffer := hclear.buffer
  have hrta := hclear.rtaOf
  have hnone {α : Type} {p : α → Prop} : ∀ x ∈ ([] : List α), p x := fun _ hx => absurd hx List.not_mem_nil
  have hpass : (deviceReset k m d).se.pass = none := rfl
  refine ⟨?queues, ?orders, ?roster, ?buffers, ?unique, ?owners, ?images, ?renewal, ?modes, ?empty, ?genset, ?config, ?pass,
    ?held⟩
  case queues =>
    exact ⟨Nat.zero_le _, Nat.zero_le _, Nat.zero_le _, Nat.zero_le _, Nat.zero_le _, List.nodup_nil⟩
  case orders => exact ⟨Nat.zero_le _, Nat.zero_le _, hnone⟩
  case roster => exact ⟨.nil, hnone, Nat.zero_le _, hnone⟩
  case buffers => simp [BufferSound, hslot, hbuffer, Content.isDraft]
  case unique => simp [UniqueSound, hslot, Content.ident?]
  case owners => simp [OwnerSound, hslot, Content.isDraft, Content.isUsed]
  case images => simp [ImageSound, hslot, hbuffer, Content.record?]
  case renewal => simp [RenewalSound, hslot, hrta, RenewalEntry.cleared, Timer.isRunning]
  case modes => exact deviceReset_modeSound k m d
  case empty => exact ⟨fun _ => ⟨fun i => by rw [hslot]; rfl, hbuffer⟩, nofun⟩
  case genset => exact deviceReset_gensetSound k m d
  case config => exact deviceReset_configSound k m d
  case pass => simp [PassSound, hpass]
  case held => simp [HeldSound, hpass]

/-- Settles O52: invariant by invariant, on the reset values. -/
theorem soundAtReset : Obligations.SoundAtReset := by
  refine ⟨deviceReset_sound false .mode0 State.reset.dev, fun s t k m h => ?_⟩
  rw [dev_of_exec h]
  exact deviceReset_sound k m s.dev

end Sys2Proof.Machine
end

section
/-! PROOFS. The table as commands change it: the acts that write records, each read slot by slot, and the few changes of a
slot they make. -/

namespace Sys2Proof.Machine

-- A default proof `by decide` waits for the kernel: side by side the proofs would ask for a thread each.
set_option Elab.async false

/-! ## The acts that write records, slot by slot -/

@[simp] theorem openDraft_slot_same (x : Identity) (t : Nat) (i : SlotNo) (d : Device) :
    (openDraft x t i d).slot i = { generation := (d.slot i).generation + 1, content := .draft x t } := by
  simp [openDraft]

theorem openDraft_slot_other (x : Identity) (t : Nat) {i j : SlotNo} (d : Device) (h : j ≠ i) :
    (openDraft x t i d).slot j = d.slot j := by
  simp [openDraft, Device.slot_setSlot_other _ _ h]

@[simp] theorem openDraft_buffer_same (x : Identity) (t : Nat) (i : SlotNo) (d : Device) :
    (openDraft x t i d).buffer (bankOf i) =
      some { slot := i, image := .default x.owner x.cls t, marks := .clear, timer := 100 } := by
  simp [openDraft, editMs]

theorem openDraft_buffer_other (x : Identity) (t : Nat) {i : SlotNo} {b : BankNo} (d : Device) (h : b ≠ bankOf i) :
    (openDraft x t i d).buffer b = d.buffer b := by
  simp [openDraft, Device.buffer_setBuffer_other _ _ h]

@[simp] theorem openDraft_rtaOf_same (x : Identity) (t : Nat) (i : SlotNo) (d : Device) :
    (openDraft x t i d).rtaOf i = { d.rtaOf i with timer := .stopped, lapse := 0 } := by
  simp [openDraft]

theorem openDraft_rtaOf_other (x : Identity) (t : Nat) {i j : SlotNo} (d : Device) (h : j ≠ i) :
    (openDraft x t i d).rtaOf j = d.rtaOf j := by
  simp [openDraft, Device.rtaOf_setRta_other _ _ h]

theorem commitImage_slot_same (i : SlotNo) (img : Image) (d : Device) :
    (commitImage i img d).slot i = { d.slot i with content := (d.slot i).content.committedAs img } := by
  simp only [commitImage, Device.slot_setBuffer]
  split
  · next h => simp [h, Content.committedAs]
  · next h =>
    have hcommitted : (d.slot i).content.committedAs img = (d.slot i).content.mapRecord fun r => { r with image := img } := by
      cases hc : (d.slot i).content with
      | draft x t => exact absurd hc (h x t)
      | _ => rfl
    split <;> simp [hcommitted]

theorem commitImage_slot_other {i j : SlotNo} (img : Image) (d : Device) (h : j ≠ i) :
    (commitImage i img d).slot j = d.slot j := by
  simp only [commitImage]
  repeat' split
  all_goals simp [Device.slot_setContent_other _ _ h]

theorem commitImage_buffer (i : SlotNo) (img : Image) (d : Device) (b : BankNo) :
    (commitImage i img d).buffer b = (d.setBuffer (bankOf i) none).buffer b := by
  simp only [commitImage]
  repeat' split
  all_goals simp

@[simp] theorem commitImage_buffer_same (i : SlotNo) (img : Image) (d : Device) :
    (commitImage i img d).buffer (bankOf i) = none := by
  rw [commitImage_buffer, Device.buffer_setBuffer_same]

theorem commitImage_buffer_other {i : SlotNo} (img : Image) (d : Device) {b : BankNo} (h : b ≠ bankOf i) :
    (commitImage i img d).buffer b = d.buffer b := by
  rw [commitImage_buffer, d.buffer_setBuffer_other _ h]

@[simp] theorem commitImage_vbp (i : SlotNo) (img : Image) (d : Device) : (commitImage i img d).vbp = d.vbp := by
  simp only [commitImage]
  repeat' split
  all_goals simp

theorem RenewalEntry.takeForce_eq (e : RenewalEntry) (img : Image) :
    e.takeForce img =
      { timer := if img.period = 0 then .stopped else .running (img.period * 10), lapse := e.lapse,
        periodInForce := img.period, toleranceInForce := img.tolerance } := by
  by_cases h : img.period = 0 <;> simp [takeForce, Timer.start, h]

theorem commitImage_rtaOf_same (i : SlotNo) (img : Image) (d : Device) :
    (commitImage i img d).rtaOf i = (d.rtaOf i).committedAs img (d.slot i).content.isDraft := by
  simp only [commitImage, Device.slot_setBuffer]
  split
  · next h => simp [h, Content.isDraft, RenewalEntry.committedAs, RenewalEntry.takeForce_eq]
  · next h =>
    have hdraft : (d.slot i).content.isDraft = false := by
      cases hc : (d.slot i).content with
      | draft x t => exact absurd hc (h x t)
      | _ => rfl
    split <;> next hforce =>
      rw [Bool.and_eq_true, decide_eq_true_eq, decide_eq_true_eq] at hforce
      simp only [Device.rtaOf_setContent, Device.rtaOf_setBuffer] at hforce
      simp [RenewalEntry.committedAs, RenewalEntry.takeForce_eq, hdraft, hforce]

theorem commitImage_rtaOf_other {i j : SlotNo} (img : Image) (d : Device) (h : j ≠ i) :
    (commitImage i img d).rtaOf j = d.rtaOf j := by
  simp only [commitImage]
  repeat' split
  all_goals simp [Device.rtaOf_setRta_other _ _ h]

@[simp] theorem renewRecord_slot_same (i : SlotNo) (r : Record) (v : Option Half) (d : Device) :
    (renewRecord i r v d).slot i =
      { d.slot i with content := .live { r with image := renewedImage r.ident.cls r.image v } } := by
  simp [renewRecord]

theorem renewRecord_slot_other {i j : SlotNo} (r : Record) (v : Option Half) (d : Device) (h : j ≠ i) :
    (renewRecord i r v d).slot j = d.slot j := by
  simp [renewRecord, Device.slot_setContent_other _ _ h]

@[simp] theorem renewRecord_buffer (i : SlotNo) (r : Record) (v : Option Half) (d : Device) (b : BankNo) :
    (renewRecord i r v d).buffer b = d.buffer b := by
  simp [renewRecord]

@[simp] theorem renewRecord_rtaOf_same (i : SlotNo) (r : Record) (v : Option Half) (d : Device) :
    (renewRecord i r v d).rtaOf i =
      { (d.rtaOf i).takeForce (renewedImage r.ident.cls r.image v) with lapse := 0 } := by
  simp [renewRecord]

theorem renewRecord_rtaOf_other {i j : SlotNo} (r : Record) (v : Option Half) (d : Device) (h : j ≠ i) :
    (renewRecord i r v d).rtaOf j = d.rtaOf j := by
  simp [renewRecord, Device.rtaOf_setRta_other _ _ h]

@[simp] theorem markRetiring_slot (d : Device) (i : SlotNo) :
    (markRetiring d).slot i = { d.slot i with content := (d.slot i).content.marked } := by
  simp [markRetiring, Device.slot]

@[simp] theorem markRetiring_buffer (d : Device) (b : BankNo) : (markRetiring d).buffer b = d.buffer b := by
  simp [markRetiring, Device.buffer]

@[simp] theorem markRetiring_rtaOf (d : Device) (i : SlotNo) : (markRetiring d).rtaOf i = d.rtaOf i := by
  simp [markRetiring, Device.rtaOf]

/-- The slots with the answers of a pass written (R84), the rest of the device as it is. -/
def writeGrants (p : Pass) (d : Device) : Device :=
  d.withTbl { d.tbl with slots := writeAnswers (writtenAnswers p d.tbl.slots) d.tbl.slots }

/-- A slot whose record is given an answer part, where there is one to give. -/
def Slot.granted (s : Slot) : Option Answer → Slot
  | some a => { s with content := s.content.mapRecord fun r => { r with answer := some a } }
  | none => s

theorem writeAnswers_eq (ws : Vector (Option Answer) 48) (slots : Vector Slot 48) :
    writeAnswers ws slots = vmap (fun i s => s.granted ws[i]) slots := by
  unfold writeAnswers
  congr 1

theorem writeGrants_slot (p : Pass) (d : Device) (i : SlotNo) :
    (writeGrants p d).slot i = (d.slot i).granted (writtenAnswer p i (d.slot i)) := by
  simp [writeGrants, Device.slot, writeAnswers_eq, writtenAnswers]

@[simp] theorem writeGrants_buffer (p : Pass) (d : Device) (b : BankNo) : (writeGrants p d).buffer b = d.buffer b := by
  simp [writeGrants, Device.buffer]

@[simp] theorem writeGrants_rtaOf (p : Pass) (d : Device) (i : SlotNo) : (writeGrants p d).rtaOf i = d.rtaOf i := by
  simp [writeGrants, Device.rtaOf]

theorem publishPass_tbl (p : Pass) (d : Device) :
    (publishPass p d).tbl = (freeSlots (fun i => (d.slot i).content.isMarked) (writeGrants p d)).tbl ∧
      (publishPass p d).rta = (freeSlots (fun i => (d.slot i).content.isMarked) (writeGrants p d)).rta := by
  have hraise (e : Device) (n : Nat) : (raiseShortfall p.fig n e).tbl = e.tbl ∧ (raiseShortfall p.fig n e).rta = e.rta := by
    unfold raiseShortfall
    split
    · simp
    · exact ⟨rfl, rfl⟩
  simp [publishPass, freeSlots, writeGrants, hraise]

/-! ## One change of the table -/

/-- The table and the renewal entries of both devices are the same. -/
def SameTable (d d' : Device) : Prop := d'.tbl = d.tbl ∧ d'.rta = d.rta

theorem SameTable.slot {d d' : Device} (h : SameTable d d') (i : SlotNo) : d'.slot i = d.slot i := by
  simp [Device.slot, h.1]

theorem SameTable.buffer {d d' : Device} (h : SameTable d d') (b : BankNo) : d'.buffer b = d.buffer b := by
  simp [Device.buffer, h.1]

theorem SameTable.rtaOf {d d' : Device} (h : SameTable d d') (i : SlotNo) : d'.rtaOf i = d.rtaOf i := by
  simp [Device.rtaOf, h.2]

theorem SameTable.trans {d e f : Device} (h : SameTable d e) (h' : SameTable e f) : SameTable d f :=
  ⟨h'.1.trans h.1, h'.2.trans h.2⟩

theorem Changes.sameTable {ps : List Part} {d d' : Device} (h : Changes ps d d') (hslots : .slots ∉ ps := by decide)
    (hbuffers : .buffers ∉ ps := by decide) (hrta : .rta ∉ ps := by decide) : SameTable d d' := by
  refine ⟨?_, h.same .rta hrta⟩
  have hs : d'.tbl.slots = d.tbl.slots := h.same .slots hslots
  have hb : d'.tbl.buffers = d.tbl.buffers := h.same .buffers hbuffers
  cases hd : d.tbl
  cases hd' : d'.tbl
  simp_all

/-- An edit can go on in the slot: a DRAFT with its buffer open, or a LIVE or STALE record whose bank's buffer is free for it
(R33). -/
def Device.Editable (d : Device) (i : SlotNo) : Prop :=
  (d.slot i).content.isDraft = true ∧ d.underEdit i = true ∨
    (d.slot i).content.isUsed = true ∧ ∀ f, d.buffer (bankOf i) = some f → f.slot = i

/-- One change of the table by a command, with what the model checks before it makes it; `completing` tells that of a pass
completion. A CLAIM's is `ClaimStep`. -/
inductive TableStep (completing : Bool) : Device → Device → Prop
  | keep {d d' : Device} (htable : SameTable d d') (hmode : d'.mc.mode = d.mc.mode)
      (hawards : d'.vbp.awardQueue = d.vbp.awardQueue) : TableStep completing d d'
  | edit {d : Device} {i : SlotNo} {e : EditBuffer} (hslot : e.slot = i) (hedit : d.Editable i)
      (himage : ImageSound d → ∀ x ∈ (d.slot i).content.ident?, e.image.InRange x.cls) :
      TableStep completing d (d.setBuffer (bankOf i) (some e))
  | commit {d : Device} {i : SlotNo} {e : EditBuffer} {x : Identity} (hident : (d.slot i).content.ident? = some x)
      (hretiring : (d.slot i).content.isRetiring = false) (hopen : d.openFor i = some e)
      (hvalid : firstFailing x.owner (resultingImage (d.slot i).content e) = none) :
      TableStep completing d (commitImage i (resultingImage (d.slot i).content e) d)
  | renew {d : Device} {i : SlotNo} {r : Record} (v : Option Half)
      (hused : (d.slot i).content = .live r ∨ (d.slot i).content = .stale r) :
      TableStep completing d (renewRecord i r v d)
  | free {d : Device} {which : SlotNo → Bool}
      (hends : ∀ i, which i = true → (d.slot i).content.isDraft = true ∨ d.mc.mode.noPasses = true ∨
        completing = true ∧ (d.slot i).content.isMarked = true) : TableStep completing d (freeSlots which d)
  | retire {d : Device} {which : SlotNo → Bool} (hused : ∀ i, which i = true → (d.slot i).content.isUsed = true) :
      TableStep completing d (retireSlots which d)
  | close {d : Device} {b : BankNo} (hdraft : ∀ e ∈ d.buffer b, (d.slot e.slot).content.isDraft = false) :
      TableStep completing d (d.setBuffer b none)
  | lapse {d : Device} {i : SlotNo} {r : Record} {wasLive : Bool}
      (hused : (d.slot i).content = if wasLive then .live r else .stale r) :
      TableStep completing d (lapseRecord i r wasLive d)
  | mark {d : Device} : TableStep completing d (markRetiring d)
  | grants {d : Device} {p : Pass} (hcompleting : completing = true) (hpass : d.se.pass = some p) :
      TableStep completing d (writeGrants p d)

/-- Some changes of the table, one after the other. -/
def TableSteps (completing : Bool) : Device → Device → Prop := Relation.ReflTransGen (TableStep completing)

/-- The table's change by a CLAIM given slot `i`, with what was checked before (R30 to R32). -/
structure ClaimStep (x : Identity) (t : Nat) (i : SlotNo) (d d' : Device) : Prop where
  same : SameTable (openDraft x t i d) d'
  free : (d.slot i).content.isFree = true
  closed : d.buffer (bankOf i) = none
  admitted : ∀ j, clashes x (d.slot j) = false
  passes : d.mc.mode.noPasses = false
  enrolled : x.owner = 0 ∨ d.enrolled x.owner = true
  tier : t ≤ 3

/-! ## One change of a slot -/

/-- The changes of a slot that the changes of the table make, in a mode. -/
inductive SlotStep (completing : Bool) (m : Mode) : Slot → Slot → Prop
  | same (s : Slot) : SlotStep completing m s s
  | committed (g : Byte) (t : Nat) (r : Record) :
      SlotStep completing m { generation := g, content := .draft r.ident t } { generation := g, content := .live r }
  | used (g : Byte) {c c' : Content} {r r' : Record} (hc : c = .live r ∨ c = .stale r) (hc' : c' = .live r' ∨ c' = .stale r')
      (hident : r'.ident = r.ident) (hanswer : r'.answer = r.answer) :
      SlotStep completing m { generation := g, content := c } { generation := g, content := c' }
  | retired (g : Byte) {c : Content} {r : Record} (hc : c = .live r ∨ c = .stale r) :
      SlotStep completing m { generation := g, content := c } { generation := g, content := .retiring r false }
  | marked (g : Byte) (r : Record) (k : Bool) :
      SlotStep completing m { generation := g, content := .retiring r k } { generation := g, content := .retiring r true }
  | freed (g : Byte) {c : Content}
      (hc : c.isDraft = true ∨ m.noPasses = true ∨ completing = true ∧ c.isMarked = true) :
      SlotStep completing m { generation := g, content := c } { generation := g, content := .free }
  | granted (g : Byte) (c : Content) (a : Answer) (hcompleting : completing = true) :
      SlotStep completing m { generation := g, content := c }
        { generation := g, content := c.mapRecord fun r => { r with answer := some a } }

/-- A content is that of a DRAFT, of a record in use, or neither. -/
theorem Content.isUsed_iff {c : Content} : c.isUsed = true ↔ ∃ r, c = .live r ∨ c = .stale r := by
  cases c <;> simp [isUsed]

theorem Content.isDraft_iff {c : Content} : c.isDraft = true ↔ ∃ x t, c = .draft x t := by
  cases c <;> simp [isDraft]

theorem committedAs_slotStep {b : Bool} {m : Mode} (s : Slot) (img : Image) (h : s.content.isRetiring = false) :
    SlotStep b m s { s with content := s.content.committedAs img } := by
  obtain ⟨g, c⟩ := s
  cases c with
  | free => exact .same _
  | draft x t => exact .committed g t { ident := x, image := img, answer := _ }
  | live r => exact .used g (.inl rfl) (.inl rfl) rfl rfl
  | stale r => exact .used g (.inr rfl) (.inr rfl) rfl rfl
  | retiring r k => simp [Content.isRetiring] at h

theorem retired_slotStep {b : Bool} {m : Mode} (s : Slot) (h : s.content.isUsed = true) :
    SlotStep b m s { s with content := s.content.retired } := by
  obtain ⟨g, c⟩ := s
  obtain ⟨r, rfl | rfl⟩ := Content.isUsed_iff.mp h
  · exact .retired g (.inl rfl)
  · exact .retired g (.inr rfl)

theorem marked_slotStep {b : Bool} {m : Mode} (s : Slot) : SlotStep b m s { s with content := s.content.marked } := by
  obtain ⟨g, c⟩ := s
  cases c with
  | retiring r k => exact .marked g r k
  | _ => exact .same _

/-- A lapse leaves the content, or makes a LIVE record STALE. -/
theorem lapseRecord_slot_same (i : SlotNo) (r : Record) (wasLive : Bool) (d : Device) :
    (lapseRecord i r wasLive d).slot i = d.slot i ∨
      wasLive = true ∧ (lapseRecord i r wasLive d).slot i = { d.slot i with content := .stale r } := by
  by_cases hperiod : r.image.period = 0
  · exact .inl (by simp [lapseRecord_of_period_zero hperiod])
  by_cases hstays : wasLive = false ∨ min ((d.rtaOf i).lapse + 1) 15 < r.image.tolerance
  · exact .inl (by simp [lapseRecord_of_stays hperiod hstays])
  · rw [not_or, Bool.not_eq_false, Nat.not_lt] at hstays
    obtain ⟨rfl, hreaches⟩ := hstays
    exact .inr ⟨rfl, by simp [lapseRecord_of_reaches hperiod hreaches]⟩

/-- What a change of the table makes of each slot. -/
theorem TableStep.slotStep {b : Bool} {d d' : Device} (h : TableStep b d d') (j : SlotNo) :
    SlotStep b d.mc.mode (d.slot j) (d'.slot j) := by
  cases h with
  | keep htable => rw [htable.slot]; exact .same _
  | edit => exact .same _
  | @commit i e x hident hretiring hopen hvalid =>
    by_cases hj : j = i
    · subst hj
      rw [commitImage_slot_same]
      exact committedAs_slotStep _ _ hretiring
    · rw [commitImage_slot_other _ _ hj]
      exact .same _
  | @renew i r v hused =>
    by_cases hj : j = i
    · subst hj
      rw [renewRecord_slot_same]
      exact .used (d.slot j).generation hused (.inl rfl) rfl rfl
    · rw [renewRecord_slot_other _ _ _ hj]
      exact .same _
  | @free which hends =>
    rw [freeSlots_slot]
    split
    · exact .freed (d.slot j).generation (hends j ‹_›)
    · exact .same _
  | @retire which hused =>
    rw [retireSlots_slot]
    split
    · exact retired_slotStep _ (hused j ‹_›)
    · exact .same _
  | close => exact .same _
  | @lapse i r wasLive hused =>
    by_cases hj : j = i
    · subst hj
      obtain h | ⟨rfl, h⟩ := lapseRecord_slot_same j r wasLive d <;> rw [h]
      · exact .same _
      · exact .used (d.slot j).generation (.inl hused) (.inr rfl) rfl rfl
    · obtain ⟨-, ⟨hothers, -⟩, -⟩ := lapseRecord_keeps i r wasLive d
      rw [(hothers j hj).1]
      exact .same _
  | mark =>
    rw [markRetiring_slot]
    exact marked_slotStep _
  | grants hcompleting =>
    rw [writeGrants_slot]
    cases writtenAnswer _ j (d.slot j) with
    | some a => exact .granted _ _ _ hcompleting
    | none => exact .same _

theorem TableStep.mode {b : Bool} {d d' : Device} (h : TableStep b d d') : d'.mc.mode = d.mc.mode := by
  cases h with
  | keep _ hmode _ => exact hmode
  | edit => rfl
  | commit => exact (ChangesRecordsOnly.commitImage _ _ d).changes.same .mode
  | renew => exact (ChangesRecordsOnly.renewRecord _ _ _ d).changes.same .mode
  | free => exact (ChangesRecordsOnly.freeSlots _ d).changes.same .mode
  | retire => exact (ChangesRecordsOnly.retireSlots _ d).changes.same .mode
  | close => rfl
  | lapse => exact (lapseRecord_changes _ _ _ d).same .mode
  | mark => rfl
  | grants => rfl

/-- Of the award queue, a change of the table takes the entries of the slots that become FREE (R157). -/
theorem TableStep.awards {b : Bool} {d d' : Device} (h : TableStep b d d') :
    d'.vbp.awardQueue.Sublist d.vbp.awardQueue := by
  cases h with
  | keep _ _ hawards => rw [hawards]
  | edit => exact .refl _
  | commit => rw [commitImage_vbp]
  | renew => exact .refl _
  | free => exact List.filter_sublist
  | retire => exact .refl _
  | close => exact .refl _
  | lapse => rw [show _ = d.vbp.awardQueue from (lapseRecord_changes _ _ _ d).same .awardQueue]
  | mark => exact .refl _
  | grants => exact .refl _

theorem TableSteps.awards {b : Bool} {d d' : Device} (h : TableSteps b d d') :
    d'.vbp.awardQueue.Sublist d.vbp.awardQueue := by
  induction h with
  | refl => exact .refl _
  | tail _ hstep ih => exact hstep.awards.trans ih

theorem TableSteps.mode {b : Bool} {d d' : Device} (h : TableSteps b d d') : d'.mc.mode = d.mc.mode := by
  induction h with
  | refl => rfl
  | tail _ hstep ih => exact hstep.mode.trans ih

/-- A relation of contents that every change of a slot makes holds between the ends of some changes of the table. -/
theorem TableSteps.slots {b : Bool} {d d' : Device} {R : Slot → Slot → Prop} (hrefl : ∀ s, R s s)
    (htrans : ∀ s s' s'', R s s' → R s' s'' → R s s'') (hR : ∀ s s', SlotStep b d.mc.mode s s' → R s s')
    (h : TableSteps b d d') (i : SlotNo) : R (d.slot i) (d'.slot i) := by
  induction h with
  | refl => exact hrefl _
  | tail hsteps hstep ih =>
    have hmode := TableSteps.mode hsteps
    exact htrans _ _ _ ih (hR _ _ (hmode ▸ hstep.slotStep i))

end Sys2Proof.Machine
end

section
/-! PROOFS. Images by their declared fields: what a write and a merge do to each field, and that both keep an image within
its ranges (R9, R11 to R17, R36). -/

namespace Sys2Proof.Machine

-- A default proof `by decide` waits for the kernel: side by side the proofs would ask for a thread each.
set_option Elab.async false

/-! ## Ranges, field by field -/

theorem clamp_brought (lo hi x : Int) (h : lo ≤ hi) : Brought lo hi x (clamp lo hi x) := by
  simp only [Brought, clamp, within]
  refine ⟨fun hx => by rw [if_pos hx], fun hx => ?_, fun hx => ?_⟩
  · rw [if_neg (by omega), if_pos hx]
  · rw [if_neg (by omega), if_neg (by omega)]

theorem clamp_within (lo hi x : Int) (h : lo ≤ hi) : within lo hi (clamp lo hi x) := by
  simp only [clamp, within]
  split
  · omega
  · split <;> omega

theorem clamp_eq_self_iff (lo hi x : Int) : clamp lo hi x = x ↔ within lo hi x := by
  simp only [clamp, within]
  split
  · omega
  · split <;> omega

theorem BoundQty.range_le (q : BoundQty) : q.range.1 ≤ q.range.2 := by
  cases q <;> simp [range]

theorem MeasureQty.range_le (q : MeasureQty) : q.range.1 ≤ q.range.2 := by
  cases q <;> simp [range]

theorem FieldId.range_le (c : RecordClass) (f : FieldId) : (f.range c).1 ≤ (f.range c).2 := by
  cases f <;> cases c <;> simp [range, BoundQty.range_le, MeasureQty.range_le]

theorem clampField_within (c : RecordClass) (f : FieldId) (v : Int) :
    within (f.range c).1 (f.range c).2 (clampField c f v) :=
  clamp_within _ _ v (f.range_le c)

/-- The image is of the kind of class `c`. -/
def Image.HasKind (c : RecordClass) (img : Image) : Prop :=
  match c, img.body with
  | .demand, .demand _ | .load, .load _ | .bound _, .bound _ _ | .measure _, .measure _ => True
  | _, _ => False

/-- Each declared field that the image has lies in the field's range. -/
def Image.FieldsInRange (c : RecordClass) (img : Image) : Prop :=
  ∀ f v, img.fieldOf f = some v → within (f.range c).1 (f.range c).2 v

/-- The kinds of an image of class `c`, one by one. -/
theorem Image.hasKind_cases {c : RecordClass} {img : Image} (h : img.HasKind c) :
    (c = .demand ∧ ∃ p, img.body = .demand p) ∨ (c = .load ∧ ∃ l, img.body = .load l) ∨
      (∃ q, c = .bound q ∧ ∃ v f, img.body = .bound v f) ∨ ∃ q, c = .measure q ∧ ∃ v, img.body = .measure v := by
  obtain ⟨p, t, body⟩ := img
  cases c <;> cases body <;> simp_all [HasKind]

theorem Image.hasKind_of_inRange {c : RecordClass} {img : Image} (h : img.InRange c) : img.HasKind c := by
  obtain ⟨p, t, body⟩ := img
  obtain ⟨-, -, -, hbody⟩ := h
  cases c <;> cases body <;> simp_all [HasKind, Body.inRange]

theorem Image.fieldsInRange_of_inRange {c : RecordClass} {img : Image} (h : img.InRange c) : img.FieldsInRange c := by
  have hkind := hasKind_of_inRange h
  obtain ⟨period, tolerance, body⟩ := img
  obtain ⟨hperiod, htol, htol', hbody⟩ := h
  dsimp only at hperiod htol htol'
  intro f v hv
  by_cases hcommon : f = .period ∨ f = .tolerance
  · obtain rfl | rfl := hcommon
    all_goals
      simp only [fieldOf, Option.some.injEq] at hv
      simp only [FieldId.range, within]
      omega
  obtain ⟨rfl, p, rfl⟩ | ⟨rfl, l, rfl⟩ | ⟨q, rfl, x, y, rfl⟩ | ⟨q, rfl, x, rfl⟩ := hasKind_cases hkind
  · cases f <;> simp_all [fieldOf, FieldId.range, Body.inRange, within]
  · simp only [Body.inRange, decide_eq_true_eq] at hbody
    obtain ⟨hrequest, hfloor, htier, hcount, hplaces⟩ := hbody
    cases f <;> simp only [fieldOf, Option.some.injEq, reduceCtorEq] at hv
    case parkCapable => subst hv; split <;> decide
    case step n => subst hv; exact hplaces n
    case request => exact hrequest v hv
    case floor => exact hfloor v hv
    case tier => simp only [FieldId.range, within]; omega
    case stepCount => simp only [FieldId.range, within]; omega
    case period => simp at hcommon
    case tolerance => simp at hcommon
  · cases f <;> cases x <;> cases y <;> simp_all [fieldOf, FieldId.range, Body.inRange, within]
  · cases f <;> cases x <;> simp_all [fieldOf, FieldId.range, Body.inRange, within]

theorem Image.inRange_of_fields {c : RecordClass} {img : Image} (hkind : img.HasKind c) (h : img.FieldsInRange c) :
    img.InRange c := by
  have hperiod := h .period _ rfl
  have htol := h .tolerance _ rfl
  obtain ⟨period, tolerance, body⟩ := img
  simp only [FieldId.range, within] at hperiod htol
  refine ⟨by dsimp only; omega, by dsimp only; omega, by dsimp only; omega, ?_⟩
  obtain ⟨rfl, p, rfl⟩ | ⟨rfl, l, rfl⟩ | ⟨q, rfl, x, y, rfl⟩ | ⟨q, rfl, x, rfl⟩ := hasKind_cases hkind
  · exact decide_eq_true (h .demand p rfl)
  · have htier := h .tier _ rfl
    have hcount := h .stepCount _ rfl
    simp only [FieldId.range, within] at htier hcount
    simp only [Body.inRange, decide_eq_true_eq]
    exact ⟨fun v hv => h .request v hv, fun v hv => h .floor v hv, by omega, by omega, fun n => h (.step n) _ rfl⟩
  · have hvalue := h .boundValue
    have hfallback := h .fallback
    simp only [fieldOf, FieldId.range] at hvalue hfallback
    cases x <;> cases y <;> simp_all [Body.inRange]
  · have hvalue := h .measureValue
    simp only [fieldOf, FieldId.range] at hvalue
    cases x <;> simp_all [Body.inRange]

/-- An image is in range exactly where it is of its kind and each declared field it has lies in the field's range. -/
theorem Image.inRange_iff {c : RecordClass} {img : Image} : img.InRange c ↔ img.HasKind c ∧ img.FieldsInRange c :=
  ⟨fun h => ⟨hasKind_of_inRange h, fieldsInRange_of_inRange h⟩, fun h => inRange_of_fields h.1 h.2⟩

theorem StepList.default_inRange (n : Fin 6) : within 1 32767 StepList.default.places[n] := by
  simp [default, within]

theorem Image.default_inRange (owner : Nat) (c : RecordClass) {tier : Nat} (h : tier ≤ 3) :
    (Image.default owner c tier).InRange c := by
  refine ⟨?_, ?_, ?_, ?_⟩
  · simp only [default]
    split <;> omega
  · simp [default]
  · simp [default]
  · cases c <;> simp only [default, Body.inRange, decide_eq_true_eq]
    case load => exact ⟨nofun, nofun, h, Nat.zero_le _, StepList.default_inRange⟩
    case demand => decide
    all_goals rfl

/-! ## A write (R11, R14, R34) -/

theorem Image.write_hasKind {c : RecordClass} {img : Image} (h : img.HasKind c) (f : FieldId) (v : Option Int) :
    (img.write f v).HasKind c := by
  obtain ⟨p, t, body⟩ := img
  cases f <;> cases c <;> cases body <;> simp_all [HasKind, write]

/-- A field not written stands. -/
theorem Image.fieldOf_write_other (img : Image) {f g : FieldId} (v : Option Int) (h : g ≠ f) :
    (img.write f v).fieldOf g = img.fieldOf g := by
  obtain ⟨p, t, body⟩ := img
  cases body <;> cases f <;> cases g <;> simp_all [write, fieldOf, LoadFields.write]
  case load.step.step l m n =>
    exact Vector.getElem_set_ne _ _ fun hval => h (Fin.ext hval.symm)

/-- A field of the image's kind written with a value in its range reads as it was written. -/
theorem Image.fieldOf_write_some {c : RecordClass} {img : Image} (hkind : img.HasKind c) {f : FieldId}
    (hclass : f.ofClass c = true) (hwritable : f.readOnly = false) {x : Int}
    (hx : within (f.range c).1 (f.range c).2 x) : (img.write f (some x)).fieldOf f = some x := by
  obtain ⟨p, t, body⟩ := img
  obtain ⟨hlo, hhi⟩ := hx
  obtain ⟨rfl, p, rfl⟩ | ⟨rfl, l, rfl⟩ | ⟨q, rfl, y, z, rfl⟩ | ⟨q, rfl, y, rfl⟩ := hasKind_cases hkind <;> cases f <;>
    simp_all [write, fieldOf, LoadFields.write, FieldId.readOnly, FieldId.ofClass, RecordClass.kindCode, FieldId.range]
  case inr.inl.parkCapable => split <;> omega
  all_goals omega

/-- An optional field of the image's kind made absent is absent, as a step count 0 (R14). -/
theorem Image.fieldOf_write_none {c : RecordClass} {img : Image} (hkind : img.HasKind c) {f : FieldId}
    (hclass : f.ofClass c = true) (hopt : f.optional = true) :
    (img.write f none).fieldOf f = if f = .stepCount then some 0 else none := by
  obtain ⟨p, t, body⟩ := img
  obtain ⟨rfl, p, rfl⟩ | ⟨rfl, l, rfl⟩ | ⟨q, rfl, y, z, rfl⟩ | ⟨q, rfl, y, rfl⟩ := hasKind_cases hkind <;> cases f <;>
    simp_all [write, fieldOf, LoadFields.write, FieldId.optional, FieldId.ofClass, RecordClass.kindCode]

/-- A value written in range, or an optional field made absent, keeps an image in range. -/
theorem Image.write_inRange {c : RecordClass} {img : Image} (h : img.InRange c) {f : FieldId} {v : Option Int}
    (hwritten : ∀ x, (img.write f v).fieldOf f = some x → within (f.range c).1 (f.range c).2 x) :
    (img.write f v).InRange c := by
  obtain ⟨hkind, hfields⟩ := inRange_iff.mp h
  refine inRange_of_fields (write_hasKind hkind f v) fun g x hg => ?_
  by_cases hgf : g = f
  · subst hgf
    exact hwritten x hg
  · rw [fieldOf_write_other img v hgf] at hg
    exact hfields g x hg

/-! ## The writes of an AMEND (R34) -/

/-- What a write that is not refused names: a field of the record's kind that a request may write, and that accepts the
absence marker where that is written. -/
theorem FieldWrite.of_not_refusedFor {c : RecordClass} {w : FieldWrite} (h : w.refusedFor c = false) :
    ∃ f, FieldId.ofByte w.id = some f ∧ f.readOnly = false ∧ f.ofClass c = true ∧
      (isMarker f w.value = true → f.optional = true) := by
  unfold refusedFor at h
  split at h
  · cases h
  · next f hf =>
    simp only [Bool.or_eq_false_iff, Bool.not_eq_false', Bool.and_eq_false_iff] at h
    obtain ⟨⟨hwritable, hclass⟩, hmarker⟩ := h
    exact ⟨f, hf, hwritable, hclass, fun hm => hmarker.resolve_left (by simp [hm])⟩

theorem isMarker_iff {f : FieldId} {v : Half} : isMarker f v = true ↔ v = 0x8000 ∧ f ≠ .demand := by
  simp [isMarker]

theorem applyWrite_marker {c : RecordClass} {img : Image} {m : Marks} {w : FieldWrite} {f : FieldId}
    (hf : FieldId.ofByte w.id = some f) (hm : isMarker f w.value = true) :
    applyWrite c img m w = (img.write f none, m.mark f, false) := by
  simp [applyWrite, hf, hm]

theorem applyWrite_value {c : RecordClass} {img : Image} {m : Marks} {w : FieldWrite} {f : FieldId}
    (hf : FieldId.ofByte w.id = some f) (hm : isMarker f w.value = false) :
    applyWrite c img m w =
      (img.write f (some (clampField c f w.value.toInt)), m.mark f,
        decide (clampField c f w.value.toInt ≠ w.value.toInt)) := by
  simp [applyWrite, hf, hm]

theorem applyWrite_inRange {c : RecordClass} {img : Image} (h : img.InRange c) (m : Marks) {w : FieldWrite}
    (hw : w.refusedFor c = false) : (applyWrite c img m w).1.InRange c := by
  obtain ⟨f, hf, hwritable, hclass, hopt⟩ := FieldWrite.of_not_refusedFor hw
  have hkind := Image.hasKind_of_inRange h
  cases hm : isMarker f w.value with
  | true =>
    rw [applyWrite_marker hf hm]
    refine Image.write_inRange h fun x hx => ?_
    rw [Image.fieldOf_write_none hkind hclass (hopt hm)] at hx
    split at hx <;> cases hx
    subst f
    exact ⟨Int.le_refl 0, by simp [FieldId.range]⟩
  | false =>
    rw [applyWrite_value hf hm]
    refine Image.write_inRange h fun x hx => ?_
    rw [Image.fieldOf_write_some hkind hclass hwritable (clampField_within c f _)] at hx
    cases hx
    exact clampField_within c f _

theorem applyWrites_nil (c : RecordClass) (img : Image) (m : Marks) : applyWrites c [] img m = (img, m, []) := rfl

theorem applyWrites_cons (c : RecordClass) (w : FieldWrite) (ws : List FieldWrite) (img : Image) (m : Marks) :
    applyWrites c (w :: ws) img m =
      ((applyWrites c ws (applyWrite c img m w).1 (applyWrite c img m w).2.1).1,
        (applyWrites c ws (applyWrite c img m w).1 (applyWrite c img m w).2.1).2.1,
        (applyWrite c img m w).2.2 :: (applyWrites c ws (applyWrite c img m w).1 (applyWrite c img m w).2.1).2.2) := rfl

theorem applyWrites_inRange {c : RecordClass} {ws : List FieldWrite} (hws : ∀ w ∈ ws, w.refusedFor c = false)
    {img : Image} (h : img.InRange c) (m : Marks) : (applyWrites c ws img m).1.InRange c := by
  induction ws generalizing img m with
  | nil => exact h
  | cons w ws ih =>
    rw [applyWrites_cons]
    exact ih (fun v hv => hws v (List.mem_cons_of_mem w hv)) (applyWrite_inRange h m (hws w List.mem_cons_self)) _

/-! ## The resulting image of an edit (R36, R39) -/

theorem mergeMarked_hasKind {c : RecordClass} {old work : Image} (hold : old.HasKind c) (hwork : work.HasKind c)
    (m : Marks) : (mergeMarked old work m).HasKind c := by
  obtain ⟨p, t, body⟩ := old
  obtain ⟨p', t', body'⟩ := work
  cases c <;> cases body <;> cases body' <;> simp_all [Image.HasKind, mergeMarked]

/-- Each field of the merge is the buffer's where its mark is set, else the committed image's. -/
theorem fieldOf_mergeMarked {c : RecordClass} {old work : Image} (hold : old.HasKind c) (hwork : work.HasKind c)
    (m : Marks) (f : FieldId) :
    (mergeMarked old work m).fieldOf f = if m.has f then work.fieldOf f else old.fieldOf f := by
  obtain ⟨p, t, body⟩ := old
  obtain ⟨p', t', body'⟩ := work
  by_cases hmark : m.has f = true
  all_goals
    simp only [hmark, if_true, if_false, Bool.false_eq_true]
    obtain ⟨rfl, x, rfl⟩ | ⟨rfl, x, rfl⟩ | ⟨q, rfl, x, y, rfl⟩ | ⟨q, rfl, x, rfl⟩ := Image.hasKind_cases hold <;>
      cases body' <;> simp only [Image.HasKind] at hwork <;> cases f <;>
      simp_all [mergeMarked, Image.fieldOf, Marks.has]

theorem mergeMarked_inRange {c : RecordClass} {old work : Image} (hold : old.InRange c) (hwork : work.InRange c)
    (m : Marks) : (mergeMarked old work m).InRange c := by
  obtain ⟨hkind, hfields⟩ := Image.inRange_iff.mp hold
  obtain ⟨hkind', hfields'⟩ := Image.inRange_iff.mp hwork
  refine Image.inRange_of_fields (mergeMarked_hasKind hkind hkind' m) fun f v hv => ?_
  rw [fieldOf_mergeMarked hkind hkind'] at hv
  split at hv
  · exact hfields' f v hv
  · exact hfields f v hv

end Sys2Proof.Machine
end

section
/-! PROOFS. Every command as changes of the table: what the acts of the record requests check before they write, and the
chain of changes that each command makes. -/

namespace Sys2Proof.Machine

-- A default proof `by decide` waits for the kernel: side by side the proofs would ask for a thread each.
set_option Elab.async false

/-! ## What the acts check (R28 to R37) -/

theorem findSlot_some {p : SlotNo → Slot → Bool} {d : Device} {i : SlotNo} (h : findSlot p d = some i) :
    p i (d.slot i) = true :=
  List.find?_some (p := fun i => p i (d.slot i)) h

theorem anySlot_eq_false {p : Slot → Bool} {d : Device} (h : ¬anySlot p d = true) (i : SlotNo) : p (d.slot i) = false := by
  simp only [anySlot, List.any_eq_true, not_exists, not_and, Bool.not_eq_true] at h
  exact h i (List.mem_finRange i)

/-- The slot a CLAIM is given is FREE, in a bank whose buffer is closed (R31). -/
theorem allocate_ok {who : Nat} {d : Device} {i : SlotNo} (h : allocate who d = .ok i) :
    (d.slot i).content.isFree = true ∧ d.buffer (bankOf i) = none := by
  unfold allocate at h
  split at h
  case h_2 => split at h <;> cases h
  next j hj =>
    cases h
    obtain ⟨b, hb, hfree⟩ := List.exists_of_findSome?_eq_some hj
    obtain ⟨-, hclosed⟩ := List.mem_filter.mp hb
    have hslot := findSlot_some hfree
    simp only [Bool.and_eq_true, decide_eq_true_eq] at hslot
    rw [hslot.1]
    exact ⟨hslot.2, by simpa using hclosed⟩

theorem owner?_eq_some {c : Content} {n : Nat} (h : c.owner? = some n) : ∃ x, c.ident? = some x ∧ x.owner = n := by
  simpa [Content.owner?] using h

/-- The Edit Buffer that an AMEND writes into is open for the slot, which can be edited. -/
theorem amendBuffer_ok {i : SlotNo} {d : Device} {e : EditBuffer} (h : amendBuffer i d = .ok e) :
    d.Editable i ∧ e.slot = i ∧
      (d.buffer (bankOf i) = some e ∨ ∃ r, (d.slot i).content.record? = some r ∧ e.image = r.image) := by
  unfold amendBuffer at h
  split at h
  case h_1 | h_2 => cases h
  case h_3 hc =>
    split at h
    · next e' hopen =>
      cases h
      obtain ⟨hbuffer, hslot⟩ := Option.filter_eq_some_iff.mp hopen
      exact ⟨.inl ⟨by simp [hc, Content.isDraft], by simp [Device.underEdit, hopen]⟩, by simpa using hslot, .inl hbuffer⟩
    · cases h
  case h_4 r hc | h_5 r hc =>
    have hused : (d.slot i).content.isUsed = true := by simp [hc, Content.isUsed]
    split at h
    · next hclosed =>
      cases h
      exact ⟨.inr ⟨hused, by simp [hclosed]⟩, rfl, .inr ⟨r, by simp [hc, Content.record?], rfl⟩⟩
    · next e' hopen =>
      split at h
      case isFalse => cases h
      case isTrue hslot =>
        cases h
        exact ⟨.inr ⟨hused, by simp [hopen, hslot]⟩, hslot, .inl hopen⟩

/-- What an AMEND that is taken has checked, and what it writes (R33, R34). -/
theorem amendCore_taken {o : Offer} {slot gen : Byte} {ws : List FieldWrite} {d d' : Device} {i : SlotNo} {ks : List Bool}
    (h : amendCore o slot gen ws d = .taken i d' ks) :
    ∃ x e, (d.slot i).content.ident? = some x ∧ x.owner = o.who ∧ (∀ w ∈ ws, w.refusedFor x.cls = false) ∧
      amendBuffer i d = .ok e ∧
      d' = d.setBuffer (bankOf i) (some { e with
        image := (applyWrites x.cls ws e.image e.marks).1, marks := (applyWrites x.cls ws e.image e.marks).2.1,
        timer := 100 }) := by
  simp only [amendCore] at h
  repeat' split at h
  all_goals cases h
  next x hrefused howner _ e _ hident hbuffer =>
    refine ⟨x, e, hident, by simpa using howner, fun w hw => ?_, hbuffer, rfl⟩
    simp only [List.any_eq_true, not_exists, not_and, Bool.not_eq_true] at hrefused
    exact hrefused w hw

theorem commitCore_badFields {owner : Nat} {i : SlotNo} {d d' : Device} {f : FieldId}
    (h : commitCore owner i d = .badFields f d') :
    (d.slot i).content.isRetiring = false ∧ ∃ e, d.openFor i = some e ∧
      d' = d.setBuffer (bankOf i) (some { e with timer := 100 }) := by
  simp only [commitCore] at h
  split at h
  · cases h
  next hretiring =>
    repeat' split at h
    all_goals cases h
    next e hopen _ _ =>
    exact ⟨by simpa using hretiring, e, hopen, rfl⟩

theorem commitCore_done {owner : Nat} {i : SlotNo} {d d' : Device} (h : commitCore owner i d = .done d') :
    (d.slot i).content.isRetiring = false ∧ ∃ e, d.openFor i = some e ∧
      firstFailing owner (resultingImage (d.slot i).content e) = none ∧
      d' = commitImage i (resultingImage (d.slot i).content e) d := by
  simp only [commitCore] at h
  split at h
  · cases h
  next hretiring =>
    repeat' split at h
    all_goals cases h
    next e hopen _ hvalid =>
    exact ⟨by simpa using hretiring, e, hopen, hvalid, rfl⟩

theorem openFor_eq_some {d : Device} {i : SlotNo} {e : EditBuffer} (h : d.openFor i = some e) :
    d.buffer (bankOf i) = some e ∧ e.slot = i := by
  obtain ⟨hbuffer, hslot⟩ := Option.filter_eq_some_iff.mp h
  exact ⟨hbuffer, by simpa using hslot⟩

/-! ## The acts as changes of the table -/

variable {b : Bool} {d d' : Device}

theorem TableSteps.refl (d : Device) : TableSteps b d d := Relation.ReflTransGen.refl

theorem TableSteps.single (h : TableStep b d d') : TableSteps b d d' := Relation.ReflTransGen.single h

theorem TableSteps.trans {e : Device} (h : TableSteps b d e) (h' : TableSteps b e d') : TableSteps b d d' :=
  Relation.ReflTransGen.trans h h'

theorem Changes.tableSteps {ps : List Part} (h : Changes ps d d') (hslots : .slots ∉ ps := by decide)
    (hbuffers : .buffers ∉ ps := by decide) (hrta : .rta ∉ ps := by decide) (hmode : .mode ∉ ps := by decide)
    (hawards : .awardQueue ∉ ps := by decide) : TableSteps b d d' :=
  .single (.keep (h.sameTable hslots hbuffers hrta) (h.same .mode hmode) (h.same .awardQueue hawards))

/-- A working image, and the committed image that an edit copies, lie in the ranges of the slot's class. -/
theorem ImageSound.amendBuffer_inRange {i : SlotNo} {e : EditBuffer} (h : ImageSound d)
    (hbuffer : d.buffer (bankOf i) = some e ∨ ∃ r, (d.slot i).content.record? = some r ∧ e.image = r.image)
    (hslot : e.slot = i) {x : Identity} (hx : (d.slot i).content.ident? = some x) : e.image.InRange x.cls := by
  obtain ⟨hrecords, hbuffers⟩ := h
  obtain hopen | ⟨r, hr, himage⟩ := hbuffer
  · exact hbuffers _ e hopen x (by rw [hslot]; exact hx)
  · obtain ⟨hin, -⟩ := hrecords i r hr
    have hident : r.ident = x := by
      cases hc : (d.slot i).content <;> simp_all [Content.record?, Content.ident?]
    rw [himage, ← hident]
    exact hin

theorem amendCore_tableSteps {o : Offer} {slot gen : Byte} {ws : List FieldWrite} {i : SlotNo} {ks : List Bool}
    (h : amendCore o slot gen ws d = .taken i d' ks) : TableSteps b d d' := by
  obtain ⟨x, e, hident, -, hws, hbuffer, rfl⟩ := amendCore_taken h
  obtain ⟨hedit, hslot, himage⟩ := amendBuffer_ok hbuffer
  refine .single (.edit hslot hedit fun hsound y hy => ?_)
  obtain rfl : x = y := Option.some.inj (hident.symm.trans hy)
  exact applyWrites_inRange hws (hsound.amendBuffer_inRange himage hslot hident) _

theorem commitCore_badFields_tableSteps {owner : Nat} {i : SlotNo} {f : FieldId} {x : Identity}
    (hident : (d.slot i).content.ident? = some x) (h : commitCore owner i d = .badFields f d') : TableSteps b d d' := by
  obtain ⟨hretiring, e, hopen, rfl⟩ := commitCore_badFields h
  obtain ⟨hbuffer, hslot⟩ := openFor_eq_some hopen
  refine .single (.edit hslot ?_ fun hsound y hy => hsound.amendBuffer_inRange (.inl hbuffer) hslot hy)
  cases hc : (d.slot i).content with
  | free => simp [hc, Content.ident?] at hident
  | draft y t => exact .inl ⟨by simp [hc, Content.isDraft], by simp [Device.underEdit, hopen]⟩
  | live r | stale r => exact .inr ⟨by simp [hc, Content.isUsed], by simp [hbuffer, hslot]⟩
  | retiring r k => simp [hc, Content.isRetiring] at hretiring

theorem commitCore_done_tableSteps {i : SlotNo} {x : Identity} (hident : (d.slot i).content.ident? = some x)
    (h : commitCore x.owner i d = .done d') : TableSteps b d d' := by
  obtain ⟨hretiring, e, hopen, hvalid, rfl⟩ := commitCore_done h
  exact .single (.commit hident hretiring hopen hvalid)

theorem endRecords_tableSteps (named : SlotNo → Bool) (d : Device) : TableSteps b d (endRecords named d) := by
  refine .trans (.single (.free fun i hi => ?_)) (.single (.retire fun i hi => ?_))
  · simp only [endsFree, Bool.and_eq_true, Bool.or_eq_true] at hi
    obtain ⟨-, hdraft | ⟨-, hmode⟩⟩ := hi
    · exact .inl hdraft
    · exact .inr (.inl hmode)
  · simp only [endsRetiring, Bool.and_eq_true, Bool.not_eq_true'] at hi
    obtain ⟨⟨hnamed, hused⟩, hpasses⟩ := hi
    have hstays : endsFree d named i = false := by
      obtain ⟨r, hr | hr⟩ := Content.isUsed_iff.mp hused <;>
        simp [endsFree, hnamed, hpasses, hr, Content.isDraft, Content.isUsed]
    rw [freeSlots_slot, hstays]
    exact hused

theorem claimAct_table {o : Offer} (kind label extra : Byte) (hwho : o.who = 0 ∨ d.enrolled o.who = true) :
    (claimAct o kind label extra d).1 = d ∨
      ∃ x t i, x.owner = o.who ∧ ClaimStep x t i d (claimAct o kind label extra d).1 := by
  unfold claimAct
  split
  · exact .inl rfl
  next c _ =>
    dsimp only
    split
    · exact .inl rfl
    split
    · exact .inl rfl
    next hclash =>
    split
    · exact .inl rfl
    next hpasses =>
    split
    · exact .inl rfl
    next i halloc =>
    obtain ⟨hfree, hclosed⟩ := allocate_ok halloc
    refine .inr ⟨{ cls := c, owner := o.who, label := label }, _, i, rfl, ⟨rfl, rfl⟩, hfree, hclosed,
      anySlot_eq_false hclash, by simpa using hpasses, hwho, ?_⟩
    split <;> omega

theorem commitAct_table (o : Offer) (slot gen : Byte) (d : Device) : TableSteps b d (commitAct o slot gen d).1 := by
  unfold commitAct
  split
  · exact .refl d
  next i hchecked =>
    obtain ⟨x, hident, howner⟩ := owner?_eq_some (checkOwned_ok hchecked).2
    split
    · exact .refl d
    · exact commitCore_badFields_tableSteps hident ‹_›
    · exact commitCore_done_tableSteps hident (howner ▸ ‹_›)

theorem amendAct_table (o : Offer) (slot gen : Byte) (ws : List FieldWrite) (d : Device) :
    TableSteps b d (amendAct o slot gen ws d).1 := by
  unfold amendAct
  split
  · exact .refl d
  · exact amendCore_tableSteps ‹_›

theorem amendCommitAct_table (o : Offer) (slot gen : Byte) (ws : List FieldWrite) (d : Device) :
    TableSteps b d (amendCommitAct o slot gen ws d).1 := by
  unfold amendCommitAct
  split
  · exact .refl d
  next i e ks hamend =>
    obtain ⟨x, _, hident, howner, -, -, he⟩ := amendCore_taken hamend
    have hident' : (e.slot i).content.ident? = some x := by rw [he]; exact hident
    have hsteps : TableSteps b d e := amendCore_tableSteps hamend
    split
    · exact hsteps
    · exact hsteps.trans (commitCore_badFields_tableSteps hident' ‹_›)
    · exact hsteps.trans (commitCore_done_tableSteps hident' (howner ▸ ‹_›))

theorem renewAct_table (o : Offer) (slot gen : Byte) (v : Option Half) (d : Device) :
    TableSteps b d (renewAct o slot gen v d).1 := by
  unfold renewAct
  split
  · exact .refl d
  split
  · exact .single (.renew v (.inl ‹_›))
  · exact .single (.renew v (.inr ‹_›))
  · exact .refl d

theorem releaseAct_table (o : Offer) (slot gen : Byte) (d : Device) : TableSteps b d (releaseAct o slot gen d).1 := by
  unfold releaseAct
  split
  · exact .refl d
  · exact endRecords_tableSteps _ d

theorem purgeAct_table (o : Offer) (slot gen : Byte) (d : Device) : TableSteps b d (purgeAct o slot gen d).1 := by
  unfold purgeAct
  split
  · exact .refl d
  split
  · exact .refl d
  · exact endRecords_tableSteps _ d

/-- A record request past the common checks, of any row but CLAIM. -/
theorem RauRow.act_table (r : RauRow) (o : Offer) (d : Device) (hr : r ≠ .claim) : TableSteps b d (r.act o d).1 := by
  cases r with
  | claim => exact absurd rfl hr
  | unknown => exact .refl d
  | amend => simp only [act]; split; exacts [amendAct_table .., .refl d]
  | amendCommit => simp only [act]; split; exacts [amendCommitAct_table .., .refl d]
  | commit => simp only [act]; split; exacts [commitAct_table .., .refl d]
  | renew | renewWithValue => simp only [act]; split; exacts [renewAct_table .., .refl d]
  | release => simp only [act]; split; exacts [releaseAct_table .., .refl d]
  | purge => simp only [act]; split; exacts [purgeAct_table .., .refl d]
  | query | queryField | lookup =>
    simp only [act]
    split <;> simp only [queryAct_dev, queryFieldAct_dev, lookupAct_dev, TableSteps.refl]

/-! ## The commands -/

theorem consume_sameTable (o : Offer) (d : Device) : SameTable d (consume o d) := ⟨consume_tbl o d, consume_rta o d⟩

theorem answer_sameTable (o : Offer) (r : RauReply) (d : Device) : SameTable d (answer o r d) :=
  ⟨answer_tbl o r d, answer_rta o r d⟩

theorem consume_enrolled (o : Offer) (d : Device) (n : Nat) : (consume o d).enrolled n = d.enrolled n := by
  simp [Device.enrolled, Device.entryOf]

theorem rauOffer_who {o : Offer} (h : rauOffer d = some o) (hport : o.port = .link) : o.who = 0 := by
  have hlink : linkOffer d = some o := by
    unfold rauOffer at h
    split at h <;> obtain h | ⟨-, h⟩ := Option.or_eq_some_iff.mp h
    · exact h
    · exact absurd (hport.symm.trans (busOffer_port h)) nofun
    · exact absurd (hport.symm.trans (busOffer_port h)) nofun
    · exact h
  unfold linkOffer at hlink
  split at hlink
  · cases hlink
  split at hlink
  · cases hlink
  obtain ⟨_, -, rfl⟩ := Option.map_eq_some_iff.mp hlink
  rfl

/-- A record request taken passes its frame on, and past the common checks does its row's act for an enrolled peer or the
supervisor. -/
theorem takeRecord_cases (r : RauRow) (d : Device) :
    TableSteps b d (takeRecord r r.act d) ∨
      ∃ o, SameTable d (consume o d) ∧ (o.who = 0 ∨ (consume o d).enrolled o.who = true) ∧
        takeRecord r r.act d = answer o (r.act o (consume o d)).2 (r.act o (consume o d)).1 := by
  by_cases h : ∃ o, rauOffer d = some o ∧ o.row = r
  · obtain ⟨o, ho, hrow⟩ := h
    have htaken : TableSteps b d (consume o d) := (consume_changes o d).tableSteps
    have hanswer (x : RauReply) (e : Device) : TableSteps b e (answer o x e) := (answer_changes o x e).tableSteps
    rw [takeRecord_some r r.act d o ho hrow]
    split
    · exact .inl (htaken.trans (hanswer _ _))
    next hadmitted =>
    split
    · exact .inl (htaken.trans (hanswer _ _))
    refine .inr ⟨o, consume_sameTable o d, ?_, rfl⟩
    cases hport : o.port with
    | link => exact .inl (rauOffer_who ho hport)
    | bus => exact .inr (by simpa [hport] using hadmitted)
  · rw [takeRecord_none r r.act d fun o ho hrow => h ⟨o, ho, hrow⟩]
    exact .inl (.refl d)

theorem takeRecord_table (r : RauRow) (d : Device) (hr : r ≠ .claim) : TableSteps b d (takeRecord r r.act d) := by
  obtain h | ⟨o, hsame, -, heq⟩ := takeRecord_cases r d
  · exact h
  · rw [heq]
    exact (consume_changes o d).tableSteps.trans ((r.act_table o _ hr).trans (answer_changes o _ _).tableSteps)

theorem takeClaim_table (d : Device) :
    TableSteps b d (takeRecord .claim (RauRow.act .claim) d) ∨
      ∃ x t i, ClaimStep x t i d (takeRecord .claim (RauRow.act .claim) d) := by
  obtain h | ⟨o, hsame, hwho, heq⟩ := takeRecord_cases .claim d
  · exact .inl h
  rw [heq]
  simp only [RauRow.act]
  split
  case h_2 => exact .inl ((consume_changes o d).tableSteps.trans (answer_changes o _ _).tableSteps)
  case h_1 k l x _ =>
    obtain h | ⟨y, t, i, howner, h⟩ := claimAct_table (d := consume o d) k l x hwho
    · rw [h]
      exact .inl ((consume_changes o d).tableSteps.trans (answer_changes o _ _).tableSteps)
    · refine .inr ⟨y, t, i, ?_, ?_, ?_, ?_, ?_, ?_, h.tier⟩
      · have hopen : SameTable (openDraft y t i d) (openDraft y t i (consume o d)) := by
          simp [SameTable, openDraft, Device.slot, Device.rtaOf]
        exact hopen.trans (h.same.trans (answer_sameTable o _ _))
      · simpa [hsame.slot] using h.free
      · simpa [hsame.buffer] using h.closed
      · simpa [hsame.slot] using h.admitted
      · simpa using h.passes
      · simpa [consume_enrolled] using h.enrolled

theorem editExpiry_table (k : BankNo) (d : Device) : TableSteps b d (editExpiry k d) := by
  unfold editExpiry
  split
  · exact .refl d
  next e hopen =>
    have hends : TableSteps b d
        (if (d.slot e.slot).content.isDraft then freeSlots (only e.slot) d else d.setBuffer k none) := by
      split
      · next hdraft =>
        refine .single (.free fun i hi => .inl ?_)
        obtain rfl : i = e.slot := by simpa [only] using hi
        exact hdraft
      · next hdraft =>
        refine .single (.close fun g hg => ?_)
        obtain rfl : e = g := Option.some.inj (hopen.symm.trans hg)
        simpa using hdraft
    dsimp only
    split
    · exact hends.trans (tellAbandoned_changes _ _ _ _ _).tableSteps
    · exact hends

theorem renewalExpiry_table (i : SlotNo) (d : Device) : TableSteps b d (renewalExpiry i d) := by
  unfold renewalExpiry
  split
  · split
    · exact .single (.lapse (wasLive := true) (by simpa using ‹_›))
    · exact .single (.lapse (wasLive := false) (by simpa using ‹_›))
    · exact .refl d
  · exact .refl d

theorem splitExpiry_table (d : Device) : TableSteps b d (splitExpiry d) := by
  unfold splitExpiry
  split
  · exact (TableSteps.single .mark).trans ((startSplit_changes _ _).tableSteps.trans
      ((makeCombination_changes _ _).tableSteps.trans (withPass_changes _ _).tableSteps))
  · exact .refl d

/-- A completion writes the answers, then the marked slots become FREE (R83). -/
theorem publishPass_table {p : Pass} (hpass : d.se.pass = some p) : TableSteps true d (publishPass p d) := by
  refine (TableSteps.single (.grants rfl hpass)).trans (.trans (.single (.free fun i hi => .inr (.inr ⟨rfl, ?_⟩)))
    (.single (.keep (publishPass_tbl p d) ?_ ?_)))
  · rw [writeGrants_slot]
    cases writtenAnswer p i (d.slot i) with
    | some a => cases hc : (d.slot i).content <;> simp_all [Slot.granted, Content.isMarked, Content.mapRecord]
    | none => exact hi
  · rw [publishPass_mc]
    rfl
  · have hraise (e : Device) (n : Nat) : (raiseShortfall p.fig n e).vbp = e.vbp := by
      unfold raiseShortfall
      split <;> rfl
    simp [publishPass, freeSlots, writeGrants, hraise]

theorem completed_sameTable (p : Pass) (d : Device) : SameTable (publishPass p d) (completed p d) :=
  (queueAwards_changes _ _).sameTable.trans
    ((evaluate_sequenced _ _).changes.sameTable.trans (floorCheck_changes _ _).sameTable)

/-- The table after any command but DEVICE_RESET: kept, changed by the chain of changes of that command, by a CLAIM, or
emptied by a SLEEP entry. -/
inductive TableActs (c : Instr) (d d' : Device) : Prop
  | kept (h : SameTable d d')
  | steps {e : Device} (h : TableSteps (decide (c = .passCompletion)) d e) (hsame : SameTable e d')
  | claimed {x : Identity} {t : Nat} {i : SlotNo} (hc : c = .claim) (h : ClaimStep x t i d d')
  | slept (hc : canSleep c = true ∧ d'.se.pass = none) (h : d'.HasNoRecords)

theorem TableSteps.acts {c : Instr} (h : TableSteps (decide (c = .passCompletion)) d d') : TableActs c d d' :=
  .steps h ⟨rfl, rfl⟩

/-- The records of a node ended, its set no longer waiting. -/
def endPeer (node : Nat) (d : Device) : Device :=
  endRecords (ownedBy d node) (d.withRau { d.rau with peerLossSets := d.rau.peerLossSets.erase node })

/-- The node gone from the roster and its awards from the queue, with notice ROSTER. -/
def dropPeer (node : Nat) (d : Device) : Device :=
  let e := endPeer node d
  raiseRoster node (e.withVbp { e.vbp with
    roster := e.vbp.roster.filter (fun g => g.node ≠ node),
    awardQueue := e.vbp.awardQueue.filter (fun a => !ownedBy d node a.slot) })

theorem peerLossPurge_of_waiting {node : Nat} (h : d.rau.peerLossSets.contains node = true) :
    peerLossPurge node d = if d.isEngine node then loseEnginePeer (dropPeer node d) else dropPeer node d := by
  rw [peerLossPurge, if_pos h]
  rfl

theorem peerLossPurge_of_not_waiting {node : Nat} (h : d.rau.peerLossSets.contains node = false) :
    peerLossPurge node d = d := by
  rw [peerLossPurge, h, if_neg Bool.false_ne_true]

theorem endPeer_table (node : Nat) (d : Device) : TableSteps b d (endPeer node d) :=
  ((withRau_changes _ d).tableSteps).trans (endRecords_tableSteps _ _)

theorem dropPeer_sameTable (node : Nat) (d : Device) : SameTable (endPeer node d) (dropPeer node d) :=
  ⟨rfl, rfl⟩

theorem peerLossPurge_table (node : Nat) (d : Device) :
    ∃ e, TableSteps b d e ∧ SameTable e (peerLossPurge node d) := by
  cases h : d.rau.peerLossSets.contains node with
  | false => exact ⟨d, .refl d, by rw [peerLossPurge_of_not_waiting h]; exact ⟨rfl, rfl⟩⟩
  | true =>
    refine ⟨_, endPeer_table node d, ?_⟩
    rw [peerLossPurge_of_waiting h]
    split
    · exact (dropPeer_sameTable node d).trans (loseEnginePeer_sequenced _).changes.sameTable
    · exact dropPeer_sameTable node d

theorem parkEntryPurge_table (d : Device) : TableSteps b d (parkEntryPurge d) := by
  unfold parkEntryPurge
  split
  · exact ((withRau_changes _ d).tableSteps).trans (endRecords_tableSteps _ _)
  · exact .refl d

theorem passCompletion_table (d : Device) : TableActs .passCompletion d (passCompletion d) := by
  unfold passCompletion
  split
  · next p hpass =>
    rw [completePass_eq]
    unfold sleepIfPending
    split
    · exact .slept ⟨rfl, rfl⟩ (sleepEntry_hasNoRecords _ _)
    · exact .steps (publishPass_table hpass) (completed_sameTable p d)
  · exact .kept ⟨rfl, rfl⟩

theorem actOf_table (c : Instr) (d : Device) (hreset : ∀ k m, c ≠ .deviceReset k m) : TableActs c d (actOf c d) := by
  have hkept (hslots : .slots ∉ touches c) (hbuffers : .buffers ∉ touches c) (hrta : .rta ∉ touches c) :
      TableActs c d (actOf c d) := by
    obtain h | ⟨hsleep, cause, e, heq, -⟩ := actOf_acts c d hreset
    · exact .kept (h.sameTable hslots hbuffers hrta)
    · exact .slept ⟨hsleep, heq ▸ rfl⟩ (heq ▸ sleepEntry_hasNoRecords cause e)
  cases c with
  | deviceReset k m => exact absurd rfl (hreset k m)
  | claim =>
    obtain h | ⟨x, t, i, h⟩ := takeClaim_table d
    · exact h.acts
    · exact .claimed rfl h
  | amend | amendCommit | commit | renew | renewWithValue | release | purge | query | queryField | lookup
  | unknownKindRecordRequest => exact (takeRecord_table _ d (by decide)).acts
  | peerLossPurgeSet node =>
    obtain ⟨e, h, hsame⟩ := peerLossPurge_table node d
    exact .steps h hsame
  | parkEntryPurgeSet => exact (parkEntryPurge_table d).acts
  | editTimerExpiry k =>
    simp only [actOf, editExpiryOf]
    split
    · exact (editExpiry_table _ d).acts
    · exact .kept ⟨rfl, rfl⟩
  | renewalExpiry i =>
    simp only [actOf, renewalExpiryOf]
    split
    · exact (renewalExpiry_table _ d).acts
    · exact .kept ⟨rfl, rfl⟩
  | splitTimerExpiry => exact (splitExpiry_table d).acts
  | passCompletion => exact passCompletion_table d
  | _ => exact hkept (of_decide_eq_false rfl) (of_decide_eq_false rfl) (of_decide_eq_false rfl)

end Sys2Proof.Machine
end

section
/-! PROOFS. The rules of the table that every step keeps: grants and identities (R8, R84), Edit Buffers (R2, R5), uniqueness
(R18) and ownership (R45). -/

namespace Sys2Proof.Machine

-- A default proof `by decide` waits for the kernel: side by side the proofs would ask for a thread each.
set_option Elab.async false

variable {b : Bool} {d d' : Device}

/-! ## What a slot keeps through changes of the table -/

/-- What every change of a slot but a CLAIM's keeps: the generation, the identity of a record that stands, its life before
RETIRING, and outside a completion its answer part. -/
structure SlotKeeps (completing : Bool) (s s' : Slot) : Prop where
  generation : s'.generation = s.generation
  ident : ∀ x, s'.content.ident? = some x → s.content.ident? = some x
  draft : s'.content.isDraft = true → s.content.isDraft = true
  alive : s'.content.isDraft = true ∨ s'.content.isUsed = true → s.content.isDraft = true ∨ s.content.isUsed = true
  record : ∀ r', s'.content.record? = some r' →
    s.content.isDraft = true ∨ ∃ r, s.content.record? = some r ∧ (completing = false → r'.answer = r.answer)

theorem SlotKeeps.refl (s : Slot) : SlotKeeps b s s :=
  ⟨rfl, fun _ h => h, fun h => h, fun h => h, fun r h => .inr ⟨r, h, fun _ => rfl⟩⟩

theorem SlotKeeps.trans {s s' s'' : Slot} (h : SlotKeeps b s s') (h' : SlotKeeps b s' s'') : SlotKeeps b s s'' := by
  refine ⟨h'.generation.trans h.generation, fun x hx => h.ident x (h'.ident x hx), fun hx => h.draft (h'.draft hx),
    fun hx => h.alive (h'.alive hx), fun r'' hr'' => ?_⟩
  obtain hdraft | ⟨r', hr', hanswer'⟩ := h'.record r'' hr''
  · exact .inl (h.draft hdraft)
  obtain hdraft | ⟨r, hr, hanswer⟩ := h.record r' hr'
  · exact .inl hdraft
  · exact .inr ⟨r, hr, fun hb => (hanswer' hb).trans (hanswer hb)⟩

theorem SlotStep.keeps {m : Mode} {s s' : Slot} (h : SlotStep b m s s') : SlotKeeps b s s' := by
  cases h with
  | same => exact .refl s
  | committed g t r =>
    exact ⟨rfl, fun x hx => by simpa [Content.ident?] using hx, by simp [Content.isDraft], by simp [Content.isDraft],
      by simp [Content.isDraft]⟩
  | used g hc hc' hident hanswer =>
    refine ⟨rfl, ?_, ?_, ?_, ?_⟩ <;> obtain rfl | rfl := hc <;> obtain rfl | rfl := hc' <;>
      simp [Content.ident?, Content.isDraft, Content.isUsed, Content.record?, hident, hanswer]
  | retired g hc =>
    refine ⟨rfl, ?_, ?_, ?_, ?_⟩ <;> obtain rfl | rfl := hc <;>
      simp [Content.ident?, Content.isDraft, Content.isUsed, Content.record?]
  | marked g r k =>
    exact ⟨rfl, by simp [Content.ident?], by simp [Content.isDraft], by simp [Content.isDraft, Content.isUsed],
      by simp [Content.record?]⟩
  | freed g hc =>
    exact ⟨rfl, by simp [Content.ident?], by simp [Content.isDraft], by simp [Content.isDraft, Content.isUsed],
      by simp [Content.record?]⟩
  | granted g c a hcompleting =>
    refine ⟨rfl, ?_, ?_, ?_, ?_⟩ <;> cases c <;>
      simp [Content.mapRecord, Content.ident?, Content.isDraft, Content.isUsed, Content.record?, hcompleting]

theorem TableSteps.keeps (h : TableSteps b d d') (i : SlotNo) : SlotKeeps b (d.slot i) (d'.slot i) :=
  h.slots SlotKeeps.refl (fun _ _ _ => SlotKeeps.trans) (fun _ _ hstep => hstep.keeps) i

theorem record?_ident {c : Content} {r : Record} (h : c.record? = some r) : c.ident? = some r.ident := by
  cases c <;> simp_all [Content.record?, Content.ident?]

/-! ## Grants and identities (R8, R15, R84) -/

theorem SlotKeeps.record_kept {s s' : Slot} (h : SlotKeeps b s s') {r r' : Record} (hr : s.content.record? = some r)
    (hr' : s'.content.record? = some r') : r'.ident = r.ident ∧ (b = false → r'.answer = r.answer) := by
  have hident := h.ident _ (record?_ident hr')
  rw [record?_ident hr] at hident
  refine ⟨(Option.some.inj hident).symm, fun hb => ?_⟩
  obtain hdraft | ⟨q, hq, hanswer⟩ := h.record r' hr'
  · cases hc : s.content <;> simp_all [Content.record?, Content.isDraft]
  · obtain rfl : r = q := Option.some.inj (hr.symm.trans hq)
    exact hanswer hb

/-- Settles O60: of the changes of a slot only that of a completion writes an answer part, and a CLAIM's, which alone gives
a slot an identity, is made in a FREE slot. -/
theorem grantsChangeOnlyAtCompletion : Obligations.GrantsChangeOnlyAtCompletion := by
  intro s t c i r r' hexec hr hr'
  rw [dev_of_exec hexec] at hr'
  by_cases hreset : ∀ k m, c ≠ .deviceReset k m
  case neg =>
    simp only [not_forall, not_not] at hreset
    obtain ⟨k, m, rfl⟩ := hreset
    simp [actOf, (deviceReset_hasNoRecords k m s.dev).slot, Content.record?] at hr'
  obtain h | @⟨e, h, hsame⟩ | @⟨x, t, j, hc, h⟩ | ⟨hc, h⟩ := actOf_table c s.dev hreset
  · rw [h.slot, hr] at hr'
    cases hr'
    exact ⟨rfl, fun _ => rfl⟩
  · rw [hsame.slot] at hr'
    obtain ⟨hident, hanswer⟩ := (h.keeps i).record_kept hr hr'
    exact ⟨hident, fun hc => hanswer (by simpa using hc)⟩
  · have hij : i ≠ j := by
      rintro rfl
      have hfree := h.free
      cases hcontent : (s.dev.slot i).content <;> simp_all [Content.isFree, Content.record?]
    rw [h.same.slot, openDraft_slot_other _ _ _ hij, hr] at hr'
    cases hr'
    exact ⟨rfl, fun _ => rfl⟩
  · simp [h.slot, Content.record?] at hr'

/-! ## Edit Buffers (R2, R5) -/

theorem underEdit_iff {i : SlotNo} : d.underEdit i = true ↔ ∃ e, d.buffer (bankOf i) = some e ∧ e.slot = i := by
  simp [Device.underEdit, Device.openFor, Option.isSome_filter, Option.any_eq_true]

/-- The rule of Edit Buffers with its parts as propositions. -/
theorem bufferSound_iff : BufferSound d ↔
    (∀ k e, d.buffer k = some e →
      bankOf e.slot = k ∧ ((d.slot e.slot).content.isDraft = true ∨ (d.slot e.slot).content.isUsed = true)) ∧
    ∀ i, (d.slot i).content.isDraft = true → ∃ e, d.buffer (bankOf i) = some e ∧ e.slot = i := by
  simp only [BufferSound, underEdit_iff, Option.mem_def, Bool.or_eq_true]

theorem BufferSound.of_slots (h : BufferSound d) (hbuffer : ∀ k, d'.buffer k = d.buffer k)
    (hdraft : ∀ i, (d'.slot i).content.isDraft = (d.slot i).content.isDraft)
    (hused : ∀ i, (d'.slot i).content.isUsed = (d.slot i).content.isUsed) : BufferSound d' := by
  rw [bufferSound_iff] at h ⊢
  simpa only [hbuffer, hdraft, hused] using h

theorem BufferSound.congr (h : BufferSound d) (hsame : SameTable d d') : BufferSound d' :=
  h.of_slots hsame.buffer (fun i => by rw [hsame.slot]) (fun i => by rw [hsame.slot])

/-- Slots ended with their buffers closed. -/
theorem BufferSound.of_ended (h : BufferSound d) (which : SlotNo → Bool)
    (hbuffer : ∀ k, d'.buffer k = (d.buffer k).filter fun e => !which e.slot)
    (hother : ∀ i, which i = false → d'.slot i = d.slot i)
    (hended : ∀ i, which i = true → (d'.slot i).content.isDraft = false) : BufferSound d' := by
  obtain ⟨hopen, hdraft⟩ := bufferSound_iff.mp h
  refine bufferSound_iff.mpr ⟨fun k e he => ?_, fun i hi => ?_⟩
  · rw [hbuffer, Option.filter_eq_some_iff] at he
    obtain ⟨he, hkept⟩ := he
    rw [hother _ (by simpa using hkept)]
    exact hopen k e he
  · have hkept : which i = false := by
      cases hw : which i with
      | false => rfl
      | true => simp [hended i hw] at hi
    rw [hother i hkept] at hi
    obtain ⟨e, he, rfl⟩ := hdraft i hi
    exact ⟨e, by rw [hbuffer, he, Option.filter_some, hkept]; rfl, rfl⟩

theorem BufferSound.edit (h : BufferSound d) {i : SlotNo} {e : EditBuffer} (hslot : e.slot = i) (hedit : d.Editable i) :
    BufferSound (d.setBuffer (bankOf i) (some e)) := by
  obtain ⟨hopen, hdraft⟩ := bufferSound_iff.mp h
  refine bufferSound_iff.mpr ⟨fun k f hf => ?_, fun j hj => ?_⟩
  · by_cases hk : k = bankOf i
    · subst hk
      rw [Device.buffer_setBuffer_same] at hf
      cases hf
      rw [hslot]
      exact ⟨rfl, hedit.imp And.left And.left⟩
    · rw [d.buffer_setBuffer_other _ hk] at hf
      exact hopen k f hf
  · obtain ⟨f, hf, hfj⟩ := hdraft j hj
    by_cases hk : bankOf j = bankOf i
    · rw [hk] at hf ⊢
      have hi : f.slot = i := by
        obtain ⟨-, hunder⟩ | ⟨-, honly⟩ := hedit
        · obtain ⟨g, hg, hgi⟩ := underEdit_iff.mp hunder
          rw [Option.some.inj (hf.symm.trans hg), hgi]
        · exact honly f hf
      exact ⟨e, d.buffer_setBuffer_same _ _, by rw [hslot, ← hi, hfj]⟩
    · exact ⟨f, by rw [d.buffer_setBuffer_other _ hk, hf], hfj⟩

theorem committedAs_isDraft (c : Content) (img : Image) : (c.committedAs img).isDraft = false := by
  cases c <;> rfl

theorem BufferSound.commit (h : BufferSound d) {i : SlotNo} {e : EditBuffer} (hopen : d.openFor i = some e)
    (img : Image) : BufferSound (commitImage i img d) := by
  obtain ⟨hbuffer, hslot⟩ := openFor_eq_some hopen
  obtain ⟨hopens, hdraft⟩ := bufferSound_iff.mp h
  refine bufferSound_iff.mpr ⟨fun k f hf => ?_, fun j hj => ?_⟩
  · by_cases hk : k = bankOf i
    · subst hk
      simp at hf
    · rw [commitImage_buffer_other _ _ hk] at hf
      obtain ⟨hbank, halive⟩ := hopens k f hf
      have hne : f.slot ≠ i := fun hfi => hk (by rw [← hbank, hfi])
      rw [commitImage_slot_other _ _ hne]
      exact ⟨hbank, halive⟩
  · by_cases hji : j = i
    · subst hji
      rw [commitImage_slot_same, committedAs_isDraft] at hj
      cases hj
    · rw [commitImage_slot_other _ _ hji] at hj
      obtain ⟨f, hf, hfj⟩ := hdraft j hj
      have hk : bankOf j ≠ bankOf i := by
        intro hk
        rw [hk, hbuffer] at hf
        cases hf
        exact hji (hfj.symm.trans hslot)
      exact ⟨f, by rw [commitImage_buffer_other _ _ hk, hf], hfj⟩

theorem BufferSound.close (h : BufferSound d) {k : BankNo}
    (hnone : ∀ e ∈ d.buffer k, (d.slot e.slot).content.isDraft = false) : BufferSound (d.setBuffer k none) := by
  obtain ⟨hopens, hdraft⟩ := bufferSound_iff.mp h
  refine bufferSound_iff.mpr ⟨fun l f hf => ?_, fun j hj => ?_⟩
  · by_cases hl : l = k
    · subst hl
      simp at hf
    · rw [d.buffer_setBuffer_other _ hl] at hf
      exact hopens l f hf
  · obtain ⟨f, hf, hfj⟩ := hdraft j hj
    have hl : bankOf j ≠ k := by
      rintro rfl
      have hstays := hnone f hf
      rw [hfj] at hstays
      simp [hstays] at hj
    exact ⟨f, by rw [d.buffer_setBuffer_other _ hl, hf], hfj⟩

theorem BufferSound.openDraft (h : BufferSound d) {i : SlotNo} (hclosed : d.buffer (bankOf i) = none) (x : Identity)
    (t : Nat) : BufferSound (openDraft x t i d) := by
  obtain ⟨hopens, hdraft⟩ := bufferSound_iff.mp h
  refine bufferSound_iff.mpr ⟨fun k f hf => ?_, fun j hj => ?_⟩
  · by_cases hk : k = bankOf i
    · subst hk
      rw [openDraft_buffer_same] at hf
      cases hf
      exact ⟨rfl, .inl (by simp [Content.isDraft])⟩
    · rw [openDraft_buffer_other _ _ _ hk] at hf
      obtain ⟨hbank, halive⟩ := hopens k f hf
      have hne : f.slot ≠ i := fun hfi => hk (by rw [← hbank, hfi])
      rw [openDraft_slot_other _ _ _ hne]
      exact ⟨hbank, halive⟩
  · by_cases hji : j = i
    · subst hji
      exact ⟨_, openDraft_buffer_same x t j d, rfl⟩
    · rw [openDraft_slot_other _ _ _ hji] at hj
      obtain ⟨f, hf, hfj⟩ := hdraft j hj
      have hk : bankOf j ≠ bankOf i := by
        intro hk
        rw [hk, hclosed] at hf
        cases hf
      exact ⟨f, by rw [openDraft_buffer_other _ _ _ hk, hf], hfj⟩

/-- One slot's content changed from a record in use to another leaves which slots are DRAFT and which are in use. -/
theorem used_kept {i : SlotNo} (hother : ∀ j ≠ i, d'.slot j = d.slot j) (hi : (d.slot i).content.isUsed = true)
    (hi' : (d'.slot i).content.isUsed = true) :
    (∀ j, (d'.slot j).content.isDraft = (d.slot j).content.isDraft) ∧
      ∀ j, (d'.slot j).content.isUsed = (d.slot j).content.isUsed := by
  have hdraft {c : Content} (hc : c.isUsed = true) : c.isDraft = false := by
    cases c <;> simp_all [Content.isUsed, Content.isDraft]
  constructor <;> intro j <;> by_cases hj : j = i
  · rw [hj, hdraft hi, hdraft hi']
  · rw [hother j hj]
  · rw [hj, hi, hi']
  · rw [hother j hj]

theorem isUsed_of_or {c : Content} {r : Record} (h : c = .live r ∨ c = .stale r) : c.isUsed = true :=
  Content.isUsed_iff.mpr ⟨r, h⟩

theorem BufferSound.step (h : BufferSound d) (hstep : TableStep b d d') : BufferSound d' := by
  cases hstep with
  | keep htable => exact h.congr htable
  | edit hslot hedit => exact h.edit hslot hedit
  | commit hident hretiring hopen => exact h.commit hopen _
  | @renew i r v hused =>
    obtain ⟨hdraft, hused⟩ := used_kept (d' := renewRecord i r v d) (fun j hj => renewRecord_slot_other r v d hj)
      (isUsed_of_or hused) (by simp [Content.isUsed])
    exact h.of_slots (renewRecord_buffer i r v d) hdraft hused
  | @free which =>
    refine h.of_ended which (freeSlots_buffer which d) (fun i hi => ?_) fun i hi => ?_ <;> rw [freeSlots_slot, hi]
    · rfl
    · rfl
  | @retire which hused =>
    refine h.of_ended which (retireSlots_buffer which d) (fun i hi => ?_) fun i hi => ?_
    · rw [retireSlots_slot, hi]
      rfl
    · obtain ⟨r, hr | hr⟩ := Content.isUsed_iff.mp (hused i hi) <;> simp [retireSlots_slot, hi, hr, Content.retired, Content.isDraft]
  | close hdraft => exact h.close hdraft
  | @lapse i r wasLive hused =>
    obtain ⟨hbuffer, ⟨hothers, -⟩, -⟩ := lapseRecord_keeps i r wasLive d
    have hi : (d.slot i).content.isUsed = true := by
      rw [hused]
      cases wasLive <;> rfl
    obtain ⟨hdraft, hused⟩ := used_kept (fun j hj => (hothers j hj).1) hi (by
      obtain hsame | ⟨-, hstale⟩ := lapseRecord_slot_same i r wasLive d
      · rw [hsame, hi]
      · rw [hstale]
        rfl)
    exact h.of_slots hbuffer hdraft hused
  | mark =>
    refine h.of_slots (markRetiring_buffer d) (fun i => ?_) fun i => ?_ <;> rw [markRetiring_slot] <;>
      cases (d.slot i).content <;> rfl
  | grants =>
    refine h.of_slots (writeGrants_buffer _ d) (fun i => ?_) fun i => ?_ <;> rw [writeGrants_slot] <;>
      cases writtenAnswer _ i (d.slot i) <;> cases hc : (d.slot i).content <;>
      simp [Slot.granted, hc, Content.mapRecord, Content.isDraft, Content.isUsed]

theorem BufferSound.steps (h : BufferSound d) (hsteps : TableSteps b d d') : BufferSound d' := by
  induction hsteps with
  | refl => exact h
  | tail _ hstep ih => exact ih.step hstep

theorem Device.HasNoRecords.bufferSound (h : d.HasNoRecords) : BufferSound d := by
  simp [BufferSound, h.slot, h.buffer, Content.isDraft]

theorem BufferSound.tick (h : BufferSound d) : BufferSound (tick d) := by
  obtain ⟨hopens, hdraft⟩ := bufferSound_iff.mp h
  refine bufferSound_iff.mpr ⟨fun k e he => ?_, fun i hi => ?_⟩
  · rw [tick_buffer, Option.map_eq_some_iff] at he
    obtain ⟨f, hf, rfl⟩ := he
    exact hopens k f hf
  · obtain ⟨f, hf, hfi⟩ := hdraft i hi
    exact ⟨f.tick, by rw [tick_buffer, hf]; rfl, hfi⟩

theorem BufferSound.act (h : BufferSound d) {c : Instr} (hacts : TableActs c d d') : BufferSound d' := by
  obtain hsame | @⟨e, hsteps, hsame⟩ | @⟨x, t, i, -, hclaim⟩ | ⟨-, hnone⟩ := hacts
  · exact h.congr hsame
  · exact (h.steps hsteps).congr hsame
  · exact (h.openDraft hclaim.closed x t).congr hclaim.same
  · exact hnone.bufferSound

/-! ## Uniqueness (R18) -/

theorem UniqueSound.of_idents (h : UniqueSound d)
    (hident : ∀ i x, (d'.slot i).content.ident? = some x → (d.slot i).content.ident? = some x) : UniqueSound d' :=
  fun i j hij x hx y hy => h i j hij x (hident i x hx) y (hident j y hy)

theorem Identity.excludes_comm (x y : Identity) : x.excludes y = y.excludes x := by
  have howner : decide (x.owner = y.owner) = decide (y.owner = x.owner) := by simp [eq_comm]
  have hlabel : decide (x.label = y.label) = decide (y.label = x.label) := by simp [eq_comm]
  have hcls : (decide (x.cls = y.cls) && decide (x.cls.kindCode = 3)) =
      (decide (y.cls = x.cls) && decide (y.cls.kindCode = 3)) := by
    by_cases hxy : x.cls = y.cls
    · simp [hxy]
    · simp [hxy, Ne.symm hxy]
  rw [excludes, excludes, howner, hlabel, hcls, Bool.and_comm (decide (x.cls = .demand))]

/-- The check before a CLAIM is the rule of uniqueness (R18, R30). -/
theorem excludes_of_not_clashes {x y : Identity} {s : Slot} (h : clashes x s = false) (hy : s.content.ident? = some y) :
    x.excludes y = false := by
  simp only [clashes, hy, Bool.or_eq_false_iff] at h
  obtain ⟨howned, hkind⟩ := h
  rw [Identity.excludes_comm]
  simp only [Identity.excludes, Bool.or_eq_false_iff]
  refine ⟨⟨howned, ?_⟩, ?_⟩
  · cases hx : x.cls <;> simp_all
  · cases hx : x.cls with
    | measure q => simp_all
    | _ =>
      by_cases hxy : y.cls = x.cls
      · simp [hxy, hx, RecordClass.kindCode]
      · simp [hx ▸ hxy]

theorem UniqueSound.openDraft (h : UniqueSound d) {x : Identity} (hclash : ∀ j, clashes x (d.slot j) = false) (t : Nat)
    (i : SlotNo) : UniqueSound (openDraft x t i d) := by
  have hnew {j : SlotNo} (hj : j ≠ i) {y : Identity} (hy : (Machine.openDraft x t i d |>.slot j).content.ident? = some y) :
      x.excludes y = false := by
    rw [openDraft_slot_other _ _ _ hj] at hy
    exact excludes_of_not_clashes (hclash j) hy
  have hopened {z : Identity} (hz : (Machine.openDraft x t i d |>.slot i).content.ident? = some z) : x = z := by
    simpa [Content.ident?] using hz
  intro j k hjk y hy z hz
  by_cases hj : j = i
  · subst hj
    obtain rfl := hopened hy
    exact hnew (Ne.symm hjk) hz
  by_cases hk : k = i
  · subst hk
    obtain rfl := hopened hz
    rw [Identity.excludes_comm]
    exact hnew hj hy
  · rw [openDraft_slot_other _ _ _ hj] at hy
    rw [openDraft_slot_other _ _ _ hk] at hz
    exact h j k hjk y hy z hz

theorem Device.HasNoRecords.uniqueSound (h : d.HasNoRecords) : UniqueSound d := by
  simp [UniqueSound, h.slot, Content.ident?]

theorem UniqueSound.congr (h : UniqueSound d) (hsame : SameTable d d') : UniqueSound d' :=
  h.of_idents fun i x hx => by rwa [hsame.slot] at hx

theorem UniqueSound.act (h : UniqueSound d) {c : Instr} (hacts : TableActs c d d') : UniqueSound d' := by
  obtain hsame | @⟨e, hsteps, hsame⟩ | @⟨x, t, i, -, hclaim⟩ | ⟨-, hnone⟩ := hacts
  · exact h.congr hsame
  · exact UniqueSound.congr (h.of_idents fun i x => (hsteps.keeps i).ident x) hsame
  · exact (h.openDraft hclaim.admitted t i).congr hclaim.same
  · exact hnone.uniqueSound

end Sys2Proof.Machine
end

section
/-! PROOFS. The roster after every command, ownership of the records by SUPERVISOR or enrolled peers (R45), and the rules
of the table as a whole. -/

namespace Sys2Proof.Machine

-- A default proof `by decide` waits for the kernel: side by side the proofs would ask for a thread each.
set_option Elab.async false

variable {d d' : Device}

/-! ## The roster after each command that writes it (R150 to R152) -/

theorem enrolled_iff {n : Nat} : d.enrolled n = true ↔ n ∈ d.vbp.roster.map (·.node) := by
  simp [Device.enrolled, Device.entryOf, List.find?_isSome]

theorem entryOf_eq_none_iff {n : Nat} : d.entryOf n = none ↔ n ∉ d.vbp.roster.map (·.node) := by
  rw [← enrolled_iff, Device.enrolled, Option.not_isSome_iff_eq_none]

/-- Changing the entry of a node that has none changes nothing. -/
theorem mapEntry_of_not_mem {n : Nat} (f : RosterEntry → RosterEntry) {r : List RosterEntry}
    (h : n ∉ r.map (·.node)) : mapEntry n f r = r := by
  refine (List.map_congr_left fun e he => if_neg fun hn => h ?_).trans (List.map_id r)
  exact List.mem_map.mpr ⟨e, he, hn⟩

theorem mapEntry_nodes (n : Nat) {f : RosterEntry → RosterEntry} (hf : ∀ e, (f e).node = e.node) (r : List RosterEntry) :
    (mapEntry n f r).map (·.node) = r.map (·.node) := by
  rw [mapEntry, List.map_map]
  refine List.map_congr_left fun e _ => ?_
  by_cases he : e.node = n <;> simp [he, hf]

theorem insertEntry_perm (x : RosterEntry) (r : List RosterEntry) : (insertEntry x r).Perm (x :: r) := by
  induction r with
  | nil => exact .refl _
  | cons e es ih =>
    unfold insertEntry
    split
    · exact .refl _
    · exact (ih.cons e).trans (.swap x e es)

/-- The roster after a HELLO's outcome (R150). -/
def HelloOutcome.rosterAfter (o : HelloOutcome) (node timeout : Nat) (r : List RosterEntry) : List RosterEntry :=
  match o with
  | .refused _ | .keep => r
  | .enrol role => insertEntry (.new node role timeout) r
  | .change role => mapEntry node (fun e => { e with role := role }) r

theorem applyHello_roster (node : Nat) (o : HelloOutcome) (d : Device) :
    (applyHello node o d).vbp.roster = o.rosterAfter node d.cs.silenceTimeout.toNat d.vbp.roster := by
  have hrole (role : Role) (e : Device) : (roleTaken role e).vbp.roster = e.vbp.roster :=
    (roleTaken_changes role e).same .roster
  have hraise (e : Device) : (raiseRoster node e).vbp = e.vbp := rfl
  cases o with
  | refused r => rfl
  | keep => rfl
  | enrol role =>
    rw [applyHello, enrol, hrole, hraise]
    rfl
  | change role =>
    simp only [applyHello, changeRole]
    split
    · have hlose (e : Device) : (loseEnginePeer e).vbp.roster = e.vbp.roster := (loseEnginePeer_sequenced e).changes.same .roster
      rw [hlose, hrole, hraise]
      rfl
    · rw [hrole, hraise]
      rfl

/-- A HELLO taken: its frame leaves the buffer, its outcome is applied and answered. -/
theorem hello_of_found {f : RxFrame} (hf : d.vbp.rx.find? isHelloFrame = some f) (hroom : d.txRoom = true) :
    hello d =
      handFrame .reply
        (helloReply f.node (helloOutcome d f).result
          (applyHello f.node (helloOutcome d f) (d.withVbp { d.vbp with rx := d.vbp.rx.eraseP isHelloFrame })))
        (applyHello f.node (helloOutcome d f) (d.withVbp { d.vbp with rx := d.vbp.rx.eraseP isHelloFrame })).draw := by
  rw [hello, hf]
  exact if_pos hroom

theorem hello_roster (d : Device) :
    (hello d).vbp.roster = d.vbp.roster ∨
      ∃ f, d.vbp.rx.find? isHelloFrame = some f ∧
        (hello d).vbp.roster = (helloOutcome d f).rosterAfter f.node d.cs.silenceTimeout.toNat d.vbp.roster := by
  cases hf : d.vbp.rx.find? isHelloFrame with
  | none => exact .inl (by simp [hello, hf])
  | some f =>
    cases hroom : d.txRoom with
    | false => exact .inl (by simp [hello, hf, hroom])
    | true =>
      refine .inr ⟨f, rfl, ?_⟩
      have hhand (g : TxFrame) (e : Device) : (handFrame .reply g e).vbp.roster = e.vbp.roster :=
        (Changes.handFrame (ps := [.replies, .notice .link]) .reply g e (by decide)).same .roster
      rw [hello_of_found hf hroom, hhand, Device.draw_vbp, applyHello_roster]
      rfl

theorem hearNode_roster (n : Nat) (d : Device) :
    (hearNode n d).vbp.roster = mapEntry n (RosterEntry.heard d.cs.silenceTimeout.toNat) d.vbp.roster := by
  unfold hearNode
  split
  · next hnone => rw [mapEntry_of_not_mem _ (entryOf_eq_none_iff.mp hnone)]
  · split <;> rfl

/-- The node that a frame in the peer-to-part range comes from (R146). -/
theorem senderOf_eq_some {base : Int} {f : CanFrame} {n : Nat} (h : senderOf base f = some n) :
    isNode n ∧ f.extended = false ∧ f.remote = false ∧ (f.ident : Int) = base + n := by
  unfold senderOf at h
  split at h
  · next hin =>
    simp only [Bool.and_eq_true, Bool.not_eq_true', decide_eq_true_eq] at hin
    obtain ⟨⟨⟨hext, hrem⟩, hlo⟩, hhi⟩ := hin
    cases h
    refine ⟨?_, hext, hrem, ?_⟩
    · simp only [isNode, Bool.and_eq_true, decide_eq_true_eq]
      omega
    · omega
  · cases h

theorem bufferFrame_cases (n : Nat) (data : List Byte) (d : Device) :
    (d.vbp.rx.length < 8 ∧ (bufferFrame n data d).vbp.rx = d.vbp.rx ++ [{ node := n, data := data }] ∧
        (bufferFrame n data d).vbp.roster = mapEntry n (RosterEntry.heard d.cs.silenceTimeout.toNat) d.vbp.roster) ∨
      8 ≤ d.vbp.rx.length ∧ bufferFrame n data d = raiseRxOverrun n d := by
  unfold bufferFrame
  split
  · next hroom =>
    have hrx (e : Device) : (hearNode n e).vbp.rx = e.vbp.rx := (hearNode_changes n e).same .rx
    exact .inl ⟨hroom, by rw [hrx]; rfl, by rw [hearNode_roster]; rfl⟩
  · next hfull => exact .inr ⟨Nat.not_lt.mp hfull, rfl⟩

theorem wake_port (c : ModeCause) (d : Device) :
    (wake c d).vbp.rx = d.vbp.rx ∧ (wake c d).vbp.roster = d.vbp.roster ∧ (wake c d).cs = d.cs :=
  ⟨(wake_changes c d).same .rx, (wake_changes c d).same .roster, (wake_changes c d).same .config⟩

/-- A frame received leaves buffer and roster, or is one of a node that enters the buffer with room and is heard. -/
theorem frameReceived_port (f : CanFrame) (d : Device) :
    ((frameReceived f d).vbp.rx = d.vbp.rx ∧ (frameReceived f d).vbp.roster = d.vbp.roster) ∨
      ∃ n, isNode n ∧ d.vbp.rx.length < 8 ∧
        (frameReceived f d).vbp.rx = d.vbp.rx ++ [{ node := n, data := f.data }] ∧
        (frameReceived f d).vbp.roster = mapEntry n (RosterEntry.heard d.cs.silenceTimeout.toNat) d.vbp.roster := by
  unfold frameReceived
  split
  case h_1 | h_2 => exact .inl ⟨rfl, rfl⟩
  all_goals
    split
    · exact .inl ⟨rfl, rfl⟩
    next n hn =>
    have hport : (if d.mc.mode = .sleep then wake .bus d else d).vbp.rx = d.vbp.rx ∧
        (if d.mc.mode = .sleep then wake .bus d else d).vbp.roster = d.vbp.roster ∧
        (if d.mc.mode = .sleep then wake .bus d else d).cs = d.cs := by
      split
      · exact wake_port .bus d
      · exact ⟨rfl, rfl, rfl⟩
    obtain ⟨hrx, hroster, hcs⟩ := hport
    obtain ⟨hroom, hrx', hroster'⟩ | ⟨-, hlost⟩ := bufferFrame_cases n f.data (if d.mc.mode = .sleep then wake .bus d else d)
    · rw [hrx] at hroom hrx'
      rw [hroster, hcs] at hroster'
      exact .inr ⟨n, (senderOf_eq_some hn).1, hroom, hrx', hroster'⟩
    · rw [hlost]
      exact .inl ⟨hrx, hroster⟩

theorem silenceExpiry_roster (n : Nat) (d : Device) :
    (silenceExpiry n d).vbp.roster = d.vbp.roster ∨
      (silenceExpiry n d).vbp.roster = mapEntry n (fun e => { e with state := .silent }) d.vbp.roster := by
  unfold silenceExpiry
  split
  · exact .inl rfl
  · split
    · exact .inr rfl
    · exact .inl rfl

theorem endPeer_roster (n : Nat) (d : Device) : (endPeer n d).vbp.roster = d.vbp.roster :=
  (endRecords_changes (ownedBy d n) (d.withRau { d.rau with peerLossSets := d.rau.peerLossSets.erase n })).same .roster

theorem dropPeer_roster (n : Nat) (d : Device) :
    (dropPeer n d).vbp.roster = d.vbp.roster.filter fun e => e.node ≠ n := by
  rw [← endPeer_roster n d]
  rfl

theorem peerLossPurge_roster (n : Nat) (d : Device) :
    (peerLossPurge n d).vbp.roster = d.vbp.roster ∨
      (peerLossPurge n d).vbp.roster = d.vbp.roster.filter fun e => e.node ≠ n := by
  cases h : d.rau.peerLossSets.contains n with
  | false => exact .inl (by rw [peerLossPurge_of_not_waiting h])
  | true =>
    right
    rw [peerLossPurge_of_waiting h, ← dropPeer_roster n d]
    split
    · exact (loseEnginePeer_sequenced _).changes.same .roster
    · rfl

/-! ## Ownership (R45) -/

/-- Every record that is not RETIRING is owned by SUPERVISOR or a node with `p`. -/
def Device.OwnedBy (p : Nat → Prop) (d : Device) : Prop :=
  ∀ i, ((d.slot i).content.isDraft = true ∨ (d.slot i).content.isUsed = true) →
    ∀ x, (d.slot i).content.ident? = some x → x.owner = 0 ∨ p x.owner

theorem ownerSound_iff : OwnerSound d ↔ d.OwnedBy fun n => d.enrolled n = true := by
  simp only [OwnerSound, Device.OwnedBy, Content.owner?, Option.mem_def, Option.map_eq_some_iff, Bool.or_eq_true,
    forall_exists_index, and_imp, forall_apply_eq_imp_iff₂]

theorem Device.OwnedBy.mono {p q : Nat → Prop} (h : d.OwnedBy p) (hpq : ∀ n, p n → q n) : d.OwnedBy q :=
  fun i hi x hx => (h i hi x hx).imp_right (hpq _)

theorem Device.OwnedBy.congr {p : Nat → Prop} (h : d.OwnedBy p) (hsame : SameTable d d') : d'.OwnedBy p := by
  intro i hi x hx
  rw [hsame.slot] at hi hx
  exact h i hi x hx

theorem Device.OwnedBy.steps {p : Nat → Prop} {b : Bool} (h : d.OwnedBy p) (hsteps : TableSteps b d d') : d'.OwnedBy p :=
  fun i hi x hx => h i ((hsteps.keeps i).alive hi) x ((hsteps.keeps i).ident x hx)

theorem Device.OwnedBy.openDraft {p : Nat → Prop} (h : d.OwnedBy p) {x : Identity} (hx : x.owner = 0 ∨ p x.owner) (t : Nat)
    (i : SlotNo) : (openDraft x t i d).OwnedBy p := by
  intro j hj y hy
  by_cases hji : j = i
  · subst hji
    obtain rfl : x = y := by simpa [Content.ident?] using hy
    exact hx
  · rw [openDraft_slot_other _ _ _ hji] at hj hy
    exact h j hj y hy

theorem Device.HasNoRecords.ownedBy {p : Nat → Prop} (h : d.HasNoRecords) : d.OwnedBy p := by
  simp [Device.OwnedBy, h.slot, Content.isDraft, Content.isUsed]

/-- Ownership by the nodes enrolled before holds after any command but the one that takes a node from the roster. -/
theorem OwnerSound.act {c : Instr} (h : OwnerSound d) (hacts : TableActs c d d') :
    d'.OwnedBy fun n => d.enrolled n = true := by
  have howned := ownerSound_iff.mp h
  obtain hsame | @⟨e, hsteps, hsame⟩ | @⟨x, t, i, -, hclaim⟩ | ⟨-, hnone⟩ := hacts
  · exact howned.congr hsame
  · exact (howned.steps hsteps).congr hsame
  · exact (howned.openDraft hclaim.enrolled t i).congr hclaim.same
  · exact hnone.ownedBy

/-- No DRAFT, LIVE or STALE record of a node stands once its records are ended. -/
theorem endPeer_ownedBy {p : Nat → Prop} (h : d.OwnedBy p) (n : Nat) : (endPeer n d).OwnedBy fun m => p m ∧ m ≠ n := by
  intro i hi x hx
  have hkeeps := (endPeer_table (b := false) n d).keeps i
  have hident := hkeeps.ident x hx
  refine (h i (hkeeps.alive hi) x hident).imp_right fun hp => ⟨hp, ?_⟩
  rintro rfl
  have hnamed : ownedBy d x.owner i = true := by simp [ownedBy, Content.owner?, hident]
  have hends := endRecords_slot (ownedBy d x.owner) (d.withRau { d.rau with peerLossSets := d.rau.peerLossSets.erase x.owner }) i
  have hslot : (d.withRau { d.rau with peerLossSets := d.rau.peerLossSets.erase x.owner }).slot i = d.slot i := rfl
  rw [← endPeer, hslot] at hends
  cases hmode : d.mc.mode.noPasses <;> cases hc : (d.slot i).content <;>
    simp_all [endsFree, endsRetiring, Content.isDraft, Content.isUsed, Content.retired]

theorem Device.HasNoRecords.ownerSound (h : d.HasNoRecords) : OwnerSound d := ownerSound_iff.mpr h.ownedBy

theorem OwnerSound.peerLossPurge (h : OwnerSound d) (n : Nat) : OwnerSound (peerLossPurge n d) := by
  cases hwaits : d.rau.peerLossSets.contains n with
  | false => rwa [peerLossPurge_of_not_waiting hwaits]
  | true =>
    obtain ⟨htable, hroster⟩ : SameTable (endPeer n d) (Machine.peerLossPurge n d) ∧
        (Machine.peerLossPurge n d).vbp.roster = d.vbp.roster.filter fun e => e.node ≠ n := by
      rw [peerLossPurge_of_waiting hwaits, ← dropPeer_roster n d]
      split
      · exact ⟨(dropPeer_sameTable n d).trans (loseEnginePeer_sequenced _).changes.sameTable,
          (loseEnginePeer_sequenced _).changes.same .roster⟩
      · exact ⟨dropPeer_sameTable n d, rfl⟩
    refine ownerSound_iff.mpr (((endPeer_ownedBy (ownerSound_iff.mp h) n).congr htable).mono fun m hm => ?_)
    obtain ⟨henrolled, hne⟩ := hm
    obtain ⟨e, he, hem⟩ := List.mem_map.mp (enrolled_iff.mp henrolled)
    rw [enrolled_iff, hroster]
    exact List.mem_map.mpr ⟨e, List.mem_filter.mpr ⟨he, by simpa [hem] using hne⟩, hem⟩

/-- A node enrolled stays so, but for its purge set, SLEEP entry and device reset. -/
theorem actOf_enrolled {c : Instr} (hreset : ∀ k m, c ≠ .deviceReset k m) (hpurge : ∀ n, c ≠ .peerLossPurgeSet n)
    {n : Nat} (h : d.enrolled n = true) : (actOf c d).enrolled n = true ∨ (actOf c d).HasNoRecords := by
  have hkept : (actOf c d).vbp.roster = d.vbp.roster → (actOf c d).enrolled n = true := by
    intro heq
    rwa [enrolled_iff, heq, ← enrolled_iff]
  have hmapped (m : Nat) (f : RosterEntry → RosterEntry) (hf : ∀ e, (f e).node = e.node)
      (heq : (actOf c d).vbp.roster = mapEntry m f d.vbp.roster) : (actOf c d).enrolled n = true := by
    rwa [enrolled_iff, heq, mapEntry_nodes m hf, ← enrolled_iff]
  cases c with
  | deviceReset k m => exact absurd rfl (hreset k m)
  | peerLossPurgeSet m => exact absurd rfl (hpurge m)
  | hello =>
    obtain heq | ⟨f, -, heq⟩ := hello_roster d
    · exact .inl (hkept heq)
    cases ho : helloOutcome d f with
    | refused r | keep =>
      rw [ho] at heq
      exact .inl (hkept heq)
    | enrol role =>
      left
      rw [ho] at heq
      rw [enrolled_iff, actOf, heq, HelloOutcome.rosterAfter, ((insertEntry_perm _ _).map _).mem_iff, List.map_cons]
      exact List.mem_cons_of_mem _ (enrolled_iff.mp h)
    | change role =>
      rw [ho] at heq
      exact .inl (hmapped _ (fun e => { e with role := role }) (fun _ => rfl) heq)
  | frameReceived f =>
    obtain ⟨-, heq⟩ | ⟨m, -, -, -, heq⟩ := frameReceived_port f d
    · exact .inl (hkept heq)
    · exact .inl (hmapped m (RosterEntry.heard d.cs.silenceTimeout.toNat) (fun _ => rfl) heq)
  | silenceExpiry m =>
    obtain heq | heq := silenceExpiry_roster m d
    · exact .inl (hkept heq)
    · exact .inl (hmapped m (fun e => { e with state := .silent }) (fun _ => rfl) heq)
  | _ =>
    obtain hacts | ⟨-, cause, e, heq, -⟩ := actOf_acts _ d hreset
    · exact .inl (hkept (hacts.same .roster (of_decide_eq_false rfl)))
    · exact .inr (heq ▸ sleepEntry_hasNoRecords cause e)

theorem OwnerSound.actOf (h : OwnerSound d) {c : Instr} (hreset : ∀ k m, c ≠ .deviceReset k m) :
    OwnerSound (actOf c d) := by
  by_cases hpurge : ∀ n, c ≠ .peerLossPurgeSet n
  case neg =>
    simp only [not_forall, not_not] at hpurge
    obtain ⟨n, rfl⟩ := hpurge
    exact h.peerLossPurge n
  by_cases hnone : (Machine.actOf c d).HasNoRecords
  · exact hnone.ownerSound
  · exact ownerSound_iff.mpr ((h.act (actOf_table c d hreset)).mono fun n hn =>
      (actOf_enrolled hreset hpurge hn).resolve_right hnone)

theorem OwnerSound.tick (h : OwnerSound d) : OwnerSound (tick d) := by
  refine ownerSound_iff.mpr (Device.OwnedBy.mono (p := fun n => d.enrolled n = true) ?_ fun n hn => ?_)
  · exact fun i hi x hx => ownerSound_iff.mp h i hi x hx
  · rw [enrolled_iff] at hn ⊢
    simpa [Machine.tick, BusPort.tick, RosterEntry.tick, Function.comp_def] using hn

/-! ## The rules of the table as a whole -/

theorem UniqueSound.tick (h : UniqueSound d) : UniqueSound (tick d) := h.of_idents fun _ _ hx => hx

/-- Settles O54: the chain of table changes of each command keeps the rule of Edit Buffers and adds no identity; a CLAIM
checks its own; ownership is lost only with the roster entry, whose purge set ends the node's records first. -/
theorem tableRulesKept : Obligations.TableRulesKept := by
  intro s t hbuffer hunique howner hstep
  obtain hdev | ⟨c, hdev⟩ := dev_of_step hstep <;> rw [hdev]
  · exact ⟨hbuffer.tick, hunique.tick, howner.tick⟩
  by_cases hreset : ∀ k m, c ≠ .deviceReset k m
  case neg =>
    simp only [not_forall, not_not] at hreset
    obtain ⟨k, m, rfl⟩ := hreset
    have hnone := deviceReset_hasNoRecords k m s.dev
    exact ⟨hnone.bufferSound, hnone.uniqueSound, hnone.ownerSound⟩
  have hacts := actOf_table c s.dev hreset
  exact ⟨hbuffer.act hacts, hunique.act hacts, howner.actOf hreset⟩

end Sys2Proof.Machine
end

section
/-! PROOFS. The link's FIFOs and the transmit queue stay within their capacities, and the ORDER class within its rules
(R154, R160): one predicate that every operation of port and link keeps. -/

namespace Sys2Proof.Machine

-- A default proof `by decide` waits for the kernel: side by side the proofs would ask for a thread each.
set_option Elab.async false

variable {d d' e : Device}

/-! ## The transmit queue -/

/-- A transmit queue within its capacity, with one waiting START or STOP and one waiting SETPOINT at most (R145, R154). -/
def TxQueue.Fits (q : TxQueue) : Prop :=
  q.count ≤ 24 ∧ (q.waitingOrders.filter TxFrame.isOrder).length ≤ 1 ∧
    (q.waitingOrders.filter TxFrame.isSetpoint).length ≤ 1 ∧ ∀ f ∈ q.orders, f.isOrder || f.isSetpoint

/-- A queue with no more frames fits where its waiting orders are among those of one that fits. -/
theorem TxQueue.Fits.of_sublist {q q' : TxQueue} (h : q.Fits) (hcount : q'.count ≤ 24)
    (hwaiting : q'.waitingOrders.Sublist q.waitingOrders) (horders : ∀ f ∈ q'.orders, f ∈ q.orders) : q'.Fits := by
  obtain ⟨-, horder, hsetpoint, hsorts⟩ := h
  exact ⟨hcount, ((hwaiting.filter _).length_le).trans horder, ((hwaiting.filter _).length_le).trans hsetpoint,
    fun f hf => hsorts f (horders f hf)⟩

theorem TxQueue.Fits.cleared (l : List TxFrame) (h : l.length ≤ 24) : ({ TxQueue.cleared with modes := l } : TxQueue).Fits := by
  simpa [TxQueue.Fits, TxQueue.count, TxQueue.cleared, TxQueue.waitingOrders, TxQueue.orderInTx] using h

/-! ### ORDER frames handed to the port -/

/-- The frames of the sort that a handed body replaces are all of that body's sort. -/
theorem HandedAs.sort_eq {p : TxFrame → Bool} {b : TxBody} (h : HandedAs p b) (dest : Dest) {f : TxFrame} (hf : p f = true) :
    f.isOrder = ({ dest := dest, body := b } : TxFrame).isOrder ∧
      f.isSetpoint = ({ dest := dest, body := b } : TxFrame).isSetpoint := by
  obtain ⟨fd, fb⟩ := f
  cases h <;> cases fb <;> simp_all [TxFrame.isOrder, TxFrame.isSetpoint]

theorem HandedAs.cases_sort {p : TxFrame → Bool} {b : TxBody} (h : HandedAs p b) (dest : Dest) :
    p = TxFrame.isOrder ∧ ({ dest := dest, body := b } : TxFrame).isOrder = true ∧
        ({ dest := dest, body := b } : TxFrame).isSetpoint = false ∨
      p = TxFrame.isSetpoint ∧ ({ dest := dest, body := b } : TxFrame).isSetpoint = true ∧
        ({ dest := dest, body := b } : TxFrame).isOrder = false := by
  cases h
  · exact .inl ⟨rfl, rfl, rfl⟩
  · exact .inr ⟨rfl, rfl, rfl⟩

theorem replaceFirst_some {p : TxFrame → Bool} {x : TxFrame} {l l' : List TxFrame} (h : replaceFirst p x l = some l') :
    ∃ a f b, l = a ++ f :: b ∧ p f = true ∧ l' = a ++ x :: b := by
  induction l generalizing l' with
  | nil => cases h
  | cons g gs ih =>
    unfold replaceFirst at h
    split at h
    · next hg =>
      cases h
      exact ⟨[], g, gs, rfl, hg, rfl⟩
    · obtain ⟨m, hm, rfl⟩ := Option.map_eq_some_iff.mp h
      obtain ⟨a, f, b, rfl, hf, rfl⟩ := ih hm
      exact ⟨g :: a, f, b, rfl, hf, rfl⟩

theorem replaceFirst_none {p : TxFrame → Bool} {x : TxFrame} {l : List TxFrame} (h : replaceFirst p x l = none) :
    ∀ f ∈ l, p f = false := by
  induction l with
  | nil => simp
  | cons g gs ih =>
    unfold replaceFirst at h
    split at h
    · cases h
    · next hg =>
      rw [Option.map_eq_none_iff] at h
      simpa [hg] using ih h

/-- The waiting ORDER frame of the sort replaced in place (R154). -/
theorem replaceWaiting_some {p : TxFrame → Bool} {x : TxFrame} {q : TxQueue} {l : List TxFrame}
    (h : replaceWaiting p x q = some l) :
    ∃ a f b c, q.orders = c ++ (a ++ f :: b) ∧ q.waitingOrders = a ++ f :: b ∧ p f = true ∧ l = c ++ (a ++ x :: b) ∧
      ({ q with orders := l } : TxQueue).waitingOrders = a ++ x :: b := by
  unfold replaceWaiting at h
  split at h
  case isTrue hin =>
    split at h
    · cases h
    · next g gs horders =>
      obtain ⟨m, hm, rfl⟩ := Option.map_eq_some_iff.mp h
      obtain ⟨a, f, b, rfl, hf, rfl⟩ := replaceFirst_some hm
      have hin' : ({ q with orders := g :: (a ++ x :: b) } : TxQueue).orderInTx = true := hin
      exact ⟨a, f, b, [g], horders, by simp [TxQueue.waitingOrders, hin, horders], hf, rfl,
        by simp [TxQueue.waitingOrders, hin']⟩
  case isFalse hin =>
    obtain ⟨a, f, b, horders, hf, rfl⟩ := replaceFirst_some h
    have hin' : ¬({ q with orders := a ++ x :: b } : TxQueue).orderInTx = true := hin
    exact ⟨a, f, b, [], horders, by simp [TxQueue.waitingOrders, hin, horders], hf, rfl,
      by simp [TxQueue.waitingOrders, hin']⟩

theorem replaceWaiting_none {p : TxFrame → Bool} {x : TxFrame} {q : TxQueue} (h : replaceWaiting p x q = none) :
    ∀ f ∈ q.waitingOrders, p f = false := by
  unfold replaceWaiting at h
  unfold TxQueue.waitingOrders
  split at h
  · next hin =>
    rw [if_pos hin]
    split at h
    · next hempty => simp [hempty]
    · next horders =>
      rw [Option.map_eq_none_iff] at h
      simpa [horders] using replaceFirst_none h
  · next hin =>
    rw [if_neg hin]
    exact replaceFirst_none h

theorem TxQueue.waitingOrders_append (q : TxQueue) (f : TxFrame) :
    ({ q with orders := q.orders ++ [f] } : TxQueue).waitingOrders.Sublist (q.waitingOrders ++ [f]) := by
  have hin : ({ q with orders := q.orders ++ [f] } : TxQueue).orderInTx = q.orderInTx := rfl
  unfold TxQueue.waitingOrders
  rw [hin]
  split
  · cases q.orders <;> simp
  · exact .refl _

theorem TxQueue.Fits.replaceWaiting {q : TxQueue} (hq : q.Fits) {p : TxFrame → Bool} {b : TxBody} (hb : HandedAs p b)
    {dest : Dest} {l : List TxFrame} (h : replaceWaiting p { dest := dest, body := b } q = some l) :
    ({ q with orders := l } : TxQueue).Fits := by
  obtain ⟨a, f, b', c, horders, hwaiting, hf, rfl, hwaiting'⟩ := replaceWaiting_some h
  obtain ⟨hcount, horder, hsetpoint, hsorts⟩ := hq
  obtain ⟨hsameOrder, hsameSetpoint⟩ := hb.sort_eq dest hf
  have hfilter (r : TxFrame → Bool) (hr : r f = r { dest := dest, body := b }) :
      ((a ++ { dest := dest, body := b } :: b').filter r).length = ((a ++ f :: b').filter r).length := by
    simp only [List.filter_append, List.filter_cons, List.length_append, ← hr]
    split <;> simp
  rw [hwaiting] at horder hsetpoint
  refine ⟨?_, ?_, ?_, fun g hg => ?_⟩
  · simpa [TxQueue.count, horders] using hcount
  · rw [hwaiting', hfilter _ hsameOrder]
    exact horder
  · rw [hwaiting', hfilter _ hsameSetpoint]
    exact hsetpoint
  · have hin (g : TxFrame) (h : g ∈ c ++ (a ++ f :: b')) := hsorts g (horders ▸ h)
    simp only [List.mem_append, List.mem_cons] at hg hin
    obtain hc | ha | rfl | hb' := hg
    · exact hin g (.inl hc)
    · exact hin g (.inr (.inl ha))
    · rw [← hsameOrder, ← hsameSetpoint]
      exact hin f (.inr (.inr (.inl rfl)))
    · exact hin g (.inr (.inr (.inr hb')))

theorem TxQueue.Fits.appendOrder {q : TxQueue} (hq : q.Fits) (hroom : q.count < 24) {p : TxFrame → Bool} {b : TxBody}
    (hb : HandedAs p b) {dest : Dest} (hnone : ∀ f ∈ q.waitingOrders, p f = false) :
    ({ q with orders := q.orders ++ [{ dest := dest, body := b }] } : TxQueue).Fits := by
  obtain ⟨-, horder, hsetpoint, hsorts⟩ := hq
  have hle (r : TxFrame → Bool) := ((q.waitingOrders_append { dest := dest, body := b }).filter r).length_le
  have hno : q.waitingOrders.filter p = [] := List.filter_eq_nil_iff.mpr fun f hf => by simp [hnone f hf]
  obtain ⟨rfl, hx, hx'⟩ | ⟨rfl, hx, hx'⟩ := hb.cases_sort dest
  all_goals
    refine ⟨?_, (hle _).trans ?_, (hle _).trans ?_, fun f hf => ?_⟩
    · simp only [TxQueue.count, List.length_append, List.length_singleton] at hroom ⊢
      omega
    · simp [hno, hx, hx', horder]
    · simp [hno, hx, hx', hsetpoint]
    · obtain hf | hf := List.mem_append.mp hf
      · exact hsorts f hf
      · simp [List.mem_singleton.mp hf, hx]

/-! ### The other moves of the queue -/

theorem TxQueue.Fits.append {q : TxQueue} (hq : q.Fits) {c : TxClass} (hc : c ≠ .order) (hroom : q.count < 24) (f : TxFrame) :
    (q.set c (q.get c ++ [f])).Fits := by
  refine hq.of_sublist ?_ ?_ ?_
  · rw [TxQueue.count_append]
    exact hroom
  · cases c <;> first | exact absurd rfl hc | exact .refl _
  · cases c <;> first | exact absurd rfl hc | exact fun f hf => hf

theorem TxQueue.count_tail_le (q : TxQueue) (c : TxClass) : (q.set c (q.get c).tail).count ≤ q.count := by
  cases c <;> simp [TxQueue.set, TxQueue.get, TxQueue.count]

/-- The frame in transmission leaves its class. -/
theorem TxQueue.Fits.popCurrent {q : TxQueue} (hq : q.Fits) : q.popCurrent.Fits := by
  unfold TxQueue.popCurrent
  split
  · next t ht =>
    refine hq.of_sublist ((q.count_tail_le t.cls).trans hq.1) ?_ ?_
    · cases hcls : t.cls <;>
        simp [TxQueue.waitingOrders, TxQueue.orderInTx, TxQueue.set, TxQueue.get, ht, hcls]
    · cases t.cls <;> simp only [TxQueue.set, TxQueue.get]
      · exact fun f hf => List.mem_of_mem_tail hf
      all_goals exact fun f hf => hf
  · exact hq

/-- Another frame in transmission, of the ORDER class where one of that class was. -/
theorem TxQueue.Fits.withInTx {q : TxQueue} (hq : q.Fits) (t : Option InTx)
    (h : q.orderInTx = true → ({ q with inTx := t } : TxQueue).orderInTx = true) : ({ q with inTx := t } : TxQueue).Fits := by
  refine hq.of_sublist hq.1 ?_ fun f hf => hf
  unfold TxQueue.waitingOrders
  split
  · split
    · exact .refl _
    · exact List.tail_sublist _
  · next hnew =>
    rw [if_neg fun hold => hnew (h hold)]

/-! ## Link and port together -/

/-- The link's FIFOs and the transmit queue of the port within their capacities. -/
def Device.Fits (d : Device) : Prop := d.sl.requests.length ≤ 16 ∧ d.sl.replies.length ≤ 16 ∧ d.vbp.tx.Fits

theorem Changes.fits {ps : List Part} (h : Changes ps d d') (hd : d.Fits) (hrequests : .requests ∉ ps := by decide)
    (hreplies : .replyFifo ∉ ps := by decide)
    (htx : .orders ∉ ps ∧ .replies ∉ ps ∧ .modes ∉ ps ∧ .awards ∉ ps ∧ .inTx ∉ ps := by decide) : d'.Fits := by
  obtain ⟨ho, hr, hm, ha, hi⟩ := htx
  have hq : d'.vbp.tx = d.vbp.tx := by
    have ho' : d'.vbp.tx.orders = d.vbp.tx.orders := h.same .orders ho
    have hr' : d'.vbp.tx.replies = d.vbp.tx.replies := h.same .replies hr
    have hm' : d'.vbp.tx.modes = d.vbp.tx.modes := h.same .modes hm
    have ha' : d'.vbp.tx.awards = d.vbp.tx.awards := h.same .awards ha
    have hi' : d'.vbp.tx.inTx = d.vbp.tx.inTx := h.same .inTx hi
    cases hq : d.vbp.tx
    cases hq' : d'.vbp.tx
    simp_all
  have hsl : d'.sl.requests = d.sl.requests := h.same .requests hrequests
  have hrep : d'.sl.replies = d.sl.replies ∧ _ := h.same .replyFifo hreplies
  rw [Device.Fits, hq, hsl, hrep.1]
  exact hd

theorem Device.Fits.withTx (h : d.Fits) {q : TxQueue} (hq : q.Fits) : (d.withTx q).Fits := ⟨h.1, h.2.1, hq⟩

theorem Device.Fits.placeReply (h : d.Fits) (k t r : Byte) (p : List Byte) : (placeReply k t r p d).Fits := by
  obtain ⟨hrequests, hreplies, htx⟩ := h
  unfold Machine.placeReply
  split
  · refine ⟨hrequests, ?_, htx⟩
    simp only [Device.withSl_sl, List.length_append, List.length_singleton]
    omega
  · exact ⟨hrequests, hreplies, htx⟩

theorem Device.Fits.handFrame (h : d.Fits) (c : TxClass) (f : TxFrame) (hc : c ≠ .order := by decide) :
    (handFrame c f d).Fits := by
  obtain ⟨hroom, heq⟩ | ⟨-, heq⟩ := handFrame_cases c f d <;> rw [heq]
  · simp only [Device.txRoom, Bool.and_eq_true, decide_eq_true_eq] at hroom
    exact h.withTx (h.2.2.append hc hroom.2 f)
  · exact (Changes.raise (ps := [.notice .link]) .link _ d).fits h

theorem Device.Fits.handToEngine (h : d.Fits) {p : TxFrame → Bool} {b : TxBody} (hb : HandedAs p b) :
    (handToEngine p b d).1.Fits := by
  unfold Machine.handToEngine
  split
  case h_2 => exact h
  unfold handOrder
  split
  · next hl => exact h.withTx (h.2.2.replaceWaiting hb hl)
  · next hl =>
    obtain ⟨hroom, heq⟩ | ⟨-, heq⟩ := handFrame_cases .order _ d <;> rw [heq]
    · simp only [Device.txRoom, Bool.and_eq_true, decide_eq_true_eq] at hroom
      exact h.withTx (h.2.2.appendOrder hroom.2 hb (replaceWaiting_none hl))
    · exact (Changes.raise (ps := [.notice .link]) .link _ d).fits h

theorem Sequenced.fits (hs : Sequenced d d') (h : d.Fits) : d'.Fits := by
  induction hs with
  | refl => exact h
  | andGs x _ ih => exact (Changes.withGs (ps := [.genset]) x _).fits ih
  | andRaise x _ ih => exact (Changes.raise (ps := [.notice .gensetFault]) .gensetFault x _).fits ih
  | andHand hb _ ih => exact ih.handToEngine hb

theorem Device.Fits.draw (h : d.Fits) : d.draw.Fits := h

/-! ## The operations -/

theorem Device.Fits.consume (h : d.Fits) (o : Offer) : (consume o d).Fits := by
  obtain ⟨hrequests, hrest⟩ := h
  unfold Machine.consume
  cases o.port with
  | link => exact ⟨(List.tail_sublist _).length_le.trans hrequests, hrest⟩
  | bus => exact ⟨hrequests, hrest⟩

theorem Device.Fits.answer (h : d.Fits) (o : Offer) (r : RauReply) : (answer o r d).Fits := by
  unfold Machine.answer
  split
  · exact h.draw.placeReply _ _ _ _
  · exact h.draw.handFrame .reply _

theorem Device.Fits.takeRecord (h : d.Fits) (r : RauRow) : (takeRecord r r.act d).Fits := by
  by_cases ho : ∃ o, rauOffer d = some o ∧ o.row = r
  · obtain ⟨o, ho, hrow⟩ := ho
    have htaken := h.consume o
    rw [takeRecord_some r r.act d o ho hrow]
    repeat' split
    · exact htaken.answer o _
    · exact htaken.answer o _
    · exact ((r.act_changesRecordsOnly o _).changes.fits htaken).answer o _
  · rw [takeRecord_none r r.act d fun o ho' hrow => ho ⟨o, ho', hrow⟩]
    exact h

theorem Device.Fits.editExpiryOf (h : d.Fits) (b : Nat) : (editExpiryOf b d).Fits := by
  unfold Machine.editExpiryOf
  split
  case isFalse => exact h
  unfold editExpiry
  split
  case h_1 => exact h
  next e _ =>
  have hended (w : SlotNo → Bool) (b : BankNo) (p : Prop) [Decidable p] :
      (if p then freeSlots w d else d.setBuffer b none).Fits :=
    (Changes.ite (ChangesRecordsOnly.freeSlots w d).changes (ChangesRecordsOnly.setBuffer d b none).changes).fits h
  dsimp only
  split
  · unfold tellAbandoned
    split
    · exact (Changes.raise (ps := [.notice .editAbandoned]) .editAbandoned _ _).fits (hended _ _ _)
    · exact (hended _ _ _).handFrame .reply _
  · exact hended _ _ _

theorem Device.Fits.peerLossPurge (h : d.Fits) (n : Nat) : (peerLossPurge n d).Fits := by
  cases hwaits : d.rau.peerLossSets.contains n with
  | false => rwa [peerLossPurge_of_not_waiting hwaits]
  | true =>
    have hdropped : (dropPeer n d).Fits :=
      ((((withRau_changes _ d).mono (qs := [.rau, .roster, .notice .roster] ++ Part.records)).trans (endRecords_changes _ _).mono).trans
        ((withRosterAwards_changes _ _ _).mono.trans (Changes.raise .roster _ _))).fits h
    rw [peerLossPurge_of_waiting hwaits]
    split
    · exact (loseEnginePeer_sequenced _).fits hdropped
    · exact hdropped

theorem Device.Fits.cancelSleep (h : d.Fits) (c : Option SleepCause) : (cancelSleep c d).Fits := by
  unfold Machine.cancelSleep
  split
  · exact h.placeReply _ _ _ _
  · exact h

theorem Device.Fits.broadcastMode (h : d.Fits) (m : Mode) (c : ModeCause) : (broadcastMode m c d).Fits := h.handFrame .mode _

theorem Device.Fits.driveEntry (h : d.Fits) (c : ModeCause) : (driveEntry c d).Fits := by
  have hstarted : Changes [.mode, .parkTimers, .sleepPending, .splitTimer] d (startSplit 10 _) :=
    (withModeTimers_changes .drive .stopped .stopped none d).mono.trans (startSplit_changes 10 _).mono
  exact ((hstarted.fits h).cancelSleep _).broadcastMode .drive c

theorem Device.Fits.wake (h : d.Fits) (c : ModeCause) : (wake c d).Fits := by
  have hwoken : Changes [.mode, .controller] d _ :=
    (withMode_changes .standby d).mono.trans (withController_changes .active d.vbp.txErrors .stopped _).mono
  exact (hwoken.fits h).broadcastMode .standby c

theorem Device.Fits.parkEntry (h : d.Fits) : (parkEntry d).Fits := by
  have hparked (x : AccessUnit) (y : ModeController) : (((modeChangeStop d).withRau x).withMc y).Fits :=
    (modeChangeStop_sequenced d).fits h
  exact (hparked _ _).broadcastMode .park .key

theorem Device.Fits.keyEvent (h : d.Fits) (on : Bool) : (keyEvent on d).Fits := by
  unfold Machine.keyEvent
  split
  · exact h.parkEntry
  · exact h.driveEntry .key
  · exact h.wake .key
  · exact h

theorem Device.Fits.deglitchExpiry (h : d.Fits) : (deglitchExpiry d).Fits := by
  unfold Machine.deglitchExpiry
  split
  · have hkey (x : ModeController) : (d.withMc x).Fits := h
    exact (hkey _).keyEvent _
  · exact h

theorem sleepEntry_fits (c : SleepCause) (d : Device) : (sleepEntry c d).Fits :=
  ⟨by simp [sleepEntry, Link.asleep], by simp [sleepEntry, Link.asleep], .cleared _ (by simp)⟩

theorem deviceReset_fits (k : Bool) (m : SpiMode) (d : Device) : (deviceReset k m d).Fits := by
  obtain ⟨⟨hrequests, hreplies, -, htx, -⟩, horders, -⟩ := deviceReset_sound k m d
  exact ⟨hrequests, hreplies, htx, horders⟩

/-! ### Requests taken from the head -/

theorem Device.Fits.takeHead (h : d.Fits) {mine : Link → SpiRequest → Bool} {act : SpiRequest → Device → Taken}
    (hact : ∀ f e, e.Fits → (act f e).dev.Fits) : (takeHead mine act d).Fits := by
  have hdrop : (dropHead d).Fits := ⟨(List.tail_sublist _).length_le.trans h.1, h.2⟩
  unfold Machine.takeHead
  repeat' split
  · exact h
  · unfold finish
    split
    · exact ((hact _ _ hdrop).draw).placeReply _ _ _ _
    · exact hact _ _ hdrop
  · exact h

theorem Device.Fits.reinitialise (h : d.Fits) : (d.withVbp (reinitialise d.vbp)).Fits := ⟨h.1, h.2.1, .cleared [] (by simp)⟩

theorem configDoneAct_fits (f : SpiRequest) (h : d.Fits) : (configDoneAct f d).dev.Fits := by
  unfold configDoneAct
  repeat' split
  any_goals exact h
  refine ⟨h.1, h.2.1, ?_⟩
  simp only [Device.answered, configAccepted, Device.withVbp_vbp, takeBusForce]
  split
  · exact h.2.2
  split
  · exact h.2.2
  · exact .cleared [] (by simp)

theorem startDriveAct_fits (f : SpiRequest) (h : d.Fits) : (startDriveAct f d).dev.Fits := by
  unfold startDriveAct
  repeat' split
  any_goals exact h
  exact h.driveEntry .request

theorem sleepCause_fits (c : SleepCause) (h : d.Fits) : (sleepCause c d).Fits := by
  unfold sleepCause
  split
  · exact sleepEntry_fits c d
  · exact h

theorem sleepAct_fits (f : SpiRequest) (h : d.Fits) : (sleepAct f d).dev.Fits := by
  unfold sleepAct
  repeat' split
  any_goals exact h
  exact sleepCause_fits _ h

theorem busRestartAct_fits (f : SpiRequest) (h : d.Fits) : (busRestartAct f d).dev.Fits := by
  unfold busRestartAct
  split
  · exact h
  · exact (gensetBusRestart_sequenced _).fits h.reinitialise

theorem linkResetAct_fits (f : SpiRequest) (h : d.Fits) : (linkResetAct f d).dev.Fits :=
  ⟨Nat.zero_le _, Nat.zero_le _, h.2.2⟩

/-! ### The link's transactions -/

theorem Device.Fits.chipSelectFalling (h : d.Fits) : (chipSelectFalling d).Fits := by
  unfold Machine.chipSelectFalling
  split
  · exact h
  have hwoken (p : Prop) [Decidable p] : (if p then Machine.wake .link d else d).Fits := by
    split
    · exact h.wake .link
    · exact h
  exact hwoken _

theorem Link.settle_fits (n : Nat) (l : Link) :
    (l.settle n).requests = l.requests ∧ (l.settle n).replies.length ≤ l.replies.length := by
  have hsettle (p : Presented) (r : List ReplyEntry) : (settleReplies p n r).length ≤ r.length := by
    unfold settleReplies
    repeat' split
    · exact (List.tail_sublist r).length_le
    · cases r <;> simp [markRepeat]
    · exact le_rfl
    · exact le_rfl
  unfold Link.settle
  split
  · exact ⟨rfl, le_rfl⟩
  · split <;> exact ⟨rfl, hsettle _ _⟩

theorem Link.receive_fits {l : Link} (h : l.requests.length ≤ 16) (j : Judgement) :
    (l.receive j).requests.length ≤ 16 ∧ (l.receive j).replies = l.replies := by
  unfold Link.receive
  repeat' split
  · exact ⟨h, rfl⟩
  · exact ⟨h, rfl⟩
  · exact ⟨h, rfl⟩
  · exact ⟨by simpa using ‹_›, rfl⟩
  · exact ⟨h, rfl⟩

theorem Device.Fits.chipSelectRising (h : d.Fits) (mosi : List Byte) : (chipSelectRising mosi d).Fits := by
  unfold Machine.chipSelectRising
  split
  · obtain ⟨hrequests, hreplies⟩ := Link.settle_fits mosi.length d.sl
    obtain ⟨hrequests', hreplies'⟩ := Link.receive_fits (hrequests ▸ h.1)
      (judge (d.sl.waking || decide (d.mc.mode = .sleep)) mosi)
    refine ⟨hrequests', ?_, h.2.2⟩
    simp only [Device.withSl_sl, hreplies']
    exact hreplies.trans h.2.1
  · exact h

theorem Device.Fits.replyAgeExpiry (h : d.Fits) : (replyAgeExpiry d).Fits := by
  refine ⟨h.1, ?_, h.2.2⟩
  have hlen : (markAged d.sl.replies).length = d.sl.replies.length := by cases d.sl.replies <;> rfl
  simpa [Machine.replyAgeExpiry, hlen] using h.2.1

/-! ### The port -/

theorem Device.Fits.hello (h : d.Fits) : (hello d).Fits := by
  cases hf : d.vbp.rx.find? isHelloFrame with
  | none => simpa [Machine.hello, hf] using h
  | some f =>
    cases hroom : d.txRoom with
    | false => simpa [Machine.hello, hf, hroom] using h
    | true =>
      have happlied (n : Nat) (o : HelloOutcome) (e : Device) (he : e.Fits) : (applyHello n o e).Fits := by
        cases o with
        | refused r | keep => exact he
        | enrol role => exact (roleTaken_changes role _).fits he
        | change role =>
          have hchanged (r : List RosterEntry) :
              (roleTaken role (raiseRoster n (e.withVbp { e.vbp with roster := r }))).Fits :=
            (roleTaken_changes role _).fits he
          simp only [applyHello, changeRole]
          split
          · exact (loseEnginePeer_sequenced _).fits (hchanged _)
          · exact hchanged _
      rw [hello_of_found hf hroom]
      exact (happlied _ _ (d.withVbp { d.vbp with rx := d.vbp.rx.eraseP isHelloFrame }) h).draw.handFrame .reply _

theorem Device.Fits.engineReport (h : d.Fits) : (engineReport d).Fits := by
  unfold Machine.engineReport
  split
  · exact (deliverReport_sequenced _ _).fits h
  · exact h

theorem Device.Fits.frameReceived (h : d.Fits) (f : CanFrame) : (frameReceived f d).Fits := by
  unfold Machine.frameReceived
  split
  · exact h
  · exact h
  all_goals
    split
    · exact h
    · refine (bufferFrame_changes _ _ _).fits ?_
      split
      · exact h.wake .bus
      · exact h

theorem Device.Fits.transmissionStart (h : d.Fits) : (transmissionStart d).Fits := by
  unfold Machine.transmissionStart
  split
  case isFalse => exact h
  next hready =>
    split
    case h_2 => exact h
    have hidle : d.vbp.tx.inTx = none := by simpa using (Bool.and_eq_true_iff.mp hready).2
    exact h.withTx (h.2.2.withInTx _ (by simp [TxQueue.orderInTx, hidle]))

theorem Device.Fits.dropCurrent (h : d.Fits) : (dropCurrent d).Fits := by
  unfold Machine.dropCurrent
  split
  · exact ((Changes.raise (ps := [.notice .link, .lastAward]) .link _ _).trans (forgetAward_changes _ _).mono).fits
      (h.withTx h.2.2.popCurrent)
  · exact h

theorem sending_eq_some {t : InTx} (h : d.sending = some t) : d.vbp.tx.inTx = some t := by
  unfold Device.sending at h
  split at h
  · exact h
  · cases h

theorem Device.Fits.retryOrDrop (h : d.Fits) {t : InTx} (ht : d.vbp.tx.inTx = some t) : (retryOrDrop t d).Fits := by
  unfold Machine.retryOrDrop
  split
  · exact h.withTx (h.2.2.withInTx _ (by simp [TxQueue.orderInTx, ht]))
  · exact h.dropCurrent

theorem Device.Fits.frameSent (h : d.Fits) : (frameSent d).Fits := by
  unfold Machine.frameSent
  split
  · exact ⟨h.1, h.2.1, h.2.2.popCurrent⟩
  · exact h

theorem Device.Fits.arbitrationLost (h : d.Fits) : (arbitrationLost d).Fits := by
  unfold Machine.arbitrationLost
  split
  · exact h.retryOrDrop (sending_eq_some ‹_›)
  · exact h

theorem Device.Fits.transmitError (h : d.Fits) : (transmitError d).Fits := by
  unfold Machine.transmitError
  split
  case h_2 => exact h
  next t ht =>
  split
  · refine ⟨h.1, h.2.1, h.2.2.withInTx _ fun hin => ?_⟩
    simpa [TxQueue.orderInTx, sending_eq_some ht] using hin
  · have hcounted : (d.withVbp { d.vbp with txErrors := d.vbp.txErrors + 8 }).Fits := h
    exact hcounted.retryOrDrop (sending_eq_some ht)

theorem Device.Fits.busOffRejoin (h : d.Fits) : (busOffRejoin d).Fits := by
  unfold Machine.busOffRejoin
  split
  case isFalse => exact h
  refine ⟨h.1, h.2.1, ?_⟩
  simp only [Device.withVbp_vbp, TxQueue.resumed]
  split
  · exact h.2.2
  · exact h.2.2.withInTx _ (by simp [*])

theorem Device.Fits.awardToQueue (h : d.Fits) : (awardToQueue d).Fits := by
  unfold Machine.awardToQueue
  repeat' split
  any_goals exact h
  next hroom =>
    simp only [Bool.and_eq_true, decide_eq_true_eq] at hroom
    exact ⟨h.1, h.2.1, h.2.2.append (c := .award) (by decide) (hroom.2.trans (by decide)) _⟩

theorem completed_fits (p : Pass) (h : d.Fits) : (completed p d).Fits :=
  (floorCheck_changes _ _).fits ((evaluate_sequenced _ _).fits ((queueAwards_changes _ _).fits ((publishPass_changes p d).fits h)))

theorem Device.Fits.passCompletion (h : d.Fits) : (passCompletion d).Fits := by
  unfold Machine.passCompletion
  split
  case h_2 => exact h
  rw [completePass_eq]
  unfold sleepIfPending
  split
  · exact sleepEntry_fits _ _
  · exact completed_fits _ h

/-! ## Every command -/

theorem Device.Fits.actOf (h : d.Fits) (c : Instr) : (actOf c d).Fits := by
  cases c with
  | deviceReset k m => exact deviceReset_fits k m d
  | claim | amend | amendCommit | commit | renew | renewWithValue | release | purge | query | queryField | lookup
  | unknownKindRecordRequest => exact h.takeRecord _
  | configWrite => exact h.takeHead fun f e he => (configWriteAct_changes f e).fits he
  | configRead => exact h.takeHead fun f e he => (configReadAct_changes f e).fits he
  | clearLockout => exact h.takeHead fun f e he => (clearLockoutAct_changes f e).fits he
  | noticeRead => exact h.takeHead fun f e he => (noticeReadAct_changes f e).fits he
  | mirror => exact h.takeHead fun f e he => (mirrorAct_changes f e).fits he
  | resultRead | rosterRead | mirroredFrame | linkBadRequest => exact h.takeHead fun _ _ he => he
  | configDone => exact h.takeHead fun f _ he => configDoneAct_fits f he
  | startDrive => exact h.takeHead fun f _ he => startDriveAct_fits f he
  | sleep => exact h.takeHead fun f _ he => sleepAct_fits f he
  | forceGenset =>
    refine h.takeHead fun f e he => ?_
    unfold forceGensetAct
    split
    · exact (applyForce_sequenced _ e).fits he
    · exact he
  | linkReset => exact h.takeHead fun f _ he => linkResetAct_fits f he
  | busRestart => exact h.takeHead fun f _ he => busRestartAct_fits f he
  | hello => exact h.hello
  | engineReport => exact h.engineReport
  | chipSelectFalling => exact h.chipSelectFalling
  | chipSelectRising mosi => exact h.chipSelectRising mosi
  | frameReceived f => exact h.frameReceived f
  | transmissionStart => exact h.transmissionStart
  | frameSent => exact h.frameSent
  | arbitrationLost => exact h.arbitrationLost
  | transmitError => exact h.transmitError
  | busOffRejoin => exact h.busOffRejoin
  | awardToTransmitQueue => exact h.awardToQueue
  | peerLossPurgeSet n => exact h.peerLossPurge n
  | editTimerExpiry b => exact h.editExpiryOf b
  | crankTimerExpiry => exact (crankExpiry_sequenced d).fits h
  | warmTimerExpiry => exact (warmExpiry_sequenced d).fits h
  | cooldownTimerExpiry => exact (cooldownExpiry_sequenced d).fits h
  | acknowledgementTimerExpiry => exact (ackExpiry_sequenced d).fits h
  | deglitchTimerExpiry => exact h.deglitchExpiry
  | replyAgeExpiry => exact h.replyAgeExpiry
  | passCompletion => exact h.passCompletion
  | parkTimerExpiry =>
    obtain hacts | ⟨-, cause, e, heq, -⟩ := parkExpiry_acts d
    · exact hacts.fits h
    · rw [Machine.actOf, heq]
      exact sleepEntry_fits cause e
  | floorTimerExpiry =>
    obtain hacts | ⟨-, cause, e, heq, -⟩ := floorExpiry_acts d
    · exact hacts.fits h
    · rw [Machine.actOf, heq]
      exact sleepEntry_fits cause e
  | parkEntryPurgeSet => exact (parkEntryPurge_changes d).fits h
  | renewalExpiry i => exact (renewalExpiryOf_changes i d).fits h
  | splitTimerExpiry => exact (splitExpiry_changes d).fits h
  | minOnTimerExpiry => exact (minOnExpiry_changes d).fits h
  | minOffTimerExpiry => exact (minOffExpiry_changes d).fits h
  | keyLevelChange level => exact (keyChange_changes level d).fits h
  | silenceExpiry n => exact (silenceExpiry_changes n d).fits h
  | peerDeclaredLost n => exact (peerDeclaredLost_changes n d).fits h
  | busActivity => exact (busActivity_changes d).fits h

end Sys2Proof.Machine
end

section
/-! PROOFS. The receive buffer, the award queue and the roster after every command, and the bounds of all queues (R145,
R150, R154, R156, R160). -/

namespace Sys2Proof.Machine

-- A default proof `by decide` waits for the kernel: side by side the proofs would ask for a thread each.
set_option Elab.async false

variable {d d' : Device}

/-! ## The receive buffer -/

theorem takeRecord_rx (r : RauRow) (d : Device) : (takeRecord r r.act d).vbp.rx.Sublist d.vbp.rx := by
  by_cases ho : ∃ o, rauOffer d = some o ∧ o.row = r
  · obtain ⟨o, ho, hrow⟩ := ho
    have hconsume : (consume o d).vbp.rx.Sublist d.vbp.rx := by
      unfold consume
      cases o.port with
      | link => exact .refl _
      | bus => exact List.eraseP_sublist
    have hanswer (x : RauReply) (e : Device) : (answer o x e).vbp.rx = e.vbp.rx := (answer_changes o x e).same .rx
    have hact : (r.act o (consume o d)).1.vbp.rx = (consume o d).vbp.rx :=
      (r.act_changesRecordsOnly o _).changes.same .rx
    rw [takeRecord_some r r.act d o ho hrow]
    repeat' split
    all_goals simpa only [hanswer, hact] using hconsume
  · rw [takeRecord_none r r.act d fun o ho' hrow => ho ⟨o, ho', hrow⟩]

theorem hello_rx (d : Device) : (hello d).vbp.rx.Sublist d.vbp.rx := by
  unfold hello
  split
  case h_1 => exact .refl _
  split
  case isFalse => exact .refl _
  next f _ _ =>
  have happly (n : Nat) (o : HelloOutcome) (e : Device) : (applyHello n o e).vbp.rx = e.vbp.rx := (applyHello_changes n o e).same .rx
  have hhand (g : TxFrame) (e : Device) : (handFrame .reply g e).vbp.rx = e.vbp.rx :=
    (Changes.handFrame (ps := [.replies, .notice .link]) .reply g e (by decide)).same .rx
  dsimp only
  rw [hhand, Device.draw_vbp, happly]
  exact List.eraseP_sublist

theorem engineReport_rx (d : Device) : (engineReport d).vbp.rx.Sublist d.vbp.rx := by
  unfold engineReport
  split
  case h_2 => exact .refl _
  have hdeliver (f : RxFrame) (e : Device) : (deliverReport f e).vbp.rx = e.vbp.rx := (deliverReport_sequenced f e).changes.same .rx
  rw [hdeliver]
  exact List.eraseP_sublist

theorem finish_vbp (f : SpiRequest) (t : Taken) : (finish f t).vbp = t.dev.vbp := by
  unfold finish placeReply
  repeat' split
  all_goals rfl

/-- A request taken from the head leaves the port as its act does. -/
theorem takeHead_vbp {P : BusPort → Prop} {mine : Link → SpiRequest → Bool} {act : SpiRequest → Device → Taken} {d : Device}
    (h : P d.vbp) (hact : ∀ f e, e.vbp = d.vbp → P (act f e).dev.vbp) : P (takeHead mine act d).vbp := by
  unfold takeHead
  repeat' split
  · exact h
  · rw [finish_vbp]
    exact hact _ _ rfl
  · exact h

/-- What the port's re-initialisation and the configuration done leave of buffer and award queue: all or nothing. -/
theorem configDoneAct_queues (f : SpiRequest) (d : Device) :
    (configDoneAct f d).dev.vbp.rx = d.vbp.rx ∧ (configDoneAct f d).dev.vbp.awardQueue = d.vbp.awardQueue ∨
      (configDoneAct f d).dev.vbp.rx = [] ∧ (configDoneAct f d).dev.vbp.awardQueue = [] := by
  unfold configDoneAct
  repeat' split
  any_goals exact .inl ⟨rfl, rfl⟩
  simp only [Device.answered, configAccepted, Device.withVbp_vbp, takeBusForce]
  repeat' split
  · exact .inl ⟨rfl, rfl⟩
  · exact .inl ⟨rfl, rfl⟩
  · exact .inr ⟨rfl, rfl⟩

theorem busRestartAct_queues (f : SpiRequest) (d : Device) :
    (busRestartAct f d).dev.vbp.rx = d.vbp.rx ∧ (busRestartAct f d).dev.vbp.awardQueue = d.vbp.awardQueue ∨
      (busRestartAct f d).dev.vbp.rx = [] ∧ (busRestartAct f d).dev.vbp.awardQueue = [] := by
  unfold busRestartAct
  split
  · exact .inl ⟨rfl, rfl⟩
  · have hchanges := (gensetBusRestart_sequenced (d.withVbp (reinitialise d.vbp))).changes
    exact .inr ⟨hchanges.same .rx, hchanges.same .awardQueue⟩

/-- Frames enter the receive buffer by FRAME_RECEIVED alone. -/
theorem actOf_rx {c : Instr} (hc : ∀ f, c ≠ .frameReceived f) (d : Device) : (actOf c d).vbp.rx.Sublist d.vbp.rx := by
  have hother (hreset : ∀ k m, c ≠ .deviceReset k m) (hkept : .rx ∉ touches c) : (actOf c d).vbp.rx.Sublist d.vbp.rx := by
    obtain hacts | ⟨-, cause, e, heq, -⟩ := actOf_acts c d hreset
    · rw [show _ = d.vbp.rx from hacts.same .rx hkept]
    · rw [heq]
      exact List.nil_sublist _
  cases c with
  | frameReceived f => exact absurd rfl (hc f)
  | deviceReset k m => exact List.nil_sublist _
  | claim | amend | amendCommit | commit | renew | renewWithValue | release | purge | query | queryField | lookup
  | unknownKindRecordRequest => exact takeRecord_rx _ d
  | hello => exact hello_rx d
  | engineReport => exact engineReport_rx d
  | configDone =>
    refine takeHead_vbp (P := fun v => v.rx.Sublist d.vbp.rx) (.refl _) fun f e he => ?_
    obtain ⟨h, -⟩ | ⟨h, -⟩ := configDoneAct_queues f e <;> simp [h, he]
  | busRestart =>
    refine takeHead_vbp (P := fun v => v.rx.Sublist d.vbp.rx) (.refl _) fun f e he => ?_
    obtain ⟨h, -⟩ | ⟨h, -⟩ := busRestartAct_queues f e <;> simp [h, he]
  | _ => exact hother nofun (of_decide_eq_false rfl)

/-! ## The award queue -/

theorem takeRecord_awards (r : RauRow) (d : Device) : (takeRecord r r.act d).vbp.awardQueue.Sublist d.vbp.awardQueue := by
  obtain h | ⟨o, -, -, heq⟩ := takeRecord_cases (b := false) r d
  · exact h.awards
  have hanswer (x : RauReply) (e : Device) : (answer o x e).vbp.awardQueue = e.vbp.awardQueue :=
    (answer_changes o x e).same .awardQueue
  have hconsume : (consume o d).vbp.awardQueue = d.vbp.awardQueue := (consume_changes o d).same .awardQueue
  rw [heq, hanswer, ← hconsume]
  by_cases hr : r = .claim
  · subst hr
    simp only [RauRow.act]
    repeat' split
    · simp only [claimAct]
      repeat' split
      all_goals exact .refl _
    · exact .refl _
  · exact (r.act_table (b := false) o (consume o d) hr).awards

theorem editExpiryOf_awards (b : Nat) (d : Device) : (editExpiryOf b d).vbp.awardQueue.Sublist d.vbp.awardQueue := by
  unfold editExpiryOf
  split
  · exact (editExpiry_table (b := false) _ d).awards
  · exact .refl _

theorem peerLossPurge_awards (n : Nat) (d : Device) : (peerLossPurge n d).vbp.awardQueue.Sublist d.vbp.awardQueue := by
  cases hwaits : d.rau.peerLossSets.contains n with
  | false => rw [peerLossPurge_of_not_waiting hwaits]
  | true =>
    have hdropped : (dropPeer n d).vbp.awardQueue.Sublist d.vbp.awardQueue :=
      .trans List.filter_sublist (endPeer_table (b := false) n d).awards
    rw [peerLossPurge_of_waiting hwaits]
    split
    · rwa [show _ = (dropPeer n d).vbp.awardQueue from (loseEnginePeer_sequenced _).changes.same .awardQueue]
    · exact hdropped

/-- Of a queue with at most one entry for a slot, entries updated in place with those of other slots added at its end. -/
theorem queueAwards_nodup {new : List AwardEntry} (hnew : (new.map (·.slot)).Nodup)
    (h : (d.vbp.awardQueue.map (·.slot)).Nodup) : ((queueAwards new d).vbp.awardQueue.map (·.slot)).Nodup := by
  have hupdate (e a : AwardEntry) (hu : updateEntry new d.vbp.lastAward e = some a) : a.slot = e.slot := by
    unfold updateEntry at hu
    repeat' split at hu
    all_goals cases hu
    all_goals rfl
  have hqueue : ((d.vbp.awardQueue.filterMap (updateEntry new d.vbp.lastAward)).map (·.slot)).Sublist
      (d.vbp.awardQueue.map (·.slot)) := by
    generalize d.vbp.awardQueue = q
    induction q with
    | nil => exact .refl _
    | cons e es ih =>
      cases hu : updateEntry new d.vbp.lastAward e with
      | none => simpa [hu] using ih.cons _
      | some a => simpa [hu, hupdate e a hu] using ih
  have hrank := List.perm_insertionSort (fun a b : AwardEntry =>
    Config.awardRank d.draws a.slot.val ≤ Config.awardRank d.draws b.slot.val)
      (addedEntries new d.vbp.lastAward d.vbp.awardQueue)
  simp only [queueAwards, Device.draw_vbp, Device.withVbp_vbp, rankEntries, List.map_append]
  refine List.nodup_append.mpr ⟨h.sublist hqueue, ?_, fun i hi j hj hij => ?_⟩
  · rw [(hrank.map _).nodup_iff]
    exact hnew.sublist (List.filter_sublist.map _)
  · subst hij
    rw [(hrank.map _).mem_iff, List.mem_map] at hj
    obtain ⟨a, ha, rfl⟩ := hj
    obtain ⟨e, he, hslot⟩ := List.mem_map.mp (hqueue.subset hi)
    obtain ⟨-, hnone⟩ := List.mem_filter.mp ha
    simp only [Bool.and_eq_true, Bool.not_eq_true', List.any_eq_false, decide_eq_true_eq] at hnone
    exact hnone.2 e he hslot

theorem handedAwards_nodup (ws : Vector (Option Answer) 48) (d : Device) : ((handedAwards ws d).map (·.slot)).Nodup := by
  have hslot (i : SlotNo) (a : AwardEntry) (h : handedAward ws d i = some a) : a.slot = i := by
    unfold handedAward at h
    repeat' split at h
    all_goals cases h
    rfl
  have hsublist : ((handedAwards ws d).map (·.slot)).Sublist (List.finRange 48) := by
    unfold handedAwards
    generalize List.finRange 48 = l
    induction l with
    | nil => exact .refl _
    | cons i is ih =>
      cases hi : handedAward ws d i with
      | none => simpa [hi] using ih.cons _
      | some a => simpa [hi, hslot i a hi] using ih
  exact (List.nodup_finRange 48).sublist hsublist

theorem completed_awards {p : Pass} (hpass : d.se.pass = some p) (h : (d.vbp.awardQueue.map (·.slot)).Nodup) :
    ((completed p d).vbp.awardQueue.map (·.slot)).Nodup := by
  have hsame (e : Device) (x : Handed) : (floorCheck p.snap.mode (evaluate x e)).vbp.awardQueue = e.vbp.awardQueue :=
    ((evaluate_sequenced x e).changes.mono (qs := .parkTimers :: Part.sequencer)).trans (floorCheck_changes _ _).mono
      |>.same .awardQueue
  unfold completed
  rw [hsame]
  exact queueAwards_nodup (handedAwards_nodup _ _) (h.sublist ((publishPass_table hpass).awards.map _))

/-- At most one award entry for a slot, after any command. -/
theorem actOf_awards (c : Instr) (h : (d.vbp.awardQueue.map (·.slot)).Nodup) :
    ((actOf c d).vbp.awardQueue.map (·.slot)).Nodup := by
  have hsub (hs : (actOf c d).vbp.awardQueue.Sublist d.vbp.awardQueue) : ((actOf c d).vbp.awardQueue.map (·.slot)).Nodup :=
    h.sublist (hs.map _)
  have hother (hreset : ∀ k m, c ≠ .deviceReset k m) (hkept : .awardQueue ∉ touches c) :
      ((actOf c d).vbp.awardQueue.map (·.slot)).Nodup := by
    obtain hacts | ⟨-, cause, e, heq, -⟩ := actOf_acts c d hreset
    · rwa [show _ = d.vbp.awardQueue from hacts.same .awardQueue hkept]
    · rw [heq]
      exact List.nodup_nil
  cases c with
  | deviceReset k m => exact List.nodup_nil
  | claim | amend | amendCommit | commit | renew | renewWithValue | release | purge | query | queryField | lookup
  | unknownKindRecordRequest => exact hsub (takeRecord_awards _ d)
  | configDone =>
    refine hsub (takeHead_vbp (P := fun v => v.awardQueue.Sublist d.vbp.awardQueue) (.refl _) fun f e he => ?_)
    obtain ⟨-, h⟩ | ⟨-, h⟩ := configDoneAct_queues f e <;> simp [h, he]
  | busRestart =>
    refine hsub (takeHead_vbp (P := fun v => v.awardQueue.Sublist d.vbp.awardQueue) (.refl _) fun f e he => ?_)
    obtain ⟨-, h⟩ | ⟨-, h⟩ := busRestartAct_queues f e <;> simp [h, he]
  | editTimerExpiry b => exact hsub (editExpiryOf_awards b d)
  | peerLossPurgeSet n => exact hsub (peerLossPurge_awards n d)
  | parkEntryPurgeSet => exact hsub (parkEntryPurge_table (b := false) d).awards
  | awardToTransmitQueue =>
    refine hsub ?_
    simp only [Machine.actOf, awardToQueue]
    repeat' split
    any_goals exact .refl _
    rename_i hq _ _ _ _
    simp [hq]
  | passCompletion =>
    simp only [Machine.actOf, passCompletion]
    split
    · next p hpass =>
      rw [completePass_eq]
      unfold sleepIfPending
      split
      · exact List.nodup_nil
      · exact completed_awards hpass h
    · exact h
  | _ => exact hother nofun (of_decide_eq_false rfl)

/-! ## The roster -/

/-- A roster of at most 16 nodes from 1 to 30 in ascending order, with one ENGINE at most (R145, R150). -/
def RosterFits (r : List RosterEntry) : Prop :=
  r.length ≤ 16 ∧ (r.map (·.node)).Pairwise (· < ·) ∧ (∀ e ∈ r, isNode e.node) ∧
    (r.filter fun e => e.role = .engine).length ≤ 1

theorem RosterFits.nil : RosterFits [] := by simp [RosterFits]

/-- In a roster in order, one ENGINE at most is one node at most with that role. -/
theorem engines_le_one_iff {r : List RosterEntry} (h : (r.map (·.node)).Pairwise (· < ·)) :
    (r.filter fun e => e.role = .engine).length ≤ 1 ↔
      ∀ e ∈ r, ∀ g ∈ r, e.role = .engine → g.role = .engine → e.node = g.node := by
  have hordered := (List.pairwise_map.mp h).filter fun e => decide (e.role = .engine)
  constructor
  · intro hle e he g hg hre hrg
    have hin (x : RosterEntry) (hx : x ∈ r) (hr : x.role = .engine) : x ∈ r.filter fun e => e.role = .engine :=
      List.mem_filter.mpr ⟨hx, by simpa using hr⟩
    match hl : r.filter fun e => e.role = .engine with
    | [] => exact absurd (hin e he hre) (by simp [hl])
    | [x] =>
      rw [hl] at hin
      rw [List.mem_singleton.mp (hin e he hre), List.mem_singleton.mp (hin g hg hrg)]
    | x :: y :: rest => simp [hl] at hle
  · intro hone
    match hl : r.filter fun e => e.role = .engine with
    | [] | [_] => simp [hl]
    | e :: g :: rest =>
      rw [hl] at hordered
      have hmem (x : RosterEntry) (hx : x ∈ e :: g :: rest) : x ∈ r ∧ x.role = .engine := by
        rw [← hl] at hx
        simpa using List.mem_filter.mp hx
      obtain ⟨he, hre⟩ := hmem e (by simp)
      obtain ⟨hg, hrg⟩ := hmem g (by simp)
      have hlt : e.node < g.node := (List.pairwise_cons.mp hordered).1 g (by simp)
      exact absurd (hone e he g hg hre hrg) hlt.ne

/-- Entries changed but for node and role. -/
theorem RosterFits.map {r : List RosterEntry} (h : RosterFits r) {f : RosterEntry → RosterEntry}
    (hf : ∀ e, (f e).node = e.node ∧ (f e).role = e.role) : RosterFits (r.map f) := by
  obtain ⟨hlen, hordered, hnodes, hone⟩ := h
  refine ⟨by simpa using hlen, by simpa [Function.comp_def, hf] using hordered, ?_,
    by simpa [List.filter_map, Function.comp_def, hf] using hone⟩
  simpa [hf] using hnodes

theorem RosterFits.mapEntry {r : List RosterEntry} (h : RosterFits r) (n : Nat) {f : RosterEntry → RosterEntry}
    (hf : ∀ e, (f e).node = e.node ∧ (f e).role = e.role) : RosterFits (mapEntry n f r) :=
  h.map fun e => by split <;> simp [hf]

theorem RosterFits.filter {r : List RosterEntry} (h : RosterFits r) (p : RosterEntry → Bool) : RosterFits (r.filter p) := by
  obtain ⟨hlen, hordered, hnodes, hone⟩ := h
  refine ⟨(List.length_filter_le _ _).trans hlen, hordered.sublist (List.filter_sublist.map _),
    fun e he => hnodes e (List.mem_of_mem_filter he), ?_⟩
  exact ((List.filter_sublist.filter _).length_le).trans hone

theorem insertEntry_ordered {x : RosterEntry} {r : List RosterEntry} (h : (r.map (·.node)).Pairwise (· < ·))
    (hx : x.node ∉ r.map (·.node)) : ((insertEntry x r).map (·.node)).Pairwise (· < ·) := by
  rw [List.pairwise_map] at h ⊢
  induction r with
  | nil => simp [insertEntry]
  | cons e es ih =>
    obtain ⟨hhead, htail⟩ := List.pairwise_cons.mp h
    rw [List.map_cons, List.mem_cons, not_or] at hx
    obtain ⟨hne, hnotin⟩ := hx
    unfold insertEntry
    split
    · next hlt =>
      refine List.pairwise_cons.mpr ⟨fun g hg => ?_, h⟩
      obtain rfl | hg := List.mem_cons.mp hg
      · exact hlt
      · exact hlt.trans (hhead g hg)
    · next hge =>
      refine List.pairwise_cons.mpr ⟨fun g hg => ?_, ih htail hnotin⟩
      obtain rfl | hg := List.mem_cons.mp ((insertEntry_perm x es).mem_iff.mp hg)
      · omega
      · exact hhead g hg

/-- Whoever may take the role ENGINE is the only node that can hold it. -/
theorem engineTaken_eq_false {n : Nat} (h : engineTaken d n .engine = false)
    (hordered : (d.vbp.roster.map (·.node)).Pairwise (· < ·))
    (hone : (d.vbp.roster.filter fun e => e.role = .engine).length ≤ 1) :
    ∀ e ∈ d.vbp.roster, e.role = .engine → e.node = n := by
  intro e he hrole
  cases hf : d.vbp.roster.find? (fun e => e.role = .engine) with
  | none => exact absurd hrole (by simpa using List.find?_eq_none.mp hf e he)
  | some g =>
    have hengine : d.enginePeer = some g.node := by simp [Device.enginePeer, hf]
    have hg : g.node = n := by simpa [engineTaken, hengine, Device.isEngine] using h
    rw [← hg]
    exact (engines_le_one_iff hordered).mp hone e he g (List.mem_of_find?_eq_some hf) hrole
      (by simpa using List.find?_some hf)

theorem helloOutcome_enrol {f : RxFrame} {role : Role} (h : helloOutcome d f = .enrol role) :
    d.entryOf f.node = none ∧ d.vbp.roster.length < 16 ∧ engineTaken d f.node role = false := by
  unfold helloOutcome at h
  repeat' split at h
  all_goals cases h
  next hentry hroom _ htaken => exact ⟨hentry, Nat.not_le.mp hroom, by simpa using htaken⟩

theorem helloOutcome_change {f : RxFrame} {role : Role} (h : helloOutcome d f = .change role) :
    engineTaken d f.node role = false := by
  unfold helloOutcome at h
  repeat' split at h
  all_goals cases h
  next htaken _ => simpa using htaken

theorem RosterFits.enrolled (h : RosterFits d.vbp.roster) {f : RxFrame} {role : Role} (hnode : isNode f.node)
    (ho : helloOutcome d f = .enrol role) (timeout : Nat) :
    RosterFits (insertEntry (.new f.node role timeout) d.vbp.roster) := by
  obtain ⟨hlen, hordered, hnodes, hone⟩ := h
  obtain ⟨hentry, hroom, htaken⟩ := helloOutcome_enrol ho
  have hperm := insertEntry_perm (.new f.node role timeout) d.vbp.roster
  have hordered' := insertEntry_ordered (x := .new f.node role timeout) hordered (entryOf_eq_none_iff.mp hentry)
  refine ⟨?_, hordered', fun e he => ?_, (engines_le_one_iff hordered').mpr fun e he g hg hre hrg => ?_⟩
  · rw [hperm.length_eq]
    exact hroom
  · obtain rfl | he := List.mem_cons.mp (hperm.mem_iff.mp he)
    · exact hnode
    · exact hnodes e he
  · have hother (x : RosterEntry) (hx : x ∈ d.vbp.roster) (hr : x.role = .engine) (hnew : role = .engine) :
        x.node = f.node :=
      engineTaken_eq_false (hnew ▸ htaken) hordered hone x hx hr
    obtain rfl | he := List.mem_cons.mp (hperm.mem_iff.mp he) <;>
      obtain rfl | hg := List.mem_cons.mp (hperm.mem_iff.mp hg)
    · rfl
    · exact (hother g hg hrg hre).symm
    · exact hother e he hre hrg
    · exact (engines_le_one_iff hordered).mp hone e he g hg hre hrg

theorem RosterFits.roleChanged (h : RosterFits d.vbp.roster) {f : RxFrame} {role : Role}
    (ho : helloOutcome d f = .change role) :
    RosterFits (Machine.mapEntry f.node (fun e => { e with role := role }) d.vbp.roster) := by
  obtain ⟨hlen, hordered, hnodes, hone⟩ := h
  have hsame := mapEntry_nodes f.node (f := fun e => { e with role := role }) (fun _ => rfl) d.vbp.roster
  have hordered' := hsame ▸ hordered
  have hmem (x : RosterEntry) (hx : x ∈ Machine.mapEntry f.node (fun e => { e with role := role }) d.vbp.roster) :
      ∃ y ∈ d.vbp.roster, x.node = y.node ∧ (x.role = .engine → y.role = .engine ∨ y.node = f.node ∧ role = .engine) := by
    obtain ⟨y, hy, rfl⟩ := List.mem_map.mp hx
    refine ⟨y, hy, ?_⟩
    split
    · next hn => exact ⟨rfl, fun hr => .inr ⟨hn, hr⟩⟩
    · exact ⟨rfl, .inl⟩
  refine ⟨by simpa [Machine.mapEntry] using hlen, hordered', fun e he => ?_,
    (engines_le_one_iff hordered').mpr fun e he g hg hre hrg => ?_⟩
  · obtain ⟨y, hy, hn, -⟩ := hmem e he
    exact hn ▸ hnodes y hy
  · have htaken := helloOutcome_change ho
    obtain ⟨x, hx, hxn, hxe⟩ := hmem e he
    obtain ⟨y, hy, hyn, hye⟩ := hmem g hg
    rw [hxn, hyn]
    have honly (hr : role = .engine) := engineTaken_eq_false (hr ▸ htaken) hordered hone
    obtain hx' | ⟨hx', hr⟩ := hxe hre <;> obtain hy' | ⟨hy', hr'⟩ := hye hrg
    · exact (engines_le_one_iff hordered).mp hone x hx y hy hx' hy'
    · rw [honly hr' x hx hx', hy']
    · rw [honly hr y hy hy', hx']
    · rw [hx', hy']

theorem RosterFits.actOf (h : RosterFits d.vbp.roster) (hrx : ∀ f ∈ d.vbp.rx, isNode f.node) (c : Instr) :
    RosterFits (actOf c d).vbp.roster := by
  have hother (hreset : ∀ k m, c ≠ .deviceReset k m) (hkept : .roster ∉ touches c) :
      RosterFits (Machine.actOf c d).vbp.roster := by
    obtain hacts | ⟨-, cause, e, heq, -⟩ := actOf_acts c d hreset
    · rwa [show _ = d.vbp.roster from hacts.same .roster hkept]
    · rw [heq]
      exact .nil
  cases c with
  | deviceReset k m => exact .nil
  | peerLossPurgeSet n =>
    obtain heq | heq := peerLossPurge_roster n d <;> rw [Machine.actOf, heq]
    · exact h
    · exact h.filter _
  | hello =>
    obtain heq | ⟨f, hf, heq⟩ := hello_roster d <;> rw [Machine.actOf, heq]
    · exact h
    · have hnode := hrx f (List.mem_of_find?_eq_some hf)
      cases ho : helloOutcome d f with
      | refused r | keep => exact h
      | enrol role => exact h.enrolled hnode ho _
      | change role => exact h.roleChanged ho
  | frameReceived f =>
    obtain ⟨-, heq⟩ | ⟨n, -, -, -, heq⟩ := frameReceived_port f d <;> rw [Machine.actOf, heq]
    · exact h
    · exact h.mapEntry n fun _ => ⟨rfl, rfl⟩
  | silenceExpiry n =>
    obtain heq | heq := silenceExpiry_roster n d <;> rw [Machine.actOf, heq]
    · exact h
    · exact h.mapEntry n fun _ => ⟨rfl, rfl⟩
  | _ => exact hother nofun (of_decide_eq_false rfl)

theorem actOf_rx_bounds (h : d.vbp.rx.length ≤ 8) (hrx : ∀ f ∈ d.vbp.rx, isNode f.node) (c : Instr) :
    (actOf c d).vbp.rx.length ≤ 8 ∧ ∀ f ∈ (actOf c d).vbp.rx, isNode f.node := by
  by_cases hc : ∀ f, c ≠ .frameReceived f
  · have hsub := actOf_rx hc d
    exact ⟨hsub.length_le.trans h, fun f hf => hrx f (hsub.subset hf)⟩
  · simp only [not_forall, not_not] at hc
    obtain ⟨f, rfl⟩ := hc
    obtain ⟨heq, -⟩ | ⟨n, hn, hroom, heq, -⟩ := frameReceived_port f d <;> rw [Machine.actOf, heq]
    · exact ⟨h, hrx⟩
    · refine ⟨by simpa using hroom, fun g hg => ?_⟩
      obtain hg | hg := List.mem_append.mp hg
      · exact hrx g hg
      · rw [List.mem_singleton.mp hg]
        exact hn

/-! ## All queues -/

/-- Settles O53: link and transmit queue by `Device.Fits`, which every operation keeps; the receive buffer grows by a frame
of a node where it has room; the award queue by the slots it lacks; the roster by HELLO's table. -/
theorem queuesAndRosterStayBounded : Obligations.QueuesAndRosterStayBounded := by
  intro s t hqueue horder hroster hstep
  obtain ⟨hrequests, hreplies, hrxlen, hcount, hlen, hawards⟩ := hqueue
  obtain ⟨hordered, hnodes, hone, hrx⟩ := hroster
  have hroster' : RosterFits s.dev.vbp.roster := ⟨hlen, hordered, hnodes, hone⟩
  obtain hdev | ⟨c, hdev⟩ := dev_of_step hstep <;> rw [hdev]
  · obtain ⟨hlen', hordered', hnodes', hone'⟩ :=
      hroster'.map (f := RosterEntry.tick) fun _ => ⟨rfl, rfl⟩
    exact ⟨⟨hrequests, hreplies, hrxlen, hcount, hlen', hawards⟩, horder, hordered', hnodes', hone', hrx⟩
  · have hfits : s.dev.Fits := ⟨hrequests, hreplies, hcount, horder⟩
    obtain ⟨hrequests', hreplies', hcount', horder'⟩ := hfits.actOf c
    obtain ⟨hrxlen', hrx'⟩ := actOf_rx_bounds hrxlen hrx c
    obtain ⟨hlen', hordered', hnodes', hone'⟩ := hroster'.actOf hrx c
    exact ⟨⟨hrequests', hreplies', hrxlen', hcount', hlen', actOf_awards c hawards⟩, horder', hordered', hnodes', hone',
      hrx'⟩

end Sys2Proof.Machine
end

section
/-! PROOFS. Committed images stay in range and valid (R9 to R17, R36, R60), and the renewal entries sound (R48). -/

namespace Sys2Proof.Machine

-- A default proof `by decide` waits for the kernel: side by side the proofs would ask for a thread each.
set_option Elab.async false

variable {d d' : Device}

/-! ## A record's image changed -/

theorem loadFailing_eq_none {l : LoadFields} : loadFailing l = none ↔
    ∃ q, l.request = some q ∧ (∀ f ∈ l.floor, ¬(0 < q ∧ q < f)) ∧ ascending l.steps.listed = true ∧
      (l.steps.listed = [] ∨ ∀ f ∈ l.floor, f ∈ l.steps.listed) := by
  unfold loadFailing
  cases l.request with
  | none => simp
  | some q =>
    cases l.floor <;> cases ascending l.steps.listed <;> by_cases hsteps : l.steps.listed = [] <;> simp [hsteps] <;> grind

/-- The value that a RENEW stores lies in the primary field's range, and at 0 or above the committed floor (R59, R60). -/
theorem renewedValue_within {c : RecordClass} {img : Image} (h : img.InRange c) (v : Int) :
    within (c.primary.range c).1 (c.primary.range c).2 (renewedValue c img v) ∧
      ∀ f ∈ img.floor, renewedValue c img v ≤ 0 ∨ f ≤ renewedValue c img v := by
  unfold renewedValue
  cases hfloor : img.floor with
  | none => exact ⟨clampField_within c _ v, nofun⟩
  | some f =>
    have hload : c = .load ∧ within 1 32767 f := by
      have hfields := Image.fieldsInRange_of_inRange h .floor f
      obtain ⟨rfl, p, hb⟩ | ⟨rfl, l, hb⟩ | ⟨q, rfl, x, y, hb⟩ | ⟨q, rfl, x, hb⟩ :=
        Image.hasKind_cases (Image.hasKind_of_inRange h) <;> simp_all [Image.floor, Image.fieldOf, FieldId.range]
      exact hfields
    obtain ⟨rfl, hf⟩ := hload
    simp only [within] at hf
    simp only [Option.mem_def, Option.some.injEq, forall_eq', RecordClass.primary, FieldId.range, within]
    by_cases hbelow : 0 < v ∧ v < f
    · rw [if_pos (by simpa using hbelow)]
      exact ⟨⟨by omega, by omega⟩, .inr (Int.le_refl f)⟩
    · rw [if_neg (by simpa using hbelow)]
      refine ⟨clampField_within .load .request v, ?_⟩
      by_cases hneg : v < 0
      · exact .inl (by simp [clampField, clamp, FieldId.range, hneg])
      by_cases htop : 32767 < v
      · exact .inr (by simpa [clampField, clamp, FieldId.range, hneg, htop] using hf.2)
      · simp only [clampField, clamp, FieldId.range, hneg, htop, if_false]
        by_cases hpos : 0 < v
        · exact .inr (Int.not_lt.mp fun hlt => hbelow ⟨hpos, hlt⟩)
        · exact .inl (Int.not_lt.mp hpos)

theorem renewedImage_inRange {c : RecordClass} {img : Image} (h : img.InRange c) (v : Option Half) :
    (renewedImage c img v).InRange c := by
  cases v with
  | none => exact h
  | some v =>
    refine Image.write_inRange h fun x hx => ?_
    have hwithin := (renewedValue_within h v.toInt).1
    rw [Image.fieldOf_write_some (Image.hasKind_of_inRange h) (by cases c <;> rfl) (by cases c <;> rfl) hwithin] at hx
    cases hx
    exact hwithin

theorem renewedImage_valid {owner : Nat} {c : RecordClass} {img : Image} (h : img.InRange c)
    (hvalid : firstFailing owner img = none) (v : Option Half) : firstFailing owner (renewedImage c img v) = none := by
  cases v with
  | none => exact hvalid
  | some v =>
    obtain ⟨hwithin, hfloor⟩ := renewedValue_within h v.toInt
    have hkind := Image.hasKind_of_inRange h
    generalize hx : renewedValue c img v.toInt = x at hfloor
    obtain ⟨period, tolerance, body⟩ := img
    simp only [renewedImage, hx]
    obtain ⟨rfl, p, rfl⟩ | ⟨rfl, l, rfl⟩ | ⟨q, rfl, y, z, rfl⟩ | ⟨q, rfl, y, rfl⟩ := Image.hasKind_cases hkind
    · exact hvalid
    · simp only [firstFailing, Option.or_eq_none_iff, loadFailing_eq_none, RecordClass.primary, Image.write,
        LoadFields.write] at hvalid ⊢
      obtain ⟨⟨q, -, -, hascending, hlisted⟩, hperiod⟩ := hvalid
      refine ⟨⟨x, rfl, fun f hf => ?_, hascending, hlisted⟩, hperiod⟩
      obtain hle | hle := hfloor f hf
      · exact Int.not_lt.mpr hle ∘ And.left
      · exact Int.not_lt.mpr hle ∘ And.right
    · cases y <;> simp_all [firstFailing, RecordClass.primary, Image.write]
    · cases y <;> simp_all [firstFailing, RecordClass.primary, Image.write]

theorem Record.Sound.renewed {r : Record} (h : r.Sound) (v : Option Half) :
    ({ r with image := renewedImage r.ident.cls r.image v } : Record).Sound :=
  ⟨renewedImage_inRange h.1 v, renewedImage_valid h.1 h.2.1 v, h.2.2⟩

/-- The record that a COMMIT leaves is sound: its image is merged in range, and passed every check. -/
theorem committedAs_sound {c : Content} {e : EditBuffer} {x : Identity} (hident : c.ident? = some x)
    (hrecord : ∀ r ∈ c.record?, r.Sound) (hwork : e.image.InRange x.cls)
    (hvalid : firstFailing x.owner (resultingImage c e) = none) :
    ∀ r ∈ (c.committedAs (resultingImage c e)).record?, r.Sound := by
  intro r hr
  cases c with
  | free => cases hident
  | draft y t =>
    cases hident
    cases hr
    refine ⟨hwork, hvalid, ?_⟩
    dsimp only
    split <;> simp_all
  | live q | stale q | retiring q k =>
    cases hident
    cases hr
    obtain ⟨hin, -, hanswer⟩ := hrecord q rfl
    exact ⟨mergeMarked_inRange hin hwork e.marks, hvalid, hanswer⟩

/-! ## Images through the changes of the table -/

/-- Images stay sound where every record is, no slot gains an identity, and each open buffer is one that was open, or in its
ranges. -/
theorem ImageSound.of (h : ImageSound d) (hrecords : ∀ i, ∀ r ∈ (d'.slot i).content.record?, r.Sound)
    (hident : ∀ i x, (d'.slot i).content.ident? = some x → (d.slot i).content.ident? = some x)
    (hbuffers : ∀ k e, d'.buffer k = some e →
      d.buffer k = some e ∨ ∀ x, (d.slot e.slot).content.ident? = some x → e.image.InRange x.cls) : ImageSound d' := by
  refine ⟨hrecords, fun k e he x hx => ?_⟩
  obtain hold | hin := hbuffers k e he
  · exact h.2 k e hold x (hident _ x hx)
  · exact hin x (hident _ x hx)

theorem ImageSound.congr (h : ImageSound d) (hsame : SameTable d d') : ImageSound d' := by
  refine h.of (fun i r hr => h.1 i r (hsame.slot i ▸ hr)) (fun i x hx => hsame.slot i ▸ hx) fun k e he => .inl ?_
  rwa [hsame.buffer] at he

theorem retired_record? (c : Content) : c.retired.record? = c.record? := by
  cases c <;> rfl

theorem marked_record? (c : Content) : c.marked.record? = c.record? := by
  cases c <;> rfl

theorem buffer_of_filter {o : Option EditBuffer} {p : EditBuffer → Bool} {e : EditBuffer} (h : o.filter p = some e) :
    o = some e :=
  (Option.filter_eq_some_iff.mp h).1

theorem ImageSound.step (h : ImageSound d) (hstep : TableStep false d d') : ImageSound d' := by
  have hident (i : SlotNo) := (hstep.slotStep i).keeps.ident
  cases hstep with
  | keep htable => exact h.congr htable
  | @edit i e hslot hedit himage =>
    refine h.of (fun i => h.1 i) hident fun k f hf => ?_
    by_cases hk : k = bankOf i
    · subst hk
      rw [Device.buffer_setBuffer_same] at hf
      cases hf
      exact .inr fun x hx => himage h x (hslot ▸ hx)
    · exact .inl (by rwa [d.buffer_setBuffer_other _ hk] at hf)
  | @commit i e x hx hretiring hopen hvalid =>
    obtain ⟨hbuffer, hslot⟩ := openFor_eq_some hopen
    refine h.of (fun j r hr => ?_) hident fun k f hf => .inl ?_
    · by_cases hj : j = i
      · subst hj
        rw [commitImage_slot_same] at hr
        exact committedAs_sound hx (h.1 j) (h.2 _ e hbuffer x (hslot ▸ hx)) hvalid r hr
      · rw [commitImage_slot_other _ _ hj] at hr
        exact h.1 j r hr
    · by_cases hk : k = bankOf i
      · subst hk
        simp at hf
      · rwa [commitImage_buffer_other _ _ hk] at hf
  | @renew i q v hused =>
    refine h.of (fun j r hr => ?_) hident fun k f hf => .inl (renewRecord_buffer i q v d k ▸ hf)
    by_cases hj : j = i
    · subst hj
      rw [renewRecord_slot_same] at hr
      cases hr
      exact Record.Sound.renewed (h.1 j q (by obtain hc | hc := hused <;> simp [hc, Content.record?])) v
    · rw [renewRecord_slot_other _ _ _ hj] at hr
      exact h.1 j r hr
  | @free which =>
    refine h.of (fun j r hr => ?_) hident fun k f hf => .inl (buffer_of_filter (freeSlots_buffer which d k ▸ hf))
    rw [freeSlots_slot] at hr
    split at hr
    · cases hr
    · exact h.1 j r hr
  | @retire which =>
    refine h.of (fun j r hr => h.1 j r ?_) hident fun k f hf => .inl (buffer_of_filter (retireSlots_buffer which d k ▸ hf))
    rw [retireSlots_slot] at hr
    split at hr
    · rwa [retired_record?] at hr
    · exact hr
  | @close b =>
    refine h.of (fun i => h.1 i) hident fun k f hf => .inl ?_
    by_cases hk : k = b
    · subst hk
      simp at hf
    · rwa [d.buffer_setBuffer_other _ hk] at hf
  | @lapse i q wasLive hused =>
    obtain ⟨hbuffer, ⟨hothers, -⟩, -⟩ := lapseRecord_keeps i q wasLive d
    refine h.of (fun j r hr => ?_) hident fun k f hf => .inl (hbuffer k ▸ hf)
    by_cases hj : j = i
    · subst hj
      obtain hsame | ⟨rfl, hstale⟩ := lapseRecord_slot_same j q wasLive d
      · exact h.1 j r (hsame ▸ hr)
      · rw [hstale] at hr
        cases hr
        exact h.1 j q (by simp [hused, Content.record?])
    · exact h.1 j r ((hothers j hj).1 ▸ hr)
  | mark =>
    refine h.of (fun j r hr => h.1 j r ?_) hident fun k f hf => .inl (markRetiring_buffer d k ▸ hf)
    rwa [markRetiring_slot, marked_record?] at hr
  | grants hcompleting => cases hcompleting

theorem ImageSound.steps (h : ImageSound d) (hsteps : TableSteps false d d') : ImageSound d' := by
  induction hsteps with
  | refl => exact h
  | tail _ hstep ih => exact ih.step hstep

theorem ImageSound.openDraft (h : ImageSound d) {x : Identity} {t : Nat} (ht : t ≤ 3) {i : SlotNo}
    (hfree : (d.slot i).content.isFree = true) (hbuffer : BufferSound d) : ImageSound (openDraft x t i d) := by
  refine ⟨fun j r hr => ?_, fun k e he y hy => ?_⟩
  · by_cases hj : j = i
    · subst hj
      simp [Content.record?] at hr
    · rw [openDraft_slot_other _ _ _ hj] at hr
      exact h.1 j r hr
  · by_cases hk : k = bankOf i
    · subst hk
      rw [openDraft_buffer_same] at he
      cases he
      rw [openDraft_slot_same] at hy
      cases hy
      exact Image.default_inRange _ _ ht
    · rw [openDraft_buffer_other _ _ _ hk] at he
      obtain ⟨-, halive⟩ := (bufferSound_iff.mp hbuffer).1 k e he
      have hne : e.slot ≠ i := by
        rintro rfl
        cases hc : (d.slot e.slot).content <;> simp_all [Content.isFree, Content.isDraft, Content.isUsed]
      rw [openDraft_slot_other _ _ _ hne] at hy
      exact h.2 k e he y hy

theorem Device.HasNoRecords.imageSound (h : d.HasNoRecords) : ImageSound d := by
  simp [ImageSound, h.slot, h.buffer, Content.record?]

theorem ImageSound.tick (h : ImageSound d) : ImageSound (tick d) := by
  refine ⟨h.1, fun k e he x hx => ?_⟩
  rw [tick_buffer, Option.mem_def, Option.map_eq_some_iff] at he
  obtain ⟨f, hf, rfl⟩ := he
  exact h.2 k f hf x hx

/-! ## The answers of a completion (R84) -/

/-- What a completion makes of each slot: the marked ones FREE, the others with the answers written. -/
theorem publishPass_slot (p : Pass) (d : Device) (i : SlotNo) :
    (publishPass p d).slot i =
      if (d.slot i).content.isMarked then { d.slot i with content := .free }
      else (d.slot i).granted (writtenAnswer p i (d.slot i)) := by
  have htable : (publishPass p d).slot i = (freeSlots (fun i => (d.slot i).content.isMarked) (writeGrants p d)).slot i := by
    simp only [Device.slot, (publishPass_tbl p d).1]
  rw [htable, freeSlots_slot, writeGrants_slot]
  split
  · cases writtenAnswer p i (d.slot i) <;> rfl
  · rfl

theorem publishPass_buffer (p : Pass) (d : Device) (k : BankNo) :
    (publishPass p d).buffer k = (d.buffer k).filter fun e => !(d.slot e.slot).content.isMarked := by
  have htable : (publishPass p d).buffer k = (freeSlots (fun i => (d.slot i).content.isMarked) (writeGrants p d)).buffer k := by
    simp only [Device.buffer, (publishPass_tbl p d).1]
  rw [htable, freeSlots_buffer, writeGrants_buffer]

theorem publishPass_rtaOf (p : Pass) (d : Device) (i : SlotNo) :
    (publishPass p d).rtaOf i =
      if (d.slot i).content.isMarked then { d.rtaOf i with timer := .stopped, lapse := 0 } else d.rtaOf i := by
  have htable : (publishPass p d).rtaOf i = (freeSlots (fun i => (d.slot i).content.isMarked) (writeGrants p d)).rtaOf i := by
    simp only [Device.rtaOf, (publishPass_tbl p d).2]
  rw [htable, freeSlots_rtaOf, writeGrants_rtaOf]

theorem computePass_grants (snap : Snapshot) (b : Combiner) :
    ∃ al, ∀ i : SlotNo, (computePass snap b).grants[i] = computedAnswer snap al i :=
  ⟨allot _ _ _, fun i => by simp only [computePass, Fin.getElem_fin, Vector.getElem_ofFn, Fin.eta]; rfl⟩

/-- An answer is computed for a LIVE or STALE LOAD of the snapshot alone. -/
theorem computedAnswer_load {snap : Snapshot} {al : Allotment} {i : SlotNo} {a : Answer}
    (h : computedAnswer snap al i = some a) :
    ∃ r, (snap.slots[i].content = .live r ∨ snap.slots[i].content = .stale r) ∧ r.ident.cls = .load := by
  unfold computedAnswer at h
  split at h
  · next r hc =>
    split at h
    · exact ⟨r, .inl hc, ‹_›⟩
    · cases h
  · next r hc =>
    split at h
    · exact ⟨r, .inr hc, ‹_›⟩
    · cases h
  · cases h

theorem writtenAnswer_grants {p : Pass} {i : SlotNo} {s : Slot} {a : Answer} (h : writtenAnswer p i s = some a) :
    ∃ g, p.grants[i] = some g := by
  unfold writtenAnswer at h
  split at h
  · cases hg : p.grants[i] with
    | some g => exact ⟨g, rfl⟩
    | none => simp [hg] at h
  · cases h

/-- A record that a completion writes an answer for is a LOAD. -/
theorem writtenAnswer_load {p : Pass} (hp : p ∈ d.se.pass) (hpass : PassSound d) (hheld : HeldSound d) {i : SlotNo}
    {a : Answer} (ha : writtenAnswer p i (d.slot i) = some a) {r : Record} (hr : (d.slot i).content.record? = some r) :
    r.ident.cls = .load := by
  obtain ⟨heq, -⟩ := hpass p hp
  obtain ⟨al, hal⟩ := computePass_grants p.snap (combine p.snap)
  obtain ⟨g, hg⟩ := writtenAnswer_grants ha
  rw [heq] at hg
  obtain ⟨q, hq, hload⟩ := computedAnswer_load ((hal i).symm.trans hg)
  obtain ⟨-, -, hident⟩ := hheld p hp i (isUsed_of_or hq)
  have hsnap : p.snap.slots[i].content.ident? = some q.ident := by
    obtain hc | hc := hq <;> rw [hc] <;> rfl
  rw [hsnap, record?_ident hr] at hident
  rw [Option.some.inj hident, hload]

theorem granted_record? {s : Slot} {o : Option Answer} {r : Record} (h : (s.granted o).content.record? = some r) :
    ∃ q, s.content.record? = some q ∧ r = { q with answer := o.or q.answer } := by
  cases o with
  | none => exact ⟨r, h, rfl⟩
  | some a =>
    simp only [Slot.granted] at h
    cases hc : s.content <;> rw [hc] at h <;> cases h
    all_goals exact ⟨_, rfl, rfl⟩

theorem granted_ident? (s : Slot) (o : Option Answer) : (s.granted o).content.ident? = s.content.ident? := by
  cases o with
  | none => rfl
  | some a =>
    simp only [Slot.granted]
    cases s.content <;> rfl

theorem ImageSound.publishPass (h : ImageSound d) {p : Pass} (hp : p ∈ d.se.pass) (hpass : PassSound d)
    (hheld : HeldSound d) : ImageSound (publishPass p d) := by
  have hrecord (i : SlotNo) (r : Record) (hr : (Machine.publishPass p d |>.slot i).content.record? = some r) :
      ∃ q, (d.slot i).content.record? = some q ∧ r = { q with answer := (writtenAnswer p i (d.slot i)).or q.answer } := by
    rw [publishPass_slot] at hr
    split at hr
    · cases hr
    · exact granted_record? hr
  refine h.of (fun i r hr => ?_) (fun i x hx => ?_) fun k e he => .inl (buffer_of_filter (publishPass_buffer p d k ▸ he))
  · obtain ⟨q, hq, rfl⟩ := hrecord i r hr
    obtain ⟨hin, hvalid, hanswer⟩ := h.1 i q hq
    refine ⟨hin, hvalid, ?_⟩
    cases hw : writtenAnswer p i (d.slot i) with
    | none => exact hanswer
    | some a => exact iff_of_true rfl (writtenAnswer_load (r := q) hp hpass hheld hw hq)
  · rw [publishPass_slot] at hx
    split at hx
    · cases hx
    · rwa [granted_ident?] at hx

theorem ImageSound.act (h : ImageSound d) {c : Instr} (hc : c ≠ .passCompletion) (hbuffer : BufferSound d)
    (hacts : TableActs c d d') : ImageSound d' := by
  obtain hsame | @⟨e, hsteps, hsame⟩ | @⟨x, t, i, -, hclaim⟩ | ⟨-, hnone⟩ := hacts
  · exact h.congr hsame
  · rw [decide_eq_false hc] at hsteps
    exact (h.steps hsteps).congr hsame
  · exact (h.openDraft hclaim.tier hclaim.free hbuffer).congr hclaim.same
  · exact hnone.imageSound

/-! ## The renewal entries (R48) -/

/-- A renewal entry sound beside its slot's content. -/
def RenewalEntry.SoundFor (e : RenewalEntry) (c : Content) : Prop :=
  (e.timer.isRunning → c.isUsed ∧ e.periodInForce ≠ 0) ∧ (c.isFree || c.isDraft → e.lapse = 0) ∧ e.lapse ≤ 15

theorem renewalSound_iff : RenewalSound d ↔ ∀ i, (d.rtaOf i).SoundFor (d.slot i).content := Iff.rfl

theorem RenewalSound.congr (h : RenewalSound d) (hsame : SameTable d d') : RenewalSound d' := by
  intro i
  rw [hsame.slot, hsame.rtaOf]
  exact h i

theorem isUsed_not_free_or_draft {c : Content} (h : c.isUsed = true) : (c.isFree || c.isDraft) = false := by
  cases c <;> simp_all [Content.isUsed, Content.isFree, Content.isDraft]

/-- An entry whose record's period was taken into force is sound for a record in use. -/
theorem RenewalEntry.takeForce_sound {e : RenewalEntry} {c : Content} (hused : c.isUsed = true) (img : Image) {n : Nat}
    (hn : n ≤ 15) : ({ e.takeForce img with lapse := n } : RenewalEntry).SoundFor c := by
  refine ⟨fun hrun => ⟨hused, ?_⟩, fun hno => by simp [isUsed_not_free_or_draft hused] at hno, hn⟩
  rw [RenewalEntry.takeForce_eq] at hrun ⊢
  intro hzero
  dsimp only at hrun hzero
  simp [hzero, Timer.isRunning] at hrun

theorem RenewalEntry.stopped_sound {e : RenewalEntry} {c : Content} (h : e.lapse ≤ 15)
    (hlapse : c.isFree || c.isDraft → e.lapse = 0) : ({ e with timer := .stopped } : RenewalEntry).SoundFor c :=
  ⟨nofun, hlapse, h⟩

theorem RenewalEntry.cleared_sound (e : RenewalEntry) (c : Content) :
    ({ e with timer := .stopped, lapse := 0 } : RenewalEntry).SoundFor c := ⟨nofun, fun _ => rfl, Nat.zero_le _⟩

theorem RenewalEntry.SoundFor.congr {e : RenewalEntry} {c c' : Content} (h : e.SoundFor c) (hused : c'.isUsed = c.isUsed)
    (hfree : c'.isFree = c.isFree) (hdraft : c'.isDraft = c.isDraft) : e.SoundFor c' := by
  rwa [SoundFor, hused, hfree, hdraft]

theorem RenewalEntry.committedAs_sound {e : RenewalEntry} {c : Content} (h : e.SoundFor c) {x : Identity}
    (hident : c.ident? = some x) (hretiring : c.isRetiring = false) (img : Image) :
    (e.committedAs img c.isDraft).SoundFor (c.committedAs img) := by
  have hforce (n : Nat) (hn : n ≤ 15) (hused : (c.committedAs img).isUsed = true) :
      ({ timer := if img.period = 0 then .stopped else .running (img.period * 10), lapse := n,
         periodInForce := img.period, toleranceInForce := img.tolerance } : RenewalEntry).SoundFor (c.committedAs img) := by
    have htaken := RenewalEntry.takeForce_sound (e := e) hused img hn
    rwa [RenewalEntry.takeForce_eq] at htaken
  have hused : (c.committedAs img).isUsed = true := by
    cases c <;> simp_all [Content.committedAs, Content.isUsed, Content.isRetiring, Content.ident?, Content.mapRecord]
  unfold RenewalEntry.committedAs
  split
  · refine hforce _ ?_ hused
    split
    · exact Nat.zero_le _
    · exact h.2.2
  · next hkept =>
    rw [Bool.or_eq_true, not_or, Bool.not_eq_true] at hkept
    refine h.congr ?_ ?_ ?_ <;> cases c <;>
      simp_all [Content.committedAs, Content.mapRecord, Content.isUsed, Content.isFree, Content.isDraft, Content.ident?]

theorem granted_life (s : Slot) (o : Option Answer) :
    (s.granted o).content.isUsed = s.content.isUsed ∧ (s.granted o).content.isFree = s.content.isFree ∧
      (s.granted o).content.isDraft = s.content.isDraft := by
  cases o with
  | none => exact ⟨rfl, rfl, rfl⟩
  | some a =>
    simp only [Slot.granted]
    cases s.content <;> exact ⟨rfl, rfl, rfl⟩

theorem RenewalSound.step {b : Bool} (h : RenewalSound d) (hstep : TableStep b d d') : RenewalSound d' := by
  rw [renewalSound_iff] at h ⊢
  intro j
  cases hstep with
  | keep htable =>
    rw [htable.slot, htable.rtaOf]
    exact h j
  | edit => exact h j
  | close => exact h j
  | @commit i e x hident hretiring hopen hvalid =>
    by_cases hj : j = i
    · subst hj
      rw [commitImage_slot_same, commitImage_rtaOf_same]
      exact RenewalEntry.committedAs_sound (h j) hident hretiring _
    · rw [commitImage_slot_other _ _ hj, commitImage_rtaOf_other _ _ hj]
      exact h j
  | @renew i r v hused =>
    by_cases hj : j = i
    · subst hj
      rw [renewRecord_slot_same, renewRecord_rtaOf_same]
      exact RenewalEntry.takeForce_sound rfl _ (Nat.zero_le _)
    · rw [renewRecord_slot_other _ _ _ hj, renewRecord_rtaOf_other _ _ _ hj]
      exact h j
  | @free which =>
    rw [freeSlots_slot, freeSlots_rtaOf]
    split
    · exact RenewalEntry.cleared_sound _ _
    · exact h j
  | @retire which hused =>
    rw [retireSlots_slot, retireSlots_rtaOf]
    split
    · next hw =>
      refine RenewalEntry.stopped_sound (h j).2.2 fun hno => ?_
      obtain ⟨r, hr | hr⟩ := Content.isUsed_iff.mp (hused j hw) <;>
        simp [hr, Content.retired, Content.isFree, Content.isDraft] at hno
    · exact h j
  | @lapse i r wasLive hused =>
    by_cases hj : j = i
    · subst hj
      have hused' : (d.slot j).content.isUsed = true := by
        rw [hused]
        cases wasLive <;> rfl
      have hused'' : ((lapseRecord j r wasLive d).slot j).content.isUsed = true := by
        obtain hsame | ⟨-, hstale⟩ := lapseRecord_slot_same j r wasLive d
        · rw [hsame, hused']
        · rw [hstale]
          rfl
      by_cases hperiod : r.image.period = 0
      · rw [lapseRecord_of_period_zero hperiod, Device.rtaOf_expireTo, Device.slot_expireTo]
        exact RenewalEntry.takeForce_sound hused' _ (Nat.zero_le _)
      · rw [lapseRecord_rtaOf hperiod]
        exact RenewalEntry.takeForce_sound hused'' _ (Nat.min_le_right _ _)
    · obtain ⟨-, ⟨hothers, -⟩, -⟩ := lapseRecord_keeps i r wasLive d
      rw [(hothers j hj).1, (hothers j hj).2]
      exact h j
  | mark =>
    rw [markRetiring_slot, markRetiring_rtaOf]
    refine RenewalEntry.SoundFor.congr (h j) ?_ ?_ ?_ <;> cases (d.slot j).content <;> rfl
  | grants =>
    rw [writeGrants_slot, writeGrants_rtaOf]
    obtain ⟨hused, hfree, hdraft⟩ := granted_life (d.slot j) (writtenAnswer _ j (d.slot j))
    exact RenewalEntry.SoundFor.congr (h j) hused hfree hdraft

theorem RenewalSound.steps {b : Bool} (h : RenewalSound d) (hsteps : TableSteps b d d') : RenewalSound d' := by
  induction hsteps with
  | refl => exact h
  | tail _ hstep ih => exact ih.step hstep

theorem RenewalSound.openDraft (h : RenewalSound d) (x : Identity) (t : Nat) (i : SlotNo) : RenewalSound (openDraft x t i d) := by
  rw [renewalSound_iff] at h ⊢
  intro j
  by_cases hj : j = i
  · subst hj
    rw [openDraft_rtaOf_same]
    exact RenewalEntry.cleared_sound _ _
  · rw [openDraft_slot_other _ _ _ hj, openDraft_rtaOf_other _ _ _ hj]
    exact h j

theorem Device.HasNoRecords.renewalSound (h : d.HasNoRecords) : RenewalSound d := by
  rw [renewalSound_iff]
  intro i
  rw [h.slot, h.rtaOf]
  exact RenewalEntry.cleared_sound .cleared .free

theorem RenewalSound.act (h : RenewalSound d) {c : Instr} (hacts : TableActs c d d') : RenewalSound d' := by
  obtain hsame | @⟨e, hsteps, hsame⟩ | @⟨x, t, i, -, hclaim⟩ | ⟨-, hnone⟩ := hacts
  · exact h.congr hsame
  · exact (h.steps hsteps).congr hsame
  · exact (h.openDraft x t i).congr hclaim.same
  · exact hnone.renewalSound

theorem Timer.tick_isRunning (t : Timer) : t.tick.isRunning = t.isRunning := by
  cases t <;> rfl

theorem RenewalSound.tick (h : RenewalSound d) : RenewalSound (tick d) := by
  intro i
  rw [tick_rtaOf, tick_slot]
  simpa only [RenewalEntry.tick, Timer.tick_isRunning] using h i

/-! ## The statement -/

theorem ImageSound.passCompletion (h : ImageSound d) (hpass : PassSound d) (hheld : HeldSound d) :
    ImageSound (passCompletion d) := by
  unfold Machine.passCompletion
  split
  case h_2 => exact h
  next p hp =>
  rw [completePass_eq]
  unfold sleepIfPending
  split
  · exact (sleepEntry_hasNoRecords _ _).imageSound
  · exact (h.publishPass hp hpass hheld).congr (completed_sameTable p d)

/-- Settles O55: every change of the table keeps images and entries sound, the image of a COMMIT by its checks, that of a
RENEW by its clamp; a completion writes answers for LOAD records alone, as the pass in flight is true to its snapshot. -/
theorem committedImagesStayValid : Obligations.CommittedImagesStayValid := by
  intro s t hsound hstep
  obtain ⟨-, -, -, hbuffer, -, -, himage, hrenewal, -, -, -, -, hpass, hheld⟩ := hsound
  obtain hdev | ⟨c, hdev⟩ := dev_of_step hstep <;> rw [hdev]
  · exact ⟨himage.tick, hrenewal.tick⟩
  by_cases hreset : ∀ k m, c ≠ .deviceReset k m
  case neg =>
    simp only [not_forall, not_not] at hreset
    obtain ⟨k, m, rfl⟩ := hreset
    have hnone := deviceReset_hasNoRecords k m s.dev
    exact ⟨hnone.imageSound, hnone.renewalSound⟩
  have hacts := actOf_table c s.dev hreset
  refine ⟨?_, hrenewal.act hacts⟩
  by_cases hc : c = .passCompletion
  · subst hc
    exact himage.passCompletion hpass hheld
  · exact himage.act hc hbuffer hacts

end Sys2Proof.Machine
end

section
/-! PROOFS. The Configuration Set: a value brought into its field's range, the field alone set (R174, R175), and what a
CONFIG_WRITE and a CONFIG_DONE keep (R176). -/

namespace Sys2Proof.Machine

-- A default proof `by decide` waits for the kernel: side by side the proofs would ask for a thread each.
set_option Elab.async false

variable {d d' : Device}

/-! ## Ranges (R174, R175) -/

theorem nextListed_mem (v x : Int) (xs : List Int) : nextListed v x xs ∈ x :: xs := by
  induction xs generalizing x with
  | nil => exact List.mem_cons_self
  | cons y ys ih =>
    unfold nextListed
    split
    · exact List.mem_cons_self
    · exact List.mem_cons_of_mem x (ih y)

/-- Bits kept and bits always set, of a value of which the kept bits hold the others. -/
theorem masked_admits (kept always sent : Half) (h : always &&& kept = always) :
    (ConfigRange.bits kept always).admits ((ConfigRange.bits kept always).bring sent) = true := by
  have hbit (i : Nat) : always.getLsbD i = true → kept.getLsbD i = true := by
    intro ha
    have := congrArg (fun x => x.getLsbD i) h
    simpa [ha] using this
  have hkept : ((sent &&& kept) ||| always) &&& kept = (sent &&& kept) ||| always := by
    ext i hi
    have := hbit i
    rw [BitVec.getElem_and, BitVec.getElem_or, BitVec.getElem_and]
    simp only [BitVec.getLsbD_eq_getElem hi] at this
    cases sent[i] <;> cases hk : kept[i] <;> cases ha : always[i] <;> simp_all
  have halways : ((sent &&& kept) ||| always) &&& always = always := by
    ext i hi
    simp only [BitVec.getElem_and, BitVec.getElem_or]
    cases sent[i] <;> cases kept[i] <;> cases always[i] <;> rfl
  have hof : BitVec.ofInt 16 (((sent &&& kept) ||| always).toNat : Int) = (sent &&& kept) ||| always := by
    rw [BitVec.ofInt_natCast, BitVec.ofNat_toNat, BitVec.setWidth_eq]
  have hlt := ((sent &&& kept) ||| always).isLt
  simp only [ConfigRange.bring, ConfigRange.admits, hof, hkept, halways, decide_true, Bool.and_true, Bool.and_eq_true]
  exact ⟨decide_eq_true (by omega), decide_eq_true (by omega)⟩

/-- A value brought into a field's range is one that the range admits (R175, step 3). -/
theorem ConfigField.bring_admits (f : ConfigField) (sent : Half) : f.range.admits (f.range.bring sent) = true := by
  have hnumeric (lo hi : Int) (h : lo ≤ hi) : (ConfigRange.numeric lo hi).admits ((ConfigRange.numeric lo hi).bring sent) = true :=
    decide_eq_true (clamp_within lo hi sent.toInt h)
  have hlisted (x : Int) (xs : List Int) : (ConfigRange.listed x xs).admits ((ConfigRange.listed x xs).bring sent) = true :=
    decide_eq_true (nextListed_mem sent.toInt x xs)
  cases f with
  | noticeEnables => exact masked_admits _ _ sent (by decide)
  | retainMask => exact masked_admits _ _ sent (by decide)
  | replyTrigger | keyDeglitch | canRate => exact hlisted _ _
  | canBase =>
    have hin := clamp_within 0 0x7C0 sent.toInt (by decide)
    simp only [within] at hin
    simp only [range, ConfigRange.bring, ConfigRange.admits, within, Bool.and_eq_true]
    exact ⟨decide_eq_true (by omega), decide_eq_true (by omega)⟩
  | _ => exact hnumeric _ _ (by decide)

/-! ## One field set (R175) -/

theorem PowerValues.get_set_same (v : PowerValues) (q : PowerQty) (x : Int) : (v.set q x).get q = x := by
  cases q <;> rfl

theorem PowerValues.get_set_other (v : PowerValues) {q r : PowerQty} (x : Int) (h : r ≠ q) : (v.set q x).get r = v.get r := by
  cases q <;> cases r <;> first | rfl | exact absurd rfl h

/-- A value of kept bits alone is held by as many bits as the mask has. -/
theorem ofInt_toNat_of_masked {w : Nat} {v : Int} (hw : w ≤ 16) (hlo : 0 ≤ v) (hhi : v ≤ 0xFFFF)
    (hmask : BitVec.ofInt 16 v &&& BitVec.ofNat 16 (2 ^ w - 1) = BitVec.ofInt 16 v) : ((BitVec.ofInt w v).toNat : Int) = v := by
  obtain ⟨n, rfl⟩ := Int.eq_ofNat_of_zero_le hlo
  have hn : n < 2 ^ 16 := by omega
  have hpow : 2 ^ w ≤ 2 ^ 16 := Nat.pow_le_pow_right (by decide) hw
  have hpos : 0 < 2 ^ w := Nat.two_pow_pos w
  have hle : n ≤ 2 ^ w - 1 := by
    have hnat := congrArg BitVec.toNat hmask
    rw [BitVec.toNat_and, BitVec.ofInt_natCast, BitVec.toNat_ofNat, BitVec.toNat_ofNat, Nat.mod_eq_of_lt hn,
      Nat.mod_eq_of_lt (by omega)] at hnat
    rw [← hnat]
    exact Nat.and_le_right
  rw [BitVec.ofInt_natCast, BitVec.toNat_ofNat, Nat.mod_eq_of_lt (by omega)]

theorem ConfigSet.get_set_same (c : ConfigSet) {f : ConfigField} {v : Int} (h : f.range.admits v = true) :
    (c.set f v).get f = v := by
  cases f with
  | noticeEnables | retainMask =>
    simp only [ConfigField.range, ConfigRange.admits, Bool.and_eq_true, decide_eq_true_eq] at h
    exact ofInt_toNat_of_masked (by decide) h.1.1.1 h.1.1.2 h.1.2
  | point n => simp [get, set]
  | ceiling q | absent q => exact PowerValues.get_set_same _ q v
  | _ => rfl

theorem ConfigSet.get_set_other (c : ConfigSet) {f g : ConfigField} (v : Int) (h : g ≠ f) : (c.set f v).get g = c.get g := by
  cases f with
  | point n =>
    cases g with
    | point m => exact Vector.getElem_set_ne n.isLt m.isLt fun hnm => h (congrArg _ (Fin.ext hnm.symm))
    | _ => rfl
  | ceiling q | absent q =>
    cases g with
    | ceiling r | absent r =>
      first
      | rfl
      | exact PowerValues.get_set_other _ v fun hqr => h (congrArg _ hqr)
    | _ => rfl
  | _ => cases g <;> first | rfl | exact absurd rfl h

theorem ConfigField.mem_all (f : ConfigField) : f ∈ ConfigField.all := by
  cases f with
  | point n => revert n; decide
  | ceiling q | absent q => cases q <;> decide
  | _ => decide

theorem ConfigSet.inRange_iff {c : ConfigSet} : c.InRange ↔ ∀ f : ConfigField, f.range.admits (c.get f) = true :=
  ⟨fun h f => h f f.mem_all, fun h f _ => h f⟩

theorem ConfigSet.InRange.set {c : ConfigSet} (h : c.InRange) {f : ConfigField} {v : Int} (hv : f.range.admits v = true) :
    (c.set f v).InRange := by
  rw [inRange_iff] at h ⊢
  intro g
  by_cases hg : g = f
  · subst hg
    rw [get_set_same c hv]
    exact hv
  · rw [get_set_other c v hg]
    exact h g

theorem ConfigSet.get_withValid (c : ConfigSet) (b : Bool) (f : ConfigField) : ({ c with valid := b } : ConfigSet).get f = c.get f := by
  cases f <;> rfl

theorem ConfigSet.InRange.withValid {c : ConfigSet} (h : c.InRange) (b : Bool) : ({ c with valid := b } : ConfigSet).InRange := by
  rw [inRange_iff] at h ⊢
  simpa only [get_withValid] using h

/-! ## CONFIG_WRITE (R175) -/

theorem ConfigSet.set_valid (c : ConfigSet) (f : ConfigField) (v : Int) : (c.set f v).valid = c.valid := by
  cases f <;> rfl

theorem ConfigSet.set_usedPoints (c : ConfigSet) {f : ConfigField} (v : Int) (h : f.live = true) :
    (c.set f v).usedPoints = c.usedPoints := by
  cases f <;> first | rfl | cases h

theorem ConfigSet.set_levelsOrdered (c : ConfigSet) {f : ConfigField} (v : Int) (h : f.isLevel = false) :
    (c.set f v).levelsOrdered = c.levelsOrdered := by
  cases f <;> first | rfl | cases h

theorem storeField_cs (f : ConfigField) (v : Int) (d : Device) :
    (storeField f v d).cs =
      if d.mc.mode = .standby then { d.cs.set f v with valid := false } else d.cs.set f v := rfl

theorem storeField_gs (f : ConfigField) (v : Int) (d : Device) : (storeField f v d).gs = adjustForField f v d.gs := rfl

/-- The three outcomes of a write of a known field (R175, steps 2 to 4). -/
theorem writeField_cases (f : ConfigField) (sent : Half) (d : Device) :
    (d.mc.mode ≠ .standby ∧ f.live = false ∧ writeField f sent d = d.answered .notNow (fieldPayload f d.cs)) ∨
      (d.mc.mode ≠ .standby ∧ f.live = true ∧ f.isLevel = true ∧ (d.cs.set f (f.range.bring sent)).levelsOrdered = false ∧
        writeField f sent d = d.answered .badConfig (fieldPayload f d.cs)) ∨
      ((d.mc.mode = .standby ∨ f.live = true ∧ (f.isLevel = true → (d.cs.set f (f.range.bring sent)).levelsOrdered = true)) ∧
        writeField f sent d =
          (storeField f (f.range.bring sent) d).answered (if wasClamped f sent then .clamped else .ok)
            (fieldPayload f (d.cs.set f (f.range.bring sent)))) := by
  by_cases hmode : d.mc.mode = .standby
  · exact .inr (.inr ⟨.inl hmode, by simp [writeField, hmode]⟩)
  cases hlive : f.live with
  | false => exact .inl ⟨hmode, rfl, by simp [writeField, hmode, hlive]⟩
  | true =>
    cases hlevel : f.isLevel with
    | false => exact .inr (.inr ⟨.inr ⟨rfl, nofun⟩, by simp [writeField, hlive, hlevel]⟩)
    | true =>
      cases hordered : (d.cs.set f (f.range.bring sent)).levelsOrdered with
      | false => exact .inr (.inl ⟨hmode, rfl, rfl, rfl, by simp [writeField, hmode, hlive, hlevel, hordered]⟩)
      | true => exact .inr (.inr ⟨.inr ⟨rfl, fun _ => rfl⟩, by simp [writeField, hlive, hlevel, hordered]⟩)

theorem storeField_configSound (h : ConfigSound d) {f : ConfigField} {v : Int} (hv : f.range.admits v = true)
    (hstored : d.mc.mode = .standby ∨ f.live = true ∧ (f.isLevel = true → (d.cs.set f v).levelsOrdered = true)) :
    ConfigSound (storeField f v d) := by
  obtain ⟨hrange, hvalid, hmode⟩ := h
  have hmc : (storeField f v d).mc = d.mc := rfl
  rw [ConfigSound, storeField_cs, hmc]
  split
  · next hstandby => exact ⟨(hrange.set hv).withValid false, nofun, fun hne => absurd hstandby hne⟩
  · next hne =>
    obtain ⟨hlive, hordered⟩ := hstored.resolve_left hne
    rw [ConfigSet.set_valid, ConfigSet.set_usedPoints _ _ hlive]
    refine ⟨hrange.set hv, fun hval => ⟨?_, (hvalid hval).2⟩, fun _ => hmode hne⟩
    cases hlevel : f.isLevel with
    | true => exact hordered hlevel
    | false => rw [ConfigSet.set_levelsOrdered _ _ hlevel]; exact (hvalid hval).1

theorem configWriteAct_configSound (h : ConfigSound d) (q : SpiRequest) : ConfigSound (configWriteAct q d).dev := by
  unfold configWriteAct
  split
  · next f _ =>
    obtain ⟨-, -, hact⟩ | ⟨-, -, -, -, hact⟩ | ⟨hstored, hact⟩ :=
      writeField_cases f (halfOf (byteAt q.payload 1) (byteAt q.payload 2)) d <;> rw [hact]
    · exact h
    · exact h
    · exact storeField_configSound h (f.bring_admits _) hstored
  · exact h

/-! ## CONFIG_DONE (R176) -/

/-- The outcomes of a CONFIG_DONE: accepted in STANDBY with both orderings met, else answered without effect. -/
theorem configDoneAct_cases (q : SpiRequest) (d : Device) :
    (d.mc.mode = .standby ∧ d.cs.levelsOrdered = true ∧ ascending d.cs.usedPoints = true ∧
        configDoneAct q d = (configAccepted d).answered .ok []) ∨
      (d.mc.mode = .standby ∧ d.cs.levelsOrdered = false ∧ configDoneAct q d = d.answered .badConfig [0x02]) ∨
      (d.mc.mode = .standby ∧ d.cs.levelsOrdered = true ∧ ascending d.cs.usedPoints = false ∧
        configDoneAct q d = d.answered .badConfig [0x08]) ∨
      (d.mc.mode ≠ .standby ∧ configDoneAct q d = d.answered .ok []) := by
  by_cases hmode : d.mc.mode = .standby
  · cases hlevels : d.cs.levelsOrdered with
    | false => exact .inr (.inl ⟨hmode, rfl, by simp [configDoneAct, hmode, hlevels]⟩)
    | true =>
      cases hpoints : ascending d.cs.usedPoints with
      | false => exact .inr (.inr (.inl ⟨hmode, rfl, rfl, by simp [configDoneAct, hmode, hlevels, hpoints]⟩))
      | true => exact .inl ⟨hmode, rfl, rfl, by simp [configDoneAct, hmode, hlevels, hpoints]⟩
  · exact .inr (.inr (.inr ⟨hmode, by simp [configDoneAct, hmode]⟩))

theorem configDoneAct_configSound (h : ConfigSound d) (q : SpiRequest) : ConfigSound (configDoneAct q d).dev := by
  obtain ⟨hmode, hlevels, hpoints, hact⟩ | ⟨-, -, hact⟩ | ⟨-, -, -, hact⟩ | ⟨-, hact⟩ := configDoneAct_cases q d <;>
    rw [hact]
  · exact ⟨h.1.withValid true, fun _ => ⟨hlevels, hpoints⟩, fun _ => rfl⟩
  all_goals exact h

/-! ## The configuration after any command -/

theorem ConfigSound.congr (h : ConfigSound d) (hcs : d'.cs = d.cs) (hmode : d'.mc.mode ≠ .standby → d.cs.valid = true) :
    ConfigSound d' := by
  obtain ⟨hrange, hvalid, -⟩ := h
  rw [ConfigSound, hcs]
  exact ⟨hrange, hvalid, hmode⟩

theorem ConfigSound.finish {q : SpiRequest} {t : Taken} (h : ConfigSound t.dev) : ConfigSound (finish q t) := by
  have hmode : (Machine.finish q t).mc.mode = t.dev.mc.mode := (finish_changes q t).same .mode
  exact h.congr ((finish_changes q t).same .config) (hmode ▸ h.2.2)

theorem ConfigSound.takeHead (h : ConfigSound d) {mine : Link → SpiRequest → Bool} {act : SpiRequest → Device → Taken}
    (hact : ∀ f e, ConfigSound e → ConfigSound (act f e).dev) : ConfigSound (takeHead mine act d) := by
  unfold Machine.takeHead
  repeat' split
  · exact h
  · exact (hact _ (dropHead d) h).finish
  · exact h

/-- A command leaves STANDBY with the valid mark set (R131, R176). -/
theorem exec_valid_of_mode {c : Instr} (hmode : ModeSound d) (hconfig : ConfigSound d) (hreset : ∀ k m, c ≠ .deviceReset k m)
    (hne : (actOf c d).mc.mode ≠ .standby) : d.cs.valid = true := by
  by_cases hstandby : d.mc.mode = .standby
  · have hmoved : (actOf c d).mc.mode ≠ d.mc.mode := by rwa [hstandby]
    obtain ⟨hfrom, -⟩ := modesFollowTheirGraph { dev := d, pending := [] } { dev := actOf c d, pending := [] } c hmode
      (exec_eq c _) hreset hmoved
    exact (hfrom hstandby).2.2.2
  · exact hconfig.2.2 hstandby

theorem ConfigSound.actOf (h : ConfigSound d) (hmode : ModeSound d) {c : Instr} (hreset : ∀ k m, c ≠ .deviceReset k m) :
    ConfigSound (actOf c d) := by
  have hother (hkept : .config ∉ touches c) : ConfigSound (Machine.actOf c d) := by
    refine h.congr ?_ (exec_valid_of_mode hmode h hreset)
    obtain hacts | ⟨-, cause, e, heq, hacts, -⟩ := actOf_acts c d hreset
    · exact hacts.same .config hkept
    · rw [heq]
      exact hacts.same .config hkept
  cases c with
  | configWrite => exact h.takeHead fun q e he => configWriteAct_configSound he q
  | configDone => exact h.takeHead fun q e he => configDoneAct_configSound he q
  | deviceReset k m => exact absurd rfl (hreset k m)
  | _ => exact hother (of_decide_eq_false rfl)

/-! ## The pass in flight and its records (R46, R81, R82) -/

/-- What a slot keeps of a record while passes are made: it stands under its generation and identity, RETIRING perhaps. -/
def SlotHolds (s s' : Slot) : Prop :=
  s.content.record?.isSome = true →
    s'.generation = s.generation ∧ s'.content.record?.isSome = true ∧ s'.content.ident? = s.content.ident?

theorem SlotStep.holds {m : Mode} {s s' : Slot} (h : SlotStep false m s s') (hm : m.noPasses = false) : SlotHolds s s' := by
  intro hs
  cases h with
  | same => exact ⟨rfl, hs, rfl⟩
  | committed => cases hs
  | used g hc hc' hident => obtain rfl | rfl := hc <;> obtain rfl | rfl := hc' <;> exact ⟨rfl, rfl, congrArg some hident⟩
  | retired g hc => obtain rfl | rfl := hc <;> exact ⟨rfl, rfl, rfl⟩
  | marked => exact ⟨rfl, rfl, rfl⟩
  | @freed g c hc =>
    obtain hdraft | hmode | ⟨hcompleting, -⟩ := hc
    · obtain ⟨x, t, rfl⟩ := Content.isDraft_iff.mp hdraft
      cases hs
    · rw [hm] at hmode
      cases hmode
    · cases hcompleting
  | granted g c a hcompleting => cases hcompleting

theorem TableSteps.holds (h : TableSteps false d d') (hm : d.mc.mode.noPasses = false) (i : SlotNo) :
    SlotHolds (d.slot i) (d'.slot i) := by
  refine h.slots (R := SlotHolds) (fun s hs => ⟨rfl, hs, rfl⟩) (fun s s' s'' h h' hs => ?_) (fun _ _ hstep => hstep.holds hm) i
  obtain ⟨hgen, hrec, hident⟩ := h hs
  obtain ⟨hgen', hrec', hident'⟩ := h' hrec
  exact ⟨hgen'.trans hgen, hrec', hident'.trans hident⟩

theorem TableActs.holds {c : Instr} (h : TableActs c d d') (hc : c ≠ .passCompletion) (hpass : d'.se.pass.isSome = true)
    (hm : d.mc.mode.noPasses = false) (i : SlotNo) :
    SlotHolds (d.slot i) (d'.slot i) := by
  obtain hsame | @⟨e, hsteps, hsame⟩ | @⟨x, t, j, -, hclaim⟩ | ⟨⟨-, hnone⟩, -⟩ := h
  · intro hs
    rw [hsame.slot]
    exact ⟨rfl, hs, rfl⟩
  · rw [decide_eq_false hc] at hsteps
    rw [hsame.slot]
    exact hsteps.holds hm i
  · intro hs
    have hij : i ≠ j := by
      rintro rfl
      have hfree := hclaim.free
      cases hcontent : (d.slot i).content <;> simp_all [Content.isFree, Content.record?]
    rw [hclaim.same.slot, openDraft_slot_other _ _ _ hij]
    exact ⟨rfl, hs, rfl⟩
  · rw [hnone] at hpass
    cases hpass

theorem isSome_record?_of_isUsed {c : Content} (h : c.isUsed = true) : c.record?.isSome = true := by
  obtain ⟨r, rfl | rfl⟩ := Content.isUsed_iff.mp h <;> rfl

/-- A command's pass in flight afterwards is the one before, or the one it has begun. -/
theorem actOf_pass_cases {c : Instr} (hreset : ∀ k m, c ≠ .deviceReset k m) (d : Device) :
    (actOf c d).se.pass = none ∨ ((actOf c d).se.pass = d.se.pass ∧ c ≠ .passCompletion) ∨
      (c = .splitTimerExpiry ∧ d.se.timer.isRunning = true ∧ d.se.pass = none ∧ actOf c d = beginPass d) := by
  by_cases hcompletion : c = .passCompletion
  · subst hcompletion
    left
    simp only [actOf, passCompletion]
    split
    · next p _ =>
      rw [completePass_eq]
      unfold sleepIfPending
      split
      · rfl
      · have hpublished : (publishPass p d).se.pass = none := by
          simp only [publishPass, raiseShortfall, freeSlots_se]
          split <;> rfl
        have hafter (x : List AwardEntry) (y : Handed) (e : Device) :
            (floorCheck p.snap.mode (evaluate y (queueAwards x e))).se.pass = e.se.pass :=
          (((queueAwards_changes x e).mono (qs := [.draws, .parkTimers, .awardQueue] ++ Part.sequencer)).trans
            ((evaluate_sequenced y _).changes.mono.trans (floorCheck_changes _ _).mono)).same .pass
        exact (hafter _ _ _).trans hpublished
    · assumption
  by_cases hsplit : c = .splitTimerExpiry
  · subst hsplit
    by_cases hready : d.se.timer.isRunning = true ∧ d.se.pass = none
    · exact .inr (.inr ⟨rfl, hready.1, hready.2, by simp [actOf, splitExpiry, hready]⟩)
    · refine .inr (.inl ⟨?_, hcompletion⟩)
      have hstands : splitExpiry d = d := if_neg (by simpa using hready)
      rw [actOf, hstands]
  obtain hacts | ⟨-, cause, e, heq, -⟩ := actOf_acts c d hreset
  · refine .inr (.inl ⟨hacts.same .pass ?_, hcompletion⟩)
    cases c with
    | passCompletion => exact absurd rfl hcompletion
    | splitTimerExpiry => exact absurd rfl hsplit
    | _ => exact of_decide_eq_false rfl
  · exact .inl (by rw [heq]; rfl)

theorem takeSnapshot_sound (himage : ImageSound d) (hconfig : ConfigSound d) : (takeSnapshot d).Sound :=
  ⟨himage.1, hconfig.1⟩

theorem beginPass_pass (d : Device) :
    (beginPass d).se.pass = some (computePass (takeSnapshot d) (combine (takeSnapshot d))) := rfl

/-- A pass carries the snapshot that it is computed on. -/
theorem computePass_snap (snap : Snapshot) (b : Combiner) : (computePass snap b).snap = snap := rfl

theorem beginPass_slot (d : Device) (i : SlotNo) :
    (beginPass d).slot i = { d.slot i with content := (d.slot i).content.marked } := by
  have hsame : SameTable (markRetiring d) (beginPass d) :=
    (startSplit_changes _ _).sameTable.trans ((makeCombination_changes _ _).sameTable.trans (withPass_changes _ _).sameTable)
  rw [hsame.slot, markRetiring_slot]

theorem PassSound.actOf (h : PassSound d) (himage : ImageSound d) (hconfig : ConfigSound d) {c : Instr}
    (hreset : ∀ k m, c ≠ .deviceReset k m) : PassSound (actOf c d) := by
  intro p hp
  obtain hnone | ⟨hsame, -⟩ | ⟨-, -, -, hbegun⟩ := actOf_pass_cases hreset d
  · rw [hnone] at hp
    cases hp
  · exact h p (hsame ▸ hp)
  · rw [hbegun, beginPass_pass] at hp
    cases hp
    rw [computePass_snap]
    exact ⟨rfl, takeSnapshot_sound himage hconfig⟩

theorem HeldSound.actOf (h : HeldSound d) (hmode : ModeSound d) {c : Instr} (hreset : ∀ k m, c ≠ .deviceReset k m) :
    HeldSound (actOf c d) := by
  intro p hp i hi
  obtain hnone | ⟨hsame, hc⟩ | ⟨-, -, -, hbegun⟩ := actOf_pass_cases hreset d
  · rw [hnone] at hp
    cases hp
  · have hp' : d.se.pass = some p := hsame ▸ hp
    obtain ⟨-, -, -, hpasses, -⟩ := hmode
    obtain ⟨hgen, hrecord, hident⟩ := h p hp' i hi
    obtain ⟨hgen', hrecord', hident'⟩ := (actOf_table c d hreset).holds hc (by rw [hp]; rfl) (hpasses (by rw [hp']; rfl)) i hrecord
    exact ⟨hgen'.trans hgen, hrecord', hident'.trans hident⟩
  · rw [hbegun, beginPass_pass] at hp
    cases hp
    have hused : (d.slot i).content.isUsed = true := hi
    have hmarked : (d.slot i).content.marked = (d.slot i).content := by
      obtain ⟨r, hr | hr⟩ := Content.isUsed_iff.mp hused <;> rw [hr] <;> rfl
    rw [hbegun, beginPass_slot, hmarked]
    exact ⟨rfl, isSome_record?_of_isUsed hused, rfl⟩

/-! ## The statement -/

/-- Settles O57: CONFIG_WRITE stores what the range admits and keeps the orderings outside STANDBY, CONFIG_DONE checks them;
a pass begins on a sound snapshot and is left alone; no slot of a mode with passes is freed but a DRAFT's or by a
completion. -/
theorem configurationAndPassStayValid : Obligations.ConfigurationAndPassStayValid := by
  intro s t hsound hstep
  obtain ⟨-, -, -, -, -, -, himage, -, hmode, -, -, hconfig, hpass, hheld⟩ := hsound
  obtain hdev | ⟨c, hdev⟩ := dev_of_step hstep <;> rw [hdev]
  · exact ⟨hconfig, hpass, hheld⟩
  by_cases hreset : ∀ k m, c ≠ .deviceReset k m
  case neg =>
    simp only [not_forall, not_not] at hreset
    obtain ⟨k, m, rfl⟩ := hreset
    obtain ⟨-, -, -, -, -, -, -, -, -, -, -, hreset⟩ := deviceReset_sound k m s.dev
    exact hreset
  exact ⟨hconfig.actOf hmode hreset, hpass.actOf himage hconfig hreset, hheld.actOf hmode hreset⟩

end Sys2Proof.Machine
end

section
/-! PROOFS. The Genset Sequencer: what each transition makes of its state (R108 to R121), and its rules, which every command
keeps (R107, R108, R115, R128). -/

namespace Sys2Proof.Machine

-- A default proof `by decide` waits for the kernel: side by side the proofs would ask for a thread each.
set_option Elab.async false

variable {d d' e : Device}

/-! ## The state of the Sequencer after each transition -/

/-- A setpoint sent writes the last setpoint sent alone. -/
theorem sendSetpoint_gs_eq (d : Device) :
    (sendSetpoint d).gs = { d.gs with lastSent := (sendSetpoint d).gs.lastSent } := by
  obtain h | h := sendSetpoint_gs d <;> rw [h]

theorem sendSetpointIfNew_gs_eq (d : Device) :
    (sendSetpointIfNew d).gs = { d.gs with lastSent := (sendSetpointIfNew d).gs.lastSent } := by
  unfold sendSetpointIfNew
  split
  · rfl
  · exact sendSetpoint_gs_eq d

theorem enterOff_gs (d : Device) : (enterOff d).gs = { d.gs with
    state := .off, setpoint := 0, crankTimer := .stopped, warmTimer := .stopped, cooldownTimer := .stopped,
    minOn := .stopped, minOff := .start d.cs.minOffMs, noEngine := false } := rfl

theorem enterLockout_gs (d : Device) : (enterLockout d).gs = { d.gs with
    state := .lockout, setpoint := 0, crankTimer := .stopped, warmTimer := .stopped, cooldownTimer := .stopped,
    minOn := .stopped } := rfl

theorem stopToOff_gs (d : Device) : (stopToOff d).gs = { d.gs with
    seq := d.gs.seq + 1, inFlight := some { kind := .stop, seq := d.gs.seq + 1, resends := 0, timer := ackMs },
    state := .off, setpoint := 0, crankTimer := .stopped, warmTimer := .stopped, cooldownTimer := .stopped,
    minOn := .stopped, minOff := .start d.cs.minOffMs, noEngine := false } := by
  rw [stopToOff, enterOff_gs, issueOrder_gs, issueOrder_cs]

theorem enterCranking_gs (d : Device) : (enterCranking d).gs = { d.gs with
    seq := d.gs.seq + 1, inFlight := some { kind := .start, seq := d.gs.seq + 1, resends := 0, timer := ackMs },
    state := .cranking, crankTimer := .running d.cs.crankMs, noEngine := false } := by
  simp [enterCranking]

theorem enterRunning_gs (d : Device) : (enterRunning d).gs = { d.gs with
    state := .running, warmTimer := .stopped, lastSent := (enterRunning d).gs.lastSent } := by
  have h := sendSetpoint_gs_eq (d.withGs { d.gs with state := .running, warmTimer := .stopped })
  exact h

/-- Entry into WARMUP, which a warm time max of 0 leaves in the same act (R117). -/
theorem enterWarmup_gs (d : Device) : (enterWarmup d).gs = { d.gs with
    state := if d.cs.warmMs = 0 then .running else .warmup,
    warmTimer := if d.cs.warmMs = 0 then .stopped else .running d.cs.warmMs, lastSent := (enterWarmup d).gs.lastSent } := by
  have h := sendSetpoint_gs_eq (d.withGs { d.gs with state := .warmup, warmTimer := .start d.cs.warmMs })
  simp only [enterWarmup, sendSetpoint_cs, Device.withGs_cs]
  by_cases hzero : d.cs.warmMs = 0
  · simp only [hzero, if_true]
    rw [enterRunning_gs, ← hzero, h]
    simp
  · simp only [hzero, if_false]
    rw [h]
    simp [Timer.start, hzero]

theorem engineStarted_gs (d : Device) : (engineStarted d).gs = { d.gs with
    crankTimer := .stopped, crankCount := 0, minOn := .start d.cs.minOnMs, setpoint := 0,
    state := if d.coolantWarm || d.cs.warmMs = 0 then .running else .warmup,
    warmTimer := if d.coolantWarm || d.cs.warmMs = 0 then .stopped else .running d.cs.warmMs,
    lastSent := (engineStarted d).gs.lastSent } := by
  have hwarm (x : Genset) : (d.withGs x).coolantWarm = d.coolantWarm := rfl
  simp only [engineStarted, hwarm]
  cases d.coolantWarm with
  | true =>
    simp only [if_true, Bool.true_or]
    rw [enterRunning_gs]
    rfl
  | false =>
    simp only [Bool.false_eq_true, if_false, Bool.false_or, decide_eq_true_eq]
    rw [enterWarmup_gs]
    rfl

/-- A failed start: the count is raised, and at the crank limit LOCKOUT is entered (R115). -/
theorem startFailed_gs (d : Device) : (startFailed d).gs =
    if (d.gs.crankCount : Int) + 1 = d.cs.crankLimit then
      { d.gs with
        seq := d.gs.seq + 1, inFlight := some { kind := .stop, seq := d.gs.seq + 1, resends := 0, timer := ackMs },
        crankCount := d.gs.crankCount + 1, state := .lockout, setpoint := 0, crankTimer := .stopped,
        warmTimer := .stopped, cooldownTimer := .stopped, minOn := .stopped }
    else
      { d.gs with
        seq := d.gs.seq + 1, inFlight := some { kind := .stop, seq := d.gs.seq + 1, resends := 0, timer := ackMs },
        crankCount := d.gs.crankCount + 1, state := .off, setpoint := 0, crankTimer := .stopped, warmTimer := .stopped,
        cooldownTimer := .stopped, minOn := .stopped, minOff := .start d.cs.minOffMs, noEngine := false } := by
  simp only [startFailed, issueOrder_gs, issueOrder_cs, Device.withGs_cs, Device.withGs_gs, Nat.cast_add, Nat.cast_one]
  split
  · rw [raiseGensetFault_gs, enterLockout_gs]
    rfl
  · rw [enterOff_gs]
    simp

/-- Entry into COOLDOWN, which a time of 0 leaves in the same act by a STOP (R118). -/
theorem enterCooldown_gs (ms : Nat) (d : Device) : (enterCooldown ms d).gs =
    if ms = 0 then
      { d.gs with
        seq := d.gs.seq + 1, inFlight := some { kind := .stop, seq := d.gs.seq + 1, resends := 0, timer := ackMs },
        state := .off, setpoint := 0, crankTimer := .stopped, warmTimer := .stopped, cooldownTimer := .stopped,
        minOn := .stopped, minOff := .start d.cs.minOffMs, noEngine := false,
        lastSent := (enterCooldown ms d).gs.lastSent }
    else
      { d.gs with
        state := .cooldown, warmTimer := .stopped, minOn := .stopped, setpoint := 0, cooldownTimer := .running ms,
        lastSent := (enterCooldown ms d).gs.lastSent } := by
  have h := sendSetpointIfNew_gs_eq
    (d.withGs { d.gs with state := .cooldown, warmTimer := .stopped, minOn := .stopped, setpoint := 0 })
  simp only [enterCooldown]
  split
  · rw [stopToOff_gs, h]
    simp
  · rw [Device.withGs_gs, h]
    rfl

theorem stall_gs (d : Device) : (stall d).gs = (enterOff d).gs := by
  rw [stall, enterOff_gs, enterOff_gs, raiseGensetFault_gs, raiseGensetFault_cs]

theorem takeSetpoint_gs (h : Handed) (d : Device) : (takeSetpoint h d).gs =
    { d.gs with setpoint := h.gset, lastSent := (takeSetpoint h d).gs.lastSent } :=
  sendSetpointIfNew_gs_eq (d.withGs { d.gs with setpoint := h.gset })

/-! ## The rules of the Sequencer -/

/-- The crank failure count below the limit but in LOCKOUT, where it equals it, and each timer in its own state alone. -/
def Genset.Rules (limit : Int) (g : Genset) : Prop :=
  (g.crankCount : Int) ≤ limit ∧ (g.state = .lockout ↔ (g.crankCount : Int) = limit) ∧
    (g.crankTimer.isRunning → g.state = .cranking) ∧ (g.warmTimer.isRunning → g.state = .warmup) ∧
    (g.cooldownTimer.isRunning → g.state = .cooldown)

/-- The rules of the Sequencer under a crank limit of its range. -/
def Device.GensetOk (d : Device) : Prop := 1 ≤ d.cs.crankLimit ∧ d.gs.Rules d.cs.crankLimit

theorem gensetSound_iff : GensetSound d ↔ d.GensetOk ∧ (d.mc.mode ≠ .drive → d.gs.state.atRest = true) := by
  constructor
  · rintro ⟨hlimit, hle, hlock, hrest, hcrank, hwarm, hcool⟩
    exact ⟨⟨hlimit, hle, hlock, hcrank, hwarm, hcool⟩, hrest⟩
  · rintro ⟨⟨hlimit, hle, hlock, hcrank, hwarm, hcool⟩, hrest⟩
    exact ⟨hlimit, hle, hlock, hrest, hcrank, hwarm, hcool⟩

variable {limit : Int} {g g' : Genset}

theorem Genset.Rules.count_lt (h : g.Rules limit) (hstate : g.state ≠ .lockout) : (g.crankCount : Int) < limit := by
  obtain ⟨hle, hlock, -⟩ := h
  have : (g.crankCount : Int) ≠ limit := fun heq => hstate (hlock.mpr heq)
  omega

/-- The rules see the state, the count and the three timers alone. -/
theorem Genset.Rules.congr (h : g.Rules limit) (hstate : g'.state = g.state) (hcount : g'.crankCount = g.crankCount)
    (hcrank : g'.crankTimer = g.crankTimer) (hwarm : g'.warmTimer = g.warmTimer)
    (hcool : g'.cooldownTimer = g.cooldownTimer) : g'.Rules limit := by
  rwa [Rules, hstate, hcount, hcrank, hwarm, hcool]

/-- In a state other than LOCKOUT the rules hold with a count below the limit and the timers of other states stopped. -/
theorem Genset.Rules.of_state (hcount : (g.crankCount : Int) < limit) (hstate : g.state ≠ .lockout)
    (hcrank : g.state = .cranking ∨ g.crankTimer = .stopped) (hwarm : g.state = .warmup ∨ g.warmTimer = .stopped)
    (hcool : g.state = .cooldown ∨ g.cooldownTimer = .stopped) : g.Rules limit := by
  have htimer {t : Timer} {p : Prop} (h : p ∨ t = .stopped) : t.isRunning → p := by
    rintro hrun
    obtain hp | rfl := h
    · exact hp
    · cases hrun
  exact ⟨hcount.le, ⟨fun h => absurd h hstate, fun h => absurd h hcount.ne⟩, htimer hcrank, htimer hwarm, htimer hcool⟩

theorem Genset.Rules.stopped (h : g.Rules limit) {s : GensetState} (hs : g.state = s) :
    (s ≠ .cranking → g.crankTimer = .stopped) ∧ (s ≠ .warmup → g.warmTimer = .stopped) ∧
      (s ≠ .cooldown → g.cooldownTimer = .stopped) := by
  obtain ⟨-, -, hcrank, hwarm, hcool⟩ := h
  have htimer {t : Timer} {p : Prop} (h : t.isRunning → p) (hp : ¬p) : t = .stopped := by
    cases t with
    | stopped => rfl
    | running n => exact absurd (h rfl) hp
  exact ⟨fun hne => htimer hcrank (hs ▸ hne), fun hne => htimer hwarm (hs ▸ hne), fun hne => htimer hcool (hs ▸ hne)⟩

/-! ## The transitions keep the rules -/

/-- The rules kept, and outside DRIVE the genset at rest. -/
def KeepsGenset (d d' : Device) : Prop :=
  d.GensetOk → d'.GensetOk ∧ (d.mc.mode ≠ .drive → d.gs.state.atRest = true → d'.gs.state.atRest = true)

theorem KeepsGenset.refl (d : Device) : KeepsGenset d d := fun h => ⟨h, fun _ hr => hr⟩

theorem KeepsGenset.of_eq (hgs : d'.gs = d.gs) (hcs : d'.cs = d.cs) : KeepsGenset d d' := by
  intro h
  rw [Device.GensetOk, hgs, hcs]
  exact ⟨h, fun _ hr => hr⟩

theorem Changes.keepsGenset {ps : List Part} (h : Changes ps d d') (hgs : .genset ∉ ps := by decide)
    (hcs : .config ∉ ps := by decide) : KeepsGenset d d' := .of_eq (h.same .genset hgs) (h.same .config hcs)

theorem KeepsGenset.trans (h : KeepsGenset d e) (h' : KeepsGenset e d') (hmode : e.mc.mode = d.mc.mode) : KeepsGenset d d' := by
  intro hok
  obtain ⟨hoke, hreste⟩ := h hok
  obtain ⟨hok', hrest'⟩ := h' hoke
  exact ⟨hok', fun hm hr => hrest' (hmode ▸ hm) (hreste hm hr)⟩

theorem KeepsGenset.ite {p : Prop} [Decidable p] {x y : Device} (hx : p → KeepsGenset d x) (hy : ¬p → KeepsGenset d y) :
    KeepsGenset d (if p then x else y) := by
  split
  · exact hx ‹_›
  · exact hy ‹_›

/-- A change of the Sequencer from a state in which the genset is not at rest. -/
theorem KeepsGenset.of_busy (hcs : d'.cs = d.cs) (hbusy : d.gs.state.atRest = false)
    (hrules : d.gs.Rules d.cs.crankLimit → d'.gs.Rules d.cs.crankLimit) : KeepsGenset d d' := by
  intro h
  rw [Device.GensetOk, hcs]
  exact ⟨⟨h.1, hrules h.2⟩, fun _ hr => by rw [hbusy] at hr; cases hr⟩

theorem not_lockout_of_busy {s : GensetState} (h : s.atRest = false) : s ≠ .lockout := by
  rintro rfl
  cases h

theorem stopToOff_keepsGenset (hbusy : d.gs.state.atRest = false) : KeepsGenset d (stopToOff d) := by
  refine .of_busy (stopToOff_cs d) hbusy fun h => ?_
  rw [stopToOff_gs]
  exact .of_state (h.count_lt (not_lockout_of_busy hbusy)) nofun (.inr rfl) (.inr rfl) (.inr rfl)

theorem enterCooldown_keepsGenset (ms : Nat) (hstate : d.gs.state = .warmup ∨ d.gs.state = .running) :
    KeepsGenset d (enterCooldown ms d) := by
  have hbusy : d.gs.state.atRest = false := by obtain h | h := hstate <;> rw [h] <;> rfl
  refine .of_busy (enterCooldown_cs ms d) hbusy fun h => ?_
  have hcount := h.count_lt (not_lockout_of_busy hbusy)
  rw [enterCooldown_gs]
  split
  · exact .of_state hcount nofun (.inr rfl) (.inr rfl) (.inr rfl)
  · refine .of_state hcount nofun (.inr ?_) (.inr rfl) (.inl rfl)
    exact (h.stopped rfl).1 (by obtain hs | hs := hstate <;> rw [hs] <;> nofun)

theorem enterRunning_keepsGenset (hstate : d.gs.state = .warmup) : KeepsGenset d (enterRunning d) := by
  have hbusy : d.gs.state.atRest = false := by rw [hstate]; rfl
  refine .of_busy (enterRunning_cs d) hbusy fun h => ?_
  obtain ⟨hcrank, -, hcool⟩ := h.stopped hstate
  rw [enterRunning_gs]
  exact .of_state (h.count_lt (not_lockout_of_busy hbusy)) nofun (.inr (hcrank nofun)) (.inr rfl) (.inr (hcool nofun))

theorem takeSetpoint_keepsGenset (x : Handed) (d : Device) : KeepsGenset d (takeSetpoint x d) := by
  have hgs := takeSetpoint_gs x d
  intro h
  rw [Device.GensetOk, show (takeSetpoint x d).cs = d.cs from (takeSetpoint_sequenced x d).changes.same .config, hgs]
  exact ⟨h, fun _ hr => hr⟩

theorem enterCranking_keepsGenset (hstate : d.gs.state = .off) (hdrive : d.mc.mode = .drive) :
    KeepsGenset d (enterCranking d) := by
  intro h
  obtain ⟨hlimit, hrules⟩ := h
  obtain ⟨-, hwarm, hcool⟩ := hrules.stopped hstate
  rw [Device.GensetOk, enterCranking_cs, enterCranking_gs]
  refine ⟨⟨hlimit, .of_state (hrules.count_lt (by rw [hstate]; nofun)) nofun (.inl rfl) (.inr (hwarm nofun))
    (.inr (hcool nofun))⟩, fun hm => absurd hdrive hm⟩

theorem evaluateOff_keepsGenset (x : Handed) (hstate : d.gs.state = .off) : KeepsGenset d (evaluateOff x d) := by
  refine .ite (fun hwish => .ite (fun _ => enterCranking_keepsGenset hstate ?_) fun _ => .ite (fun _ => .refl d) fun _ => ?_)
    fun _ => .refl d
  · simp only [startWish, Bool.and_eq_true, decide_eq_true_eq] at hwish
    exact hwish.1.1.1.1.2
  · intro h
    exact ⟨h, fun _ hr => hr⟩

theorem evaluate_keepsGenset (x : Handed) (d : Device) : KeepsGenset d (evaluate x d) := by
  unfold evaluate
  split
  case h_1 h => exact evaluateOff_keepsGenset x h
  case h_2 h | h_5 h => exact .ite (fun _ => stopToOff_keepsGenset (by rw [h]; rfl)) fun _ => .refl d
  case h_3 h =>
    have hcool (ms : Nat) := enterCooldown_keepsGenset (d := d) ms (.inl h)
    exact .ite (fun _ => hcool _) fun _ => .ite (fun _ => hcool _) fun _ => .ite (fun _ => hcool _) fun _ =>
      .ite (fun _ => enterRunning_keepsGenset h) fun _ => takeSetpoint_keepsGenset x d
  case h_4 h =>
    have hcool (ms : Nat) := enterCooldown_keepsGenset (d := d) ms (.inr h)
    exact .ite (fun _ => hcool _) fun _ => .ite (fun _ => hcool _) fun _ => .ite (fun _ => hcool _) fun _ =>
      takeSetpoint_keepsGenset x d
  case h_6 => exact .refl d

theorem modeChangeStop_keepsGenset (d : Device) : KeepsGenset d (modeChangeStop d) := by
  unfold modeChangeStop
  split
  case h_1 h | h_2 h => exact stopToOff_keepsGenset (by rw [h]; rfl)
  case h_3 h => exact enterCooldown_keepsGenset 0 (.inl h)
  case h_4 h => exact enterCooldown_keepsGenset 0 (.inr h)
  all_goals exact .refl d

/-- After a mode-change stop the genset is at rest (R120). -/
theorem modeChangeStop_atRest (d : Device) : (modeChangeStop d).gs.state.atRest = true := by
  unfold modeChangeStop
  split
  any_goals rw [stopToOff_gs]; rfl
  any_goals rw [enterCooldown_gs]; rfl
  all_goals simp [*, GensetState.atRest]

theorem startFailed_keepsGenset (hstate : d.gs.state = .cranking) : KeepsGenset d (startFailed d) := by
  have hbusy : d.gs.state.atRest = false := by rw [hstate]; rfl
  refine .of_busy (startFailed_cs d) hbusy fun h => ?_
  have hcount := h.count_lt (not_lockout_of_busy hbusy)
  rw [startFailed_gs]
  split
  · next hlimit => exact ⟨by simp; omega, ⟨fun _ => by simpa using hlimit, fun _ => rfl⟩, nofun, nofun, nofun⟩
  · exact .of_state (by simp; omega) nofun (.inr rfl) (.inr rfl) (.inr rfl)

theorem engineStarted_keepsGenset (hstate : d.gs.state = .cranking) (hlimit : 1 ≤ d.cs.crankLimit) :
    KeepsGenset d (engineStarted d) := by
  refine .of_busy (engineStarted_cs d) (by rw [hstate]; rfl) fun h => ?_
  obtain ⟨-, -, hcool⟩ := h.stopped hstate
  rw [engineStarted_gs]
  split
  · exact .of_state (by simp; omega) nofun (.inr rfl) (.inr rfl) (.inr (hcool nofun))
  · exact .of_state (by simp; omega) nofun (.inr rfl) (.inl rfl) (.inr (hcool nofun))

theorem stall_keepsGenset (hbusy : d.gs.state.atRest = false) : KeepsGenset d (stall d) := by
  refine .of_busy (stall_cs d) hbusy fun h => ?_
  rw [stall_gs, enterOff_gs]
  exact .of_state (h.count_lt (not_lockout_of_busy hbusy)) nofun (.inr rfl) (.inr rfl) (.inr rfl)

/-- An order issued leaves the state, the count and the timers. -/
theorem issueOrder_keepsGenset (k : OrderKind) (d : Device) : KeepsGenset d (issueOrder k d) := by
  intro h
  rw [Device.GensetOk, issueOrder_cs, issueOrder_gs]
  exact ⟨⟨h.1, h.2.congr rfl rfl rfl rfl rfl⟩, fun _ hr => hr⟩

theorem actOnReport_keepsGenset (x : EngineState) (d : Device) : KeepsGenset d (actOnReport x d) := by
  by_cases hlimit : 1 ≤ d.cs.crankLimit
  case neg => exact fun hok => absurd hok.1 hlimit
  have hunexpected : KeepsGenset d (issueOrder .stop (raiseGensetFault .unexpectedRun d)) :=
    .trans (.of_eq (raiseGensetFault_gs _ d) (raiseGensetFault_cs _ d)) (issueOrder_keepsGenset _ _) (by simp)
  unfold actOnReport
  repeat' split
  any_goals exact .refl d
  any_goals exact hunexpected
  any_goals exact startFailed_keepsGenset ‹_›
  any_goals exact engineStarted_keepsGenset ‹_› hlimit
  all_goals exact stall_keepsGenset (by simp [*, GensetState.atRest])

theorem withInFlight_keepsGenset (x : Option InFlight) (d : Device) :
    KeepsGenset d (d.withGs { d.gs with inFlight := x }) := fun h => ⟨h, fun _ hr => hr⟩

theorem takeReport_keepsGenset (echo : Byte) (x : EngineState) (d : Device) : KeepsGenset d (takeReport echo x d) := by
  unfold takeReport
  split
  · exact actOnReport_keepsGenset x d
  · exact .ite (fun _ => (withInFlight_keepsGenset none d).trans (actOnReport_keepsGenset x _) rfl) fun _ => .refl d

theorem deliverReport_keepsGenset (f : RxFrame) (d : Device) : KeepsGenset d (deliverReport f d) := by
  unfold deliverReport
  repeat' split
  · exact takeReport_keepsGenset _ _ d
  all_goals exact .refl d

theorem engineReport_keepsGenset (d : Device) : KeepsGenset d (engineReport d) := by
  unfold engineReport
  split
  · exact (withRx_changes d _).keepsGenset.trans (deliverReport_keepsGenset _ _) rfl
  · exact .refl d

theorem loseEnginePeer_keepsGenset (d : Device) : KeepsGenset d (loseEnginePeer d) := by
  have hlost (h : d.gs.state.atRest = false) : KeepsGenset d
      ((raiseGensetFault .noEngine (enterOff (d.withGs { d.gs with inFlight := none }))).withGs
        { (raiseGensetFault .noEngine (enterOff (d.withGs { d.gs with inFlight := none }))).gs with noEngine := true }) := by
    refine .of_busy (by simp) h fun hrules => ?_
    rw [Device.withGs_gs, raiseGensetFault_gs, enterOff_gs]
    exact .of_state (hrules.count_lt (not_lockout_of_busy h)) nofun (.inr rfl) (.inr rfl) (.inr rfl)
  simp only [loseEnginePeer]
  split
  case h_5 | h_6 => exact withInFlight_keepsGenset none d
  all_goals
    rename_i h
    exact hlost (by rw [show d.gs.state = _ from h]; rfl)

theorem crankExpiry_keepsGenset (d : Device) : KeepsGenset d (crankExpiry d) := by
  intro hok
  exact KeepsGenset.ite (fun h => startFailed_keepsGenset (hok.2.2.2.1 h)) (fun _ => .refl d) hok

theorem warmExpiry_keepsGenset (d : Device) : KeepsGenset d (warmExpiry d) := by
  intro hok
  exact KeepsGenset.ite (fun h => enterRunning_keepsGenset (hok.2.2.2.2.1 h)) (fun _ => .refl d) hok

theorem cooldownExpiry_keepsGenset (d : Device) : KeepsGenset d (cooldownExpiry d) := by
  intro hok
  exact KeepsGenset.ite (fun h => stopToOff_keepsGenset (by rw [hok.2.2.2.2.2 h]; rfl)) (fun _ => .refl d) hok

theorem minOnExpiry_keepsGenset (d : Device) : KeepsGenset d (minOnExpiry d) :=
  .ite (fun _ h => ⟨h, fun _ hr => hr⟩) fun _ => .refl d

theorem minOffExpiry_keepsGenset (d : Device) : KeepsGenset d (minOffExpiry d) :=
  .ite (fun _ h => ⟨h, fun _ hr => hr⟩) fun _ => .refl d

theorem ackExpiry_keepsGenset (d : Device) : KeepsGenset d (ackExpiry d) := by
  unfold ackExpiry
  split
  · exact .refl d
  · refine .ite (fun _ => (withInFlight_keepsGenset _ d).trans (.of_eq (handOrderAgain_gs _ _) (handOrderAgain_cs _ _)) rfl)
      fun _ hok => ?_
    obtain ⟨hlimit, -⟩ := hok
    rw [Device.GensetOk, raiseGensetFault_gs, raiseGensetFault_cs, Device.withGs_gs, Device.withGs_cs, enterLockout_cs,
      enterLockout_gs]
    have hcount : ((d.cs.crankLimit.toNat : Nat) : Int) = d.cs.crankLimit := Int.toNat_of_nonneg (by omega)
    exact ⟨⟨hlimit, hcount.le, ⟨fun _ => hcount, fun _ => rfl⟩, nofun, nofun, nofun⟩, fun _ _ => rfl⟩

theorem applyForce_keepsGenset (f : Force) (d : Device) : KeepsGenset d (applyForce f d) := by
  have hforced : KeepsGenset d (d.withGs { d.gs with force := f }) := fun h => ⟨h, fun _ hr => hr⟩
  simp only [applyForce]
  repeat' split
  any_goals exact hforced
  · rename_i h
    exact hforced.trans (stopToOff_keepsGenset (by rw [h]; rfl)) rfl
  · exact hforced.trans (enterCooldown_keepsGenset _ (.inl ‹_›)) rfl
  · exact hforced.trans (enterCooldown_keepsGenset _ (.inr ‹_›)) rfl

theorem clearLockout_keepsGenset (d : Device) : KeepsGenset d (clearLockout d) := by
  refine .ite (fun _ hok => ?_) fun _ => .refl d
  obtain ⟨hlimit, -⟩ := hok
  rw [Device.GensetOk, enterOff_cs, enterOff_gs]
  exact ⟨⟨hlimit, .of_state (by simp; omega) nofun (.inr rfl) (.inr rfl) (.inr rfl)⟩, fun _ _ => rfl⟩

theorem gensetBusRestart_keepsGenset (d : Device) : KeepsGenset d (gensetBusRestart d) := by
  have hunknown : KeepsGenset d (d.withGs { d.gs with lastSent := none }) := fun h => ⟨h, fun _ hr => hr⟩
  simp only [gensetBusRestart]
  split
  · exact (hunknown.trans (withInFlight_keepsGenset _ _) rfl).trans (.of_eq (handOrderAgain_gs _ _) (handOrderAgain_cs _ _)) rfl
  · exact hunknown

theorem Genset.Rules.asleep (h : g.Rules limit) : g.asleep.Rules limit := ⟨h.1, h.2.1, nofun, nofun, nofun⟩

end Sys2Proof.Machine
end

section
/-! PROOFS. The rules of the modes (R80, R129, R138), of the genset beside them (R107), and of the empty table (R23, R139)
after every command. -/

namespace Sys2Proof.Machine

-- A default proof `by decide` waits for the kernel: side by side the proofs would ask for a thread each.
set_option Elab.async false

variable {d d' e : Device}

/-! ## The Mode Controller -/

theorem Changes.mc {ps : List Part} (h : Changes ps d d') (hmode : .mode ∉ ps := by decide) (hkey : .key ∉ ps := by decide)
    (htimers : .parkTimers ∉ ps := by decide) (hpending : .sleepPending ∉ ps := by decide) : d'.mc = d.mc := by
  have hmode' : d'.mc.mode = d.mc.mode := h.same .mode hmode
  obtain ⟨hraw, hkey', hdeglitch⟩ := h.same .key hkey
  obtain ⟨hpark, hfloor⟩ := h.same .parkTimers htimers
  have hpending' : d'.mc.sleepPending = d.mc.sleepPending := h.same .sleepPending hpending
  cases hm : d.mc
  cases hm' : d'.mc
  simp_all

theorem ModeSound.congr (h : ModeSound d) (hmc : d'.mc = d.mc) (htimer : d'.se.timer = d.se.timer)
    (hpass : d'.se.pass = d.se.pass) : ModeSound d' := by
  unfold ModeSound
  rw [hmc, htimer, hpass]
  exact h

/-- A change of other parts than the Mode Controller's, the split timer and the pass. -/
theorem Changes.modeSound {ps : List Part} (h : Changes ps d d') (hd : ModeSound d) (hmode : .mode ∉ ps := by decide)
    (hkey : .key ∉ ps := by decide) (htimers : .parkTimers ∉ ps := by decide) (hpending : .sleepPending ∉ ps := by decide)
    (htimer : .splitTimer ∉ ps := by decide) (hpass : .pass ∉ ps := by decide) : ModeSound d' :=
  hd.congr (h.mc hmode hkey htimers hpending) (h.same .splitTimer htimer) (h.same .pass hpass)

theorem sleepEntry_modeSound (c : SleepCause) (hkey : d.mc.key = false)
    (hdeglitch : d.mc.deglitchTimer.isRunning ↔ d.mc.rawKey ≠ d.mc.key) : ModeSound (sleepEntry c d) :=
  ⟨nofun, nofun, by simp [sleepEntry, SplitEngine.cleared, Timer.isRunning, Mode.noPasses], nofun, nofun, hdeglitch, nofun,
    fun _ => hkey⟩

/-- A mode with passes left by no timer but the split timer. -/
theorem driveEntry_modeSound (c : ModeCause) (hkey : d.mc.key = true)
    (hdeglitch : d.mc.deglitchTimer.isRunning ↔ d.mc.rawKey ≠ d.mc.key) : ModeSound (driveEntry c d) := by
  have hentered : ModeSound (startSplit 10
      (d.withMc { d.mc with mode := .drive, parkTimer := .stopped, floorTimer := .stopped, sleepPending := none })) :=
    ⟨nofun, nofun, by simp [startSplit, Timer.isRunning, Mode.noPasses], fun _ => rfl, nofun, hdeglitch, fun _ => hkey,
      fun h => by simp [startSplit] at h⟩
  exact (((cancelSleep_changes _ _).mono (qs := [.replyFifo, .modes, .notice .link])).trans
    (broadcastMode_changes _ _ _).mono).modeSound hentered

theorem parkEntry_modeSound (hkey : d.mc.key = false) (htimer : d.se.timer.isRunning = true) (hpending : d.mc.sleepPending = none)
    (hdeglitch : d.mc.deglitchTimer.isRunning ↔ d.mc.rawKey ≠ d.mc.key) : ModeSound (parkEntry d) := by
  have hentered (x : AccessUnit) (t : Timer) : ModeSound (((modeChangeStop d).withRau x).withMc
      { (modeChangeStop d).mc with mode := .park, parkTimer := t, floorTimer := .stopped }) := by
    refine ⟨fun _ => rfl, nofun, ?_, fun _ => rfl, ?_, ?_, nofun, fun _ => ?_⟩
    · simp [htimer, Mode.noPasses]
    · simp [hpending]
    · simpa using hdeglitch
    · simpa using hkey
  exact (broadcastMode_changes _ _ _).modeSound (hentered _ _)

theorem wake_modeSound (c : ModeCause) (hpark : d.mc.parkTimer.isRunning = false)
    (hfloor : d.mc.floorTimer.isRunning = false) (htimer : d.se.timer.isRunning = false) (hpass : d.se.pass = none)
    (hpending : d.mc.sleepPending = none) (hdeglitch : d.mc.deglitchTimer.isRunning ↔ d.mc.rawKey ≠ d.mc.key) :
    ModeSound (wake c d) := by
  have hentered : ModeSound ((d.withMc { d.mc with mode := .standby }).withVbp
      { d.vbp with ctrl := .active, busSilence := .stopped }) := by
    refine ⟨?_, ?_, ?_, ?_, ?_, hdeglitch, nofun, fun h => by simp at h⟩
    · simp [hpark]
    · simp [hfloor]
    · simp [htimer, Mode.noPasses]
    · simp [hpass]
    · simp [hpending]
  exact (broadcastMode_changes _ _ _).modeSound hentered

/-- What the rules of the modes say of SLEEP: no timer runs, and nothing is in flight or pending. -/
theorem ModeSound.asleep (h : ModeSound d) (hsleep : d.mc.mode = .sleep) :
    d.mc.parkTimer.isRunning = false ∧ d.mc.floorTimer.isRunning = false ∧ d.se.timer.isRunning = false ∧
      d.se.pass = none ∧ d.mc.sleepPending = none := by
  obtain ⟨hpark, hfloor, htimer, hpass, hpending, -⟩ := h
  rw [hsleep] at hpark hfloor htimer hpass hpending
  refine ⟨?_, ?_, ?_, ?_, ?_⟩
  · simpa using hpark
  · simpa using hfloor
  · simpa [Mode.noPasses] using htimer
  · simpa [Mode.noPasses] using hpass
  · simpa using hpending

theorem ModeSound.wake (h : ModeSound d) (c : ModeCause) (hsleep : d.mc.mode = .sleep) : ModeSound (wake c d) := by
  obtain ⟨hpark, hfloor, htimer, hpass, hpending⟩ := h.asleep hsleep
  exact wake_modeSound c hpark hfloor htimer hpass hpending h.2.2.2.2.2.1

theorem ModeSound.takeHead (h : ModeSound d) {mine : Link → SpiRequest → Bool} {act : SpiRequest → Device → Taken}
    (hact : ∀ f e, ModeSound e → ModeSound (act f e).dev) : ModeSound (takeHead mine act d) := by
  unfold Machine.takeHead
  repeat' split
  · exact h
  · exact (finish_changes _ _).modeSound (hact _ (dropHead d) h)
  · exact h

theorem startDriveAct_modeSound (f : SpiRequest) (h : ModeSound d) : ModeSound (startDriveAct f d).dev := by
  unfold startDriveAct
  split
  · split
    · next hready => exact driveEntry_modeSound .request (Bool.and_eq_true_iff.mp hready).1 h.2.2.2.2.2.1
    · exact h
  all_goals exact h

theorem sleepCause_modeSound (c : SleepCause) (h : ModeSound d) (hpark : d.mc.mode = .park) : ModeSound (sleepCause c d) := by
  obtain ⟨hparkTimer, hfloor, htimer, hpass, hpending, hdeglitch, hdrive, hkey⟩ := h
  unfold sleepCause
  split
  · exact sleepEntry_modeSound c (hkey (.inl hpark)) hdeglitch
  · next p hp => exact ⟨hparkTimer, hfloor, htimer, hpass, fun _ => ⟨hpark, by simp [hp]⟩, hdeglitch, hdrive, hkey⟩

theorem sleepAct_modeSound (f : SpiRequest) (h : ModeSound d) : ModeSound (sleepAct f d).dev := by
  unfold sleepAct
  repeat' split
  any_goals exact h
  exact sleepCause_modeSound _ h ‹_›

theorem parkExpiry_modeSound (h : ModeSound d) : ModeSound (parkExpiry d) := by
  obtain ⟨hparkTimer, hfloor, hrest⟩ := h
  have hstopped : ModeSound (d.withMc { d.mc with parkTimer := .stopped }) := ⟨nofun, hfloor, hrest⟩
  unfold parkExpiry
  split
  · dsimp only
    split
    · exact sleepCause_modeSound _ hstopped ‹_›
    · exact hstopped
  · exact ⟨hparkTimer, hfloor, hrest⟩

theorem floorExpiry_modeSound (h : ModeSound d) : ModeSound (floorExpiry d) := by
  obtain ⟨hparkTimer, hfloor, hrest⟩ := h
  have hstopped : ModeSound (d.withMc { d.mc with floorTimer := .stopped }) := ⟨hparkTimer, nofun, hrest⟩
  unfold floorExpiry
  split
  · dsimp only
    split
    · exact sleepCause_modeSound _ hstopped ‹_›
    · exact hstopped
  · exact ⟨hparkTimer, hfloor, hrest⟩

theorem keyChange_modeSound (level : Bool) (h : ModeSound d) : ModeSound (keyChange level d) := by
  unfold keyChange
  split
  · exact h
  · obtain ⟨hparkTimer, hfloor, htimer, hpass, hpending, -, hkeys⟩ := h
    refine ⟨hparkTimer, hfloor, htimer, hpass, hpending, ?_, hkeys⟩
    by_cases hl : level = d.mc.key <;> simp [hl, Timer.isRunning]

theorem deglitchExpiry_modeSound (h : ModeSound d) : ModeSound (deglitchExpiry d) := by
  unfold deglitchExpiry
  split
  case isFalse => exact h
  obtain ⟨hparkTimer, hfloor, htimer, hpass, hpending, -, -, -⟩ := h
  have hdeglitch : (Timer.stopped.isRunning = true) ↔ d.mc.rawKey ≠ d.mc.rawKey := by simp [Timer.isRunning]
  unfold keyEvent
  split
  case h_1 hdrive hoff =>
    have hdrive' : d.mc.mode = .drive := hdrive
    refine parkEntry_modeSound hoff ?_ ?_ hdeglitch
    · exact htimer.mpr (by rw [hdrive']; rfl)
    · simpa [hdrive'] using hpending
  case h_2 hpark hon => exact driveEntry_modeSound .key hon hdeglitch
  case h_3 hsleep hon =>
    obtain ⟨hpark', hfloor', htimer', hpass', hpending'⟩ := ModeSound.asleep
      (d := d.withMc { d.mc with key := false, rawKey := false, deglitchTimer := .stopped })
      ⟨hparkTimer, hfloor, htimer, hpass, hpending, by simp [Timer.isRunning], fun hd => by simp_all, fun _ => rfl⟩ hsleep
    exact wake_modeSound .key hpark' hfloor' htimer' hpass' hpending' hdeglitch
  case h_4 hnot1 hnot2 hnot3 =>
    refine ⟨hparkTimer, hfloor, htimer, hpass, hpending, hdeglitch, fun hd => ?_, fun hd => ?_⟩
    · cases hraw : d.mc.rawKey with
      | true => rfl
      | false => exact absurd hraw (hnot1 hd)
    · cases hraw : d.mc.rawKey with
      | false => rfl
      | true =>
        obtain hd | hd := hd
        · exact absurd hraw (hnot2 hd)
        · exact absurd hraw (hnot3 hd)

theorem chipSelectFalling_modeSound (h : ModeSound d) : ModeSound (chipSelectFalling d) := by
  unfold chipSelectFalling
  split
  · exact h
  · have hwoken : ModeSound (if decide (d.mc.mode = .sleep) = true then wake .link d else d) := by
      split
      · next hsleep => exact h.wake .link (of_decide_eq_true hsleep)
      · exact h
    exact hwoken.congr rfl rfl rfl

theorem frameReceived_modeSound (f : CanFrame) (h : ModeSound d) : ModeSound (frameReceived f d) := by
  unfold frameReceived
  split
  · exact h
  · exact h
  all_goals
    split
    · exact h
    · refine (bufferFrame_changes _ _ _).modeSound ?_
      split
      · exact h.wake .bus ‹_›
      · exact h

theorem beginPass_timer (d : Device) : (beginPass d).se.timer = .running d.mc.mode.period :=
  ((makeCombination_changes (takeSnapshot d) _).mono.trans (withPass_changes _ _).mono :
    Changes [.combiner, .notice .supplyFault, .pass] (startSplit d.mc.mode.period (markRetiring d)) (beginPass d)).same .splitTimer

theorem floorCheck_timers (m : Mode) (d : Device) : (floorCheck m d).mc.parkTimer = d.mc.parkTimer ∧
    ((floorCheck m d).mc.floorTimer.isRunning → d.mc.floorTimer.isRunning ∨ d.mc.mode = .park) := by
  unfold floorCheck
  split
  · next hcheck => exact ⟨rfl, fun _ => .inr (of_decide_eq_true (Bool.and_eq_true_iff.mp hcheck).2)⟩
  · exact ⟨rfl, .inl⟩

/-- The floor timer check is the last act of a completion, on the Mode Controller as it was. -/
theorem completed_eq_floorCheck (p : Pass) (d : Device) :
    ∃ e, completed p d = floorCheck p.snap.mode e ∧ e.mc = d.mc := by
  have hqueued (x : List AwardEntry) (e : Device) : (queueAwards x e).mc = e.mc := (queueAwards_changes x e).mc
  exact ⟨_, rfl, by rw [evaluate_mc, hqueued, publishPass_mc]⟩

theorem splitExpiry_modeSound (h : ModeSound d) : ModeSound (splitExpiry d) := by
  unfold splitExpiry
  split
  case isFalse => exact h
  next hready =>
  obtain ⟨hparkTimer, hfloor, htimer, -, hpending, hrest⟩ := h
  obtain ⟨hrunning, hnone⟩ := Bool.and_eq_true_iff.mp hready
  have hpasses : d.mc.mode.noPasses = false := htimer.mp hrunning
  have hmc : (beginPass d).mc = d.mc := (beginPass_changes d).mc
  unfold ModeSound
  rw [hmc, beginPass_timer]
  refine ⟨hparkTimer, hfloor, ⟨fun _ => hpasses, fun _ => rfl⟩, fun _ => hpasses, fun hsome => ?_, hrest⟩
  have hinflight := (hpending hsome).2
  rw [Option.isNone_iff_eq_none] at hnone
  simp [hnone] at hinflight

theorem passCompletion_modeSound (h : ModeSound d) : ModeSound (passCompletion d) := by
  unfold passCompletion
  split
  case h_2 => exact h
  next p hp =>
  obtain ⟨hparkTimer, hfloor, htimer, hpass, hpending, hdeglitch, hdrive, hkey⟩ := h
  have hchanges := completed_changes p d
  obtain ⟨hraw', hkey', hdeglitch'⟩ := hchanges.same .key
  have hpending' := completed_sleepPending p d
  rw [completePass_eq]
  unfold sleepIfPending
  split
  · next c hc =>
    have hpark : d.mc.mode = .park := (hpending (by rw [← hpending', hc]; rfl)).1
    exact sleepEntry_modeSound c (hkey' ▸ hkey (.inl hpark)) (by rw [hraw', hkey', hdeglitch']; exact hdeglitch)
  · next hnone =>
    have hmode' : (completed p d).mc.mode = d.mc.mode := hchanges.same .mode
    have hse : (completed p d).se.timer = d.se.timer := hchanges.same .splitTimer
    have hpass' : (completed p d).se.pass = none := by
      obtain hdone | ⟨-, hne⟩ | ⟨hne, -⟩ := actOf_pass_cases (c := .passCompletion) nofun d
      · have hact : actOf .passCompletion d = completed p d := by
          simp only [actOf, passCompletion, hp]
          rw [completePass_eq, sleepIfPending, hnone]
        rwa [hact] at hdone
      · exact absurd rfl hne
      · cases hne
    have hpark' : (completed p d).mc.parkTimer = d.mc.parkTimer ∧
        ((completed p d).mc.floorTimer.isRunning → d.mc.mode = .park) := by
      obtain ⟨e, heq, hmc⟩ := completed_eq_floorCheck p d
      obtain ⟨hsame, hrun⟩ := floorCheck_timers p.snap.mode e
      rw [heq]
      rw [hmc] at hsame hrun
      exact ⟨hsame, fun h => (hrun h).elim hfloor id⟩
    unfold ModeSound
    rw [hpark'.1, hmode', hse, hpass', hnone, hraw', hkey', hdeglitch']
    exact ⟨hparkTimer, hpark'.2, htimer, nofun, nofun, hdeglitch, hdrive, hkey⟩

theorem ModeSound.actOf (h : ModeSound d) {c : Instr} (hreset : ∀ k m, c ≠ .deviceReset k m) : ModeSound (actOf c d) := by
  have hother (hsleeps : canSleep c = false) (hmode : .mode ∉ touches c) (hkey : .key ∉ touches c)
      (htimers : .parkTimers ∉ touches c) (hpending : .sleepPending ∉ touches c) (htimer : .splitTimer ∉ touches c)
      (hpass : .pass ∉ touches c) : ModeSound (Machine.actOf c d) := by
    obtain hacts | ⟨hcan, -⟩ := actOf_acts c d hreset
    · exact hacts.modeSound h hmode hkey htimers hpending htimer hpass
    · simp [hsleeps] at hcan
  cases c with
  | deviceReset k m => exact absurd rfl (hreset k m)
  | startDrive => exact h.takeHead fun f _ he => startDriveAct_modeSound f he
  | sleep => exact h.takeHead fun f _ he => sleepAct_modeSound f he
  | chipSelectFalling => exact chipSelectFalling_modeSound h
  | frameReceived f => exact frameReceived_modeSound f h
  | keyLevelChange level => exact keyChange_modeSound level h
  | deglitchTimerExpiry => exact deglitchExpiry_modeSound h
  | parkTimerExpiry => exact parkExpiry_modeSound h
  | floorTimerExpiry => exact floorExpiry_modeSound h
  | splitTimerExpiry => exact splitExpiry_modeSound h
  | passCompletion => exact passCompletion_modeSound h
  | _ =>
    exact hother rfl (of_decide_eq_false rfl) (of_decide_eq_false rfl) (of_decide_eq_false rfl) (of_decide_eq_false rfl)
      (of_decide_eq_false rfl) (of_decide_eq_false rfl)

theorem ModeSound.tick (h : ModeSound d) : ModeSound (tick d) := by
  simpa only [ModeSound, Machine.tick, ModeController.tick, Timer.tick_isRunning] using h

/-! ## The genset -/

/-- A crank limit written adjusts the count so that the rules hold under it, the genset at rest (R128). -/
theorem adjustCrankCount_rules {g : Genset} {limit v : Int} (h : g.Rules limit) (hrest : g.state.atRest = true)
    (hv : 1 ≤ v) : (adjustCrankCount v g).Rules v ∧ (adjustCrankCount v g).state = g.state := by
  have hnat : ((v.toNat : Nat) : Int) = v := Int.toNat_of_nonneg (by omega)
  cases hstate : g.state with
  | lockout =>
    obtain ⟨hcrank, hwarm, hcool⟩ := h.stopped hstate
    simp only [adjustCrankCount, hstate]
    refine ⟨⟨hnat.le, by simp [hnat], ?_, ?_, ?_⟩, trivial⟩
    · simp [hcrank nofun, Timer.isRunning]
    · simp [hwarm nofun, Timer.isRunning]
    · simp [hcool nofun, Timer.isRunning]
  | off =>
    obtain ⟨hcrank, hwarm, hcool⟩ := h.stopped hstate
    simp only [adjustCrankCount, hstate]
    split
    · exact ⟨.of_state (by simp; omega) (by simp) (.inr (hcrank nofun)) (.inr (hwarm nofun)) (.inr (hcool nofun)), rfl⟩
    · exact ⟨.of_state (by omega) (by simp [hstate]) (.inr (hcrank nofun)) (.inr (hwarm nofun)) (.inr (hcool nofun)), hstate⟩
  | cranking | warmup | running | cooldown => simp [hstate, GensetState.atRest] at hrest

theorem storeField_gensetSound (h : GensetSound d) {f : ConfigField} {v : Int} (hv : f.range.admits v = true)
    (hstored : d.mc.mode = .standby ∨ f.live = true) : GensetSound (storeField f v d) := by
  obtain ⟨hok, hrest⟩ := gensetSound_iff.mp h
  have hmc : (storeField f v d).mc = d.mc := rfl
  rw [gensetSound_iff, hmc, Device.GensetOk, storeField_gs, storeField_cs]
  by_cases hf : f = .crankLimit
  · subst hf
    have hstandby : d.mc.mode = .standby := hstored.resolve_right nofun
    have hrange : 1 ≤ v ∧ v ≤ 5 := of_decide_eq_true hv
    obtain ⟨hrules, hstate⟩ := adjustCrankCount_rules hok.2 (hrest (by rw [hstandby]; nofun)) hrange.1
    rw [if_pos hstandby]
    exact ⟨⟨hrange.1, hrules⟩, fun hne => (congrArg GensetState.atRest hstate).trans (hrest hne)⟩
  · have hlimit : (d.cs.set f v).crankLimit = d.cs.crankLimit := by
      cases f <;> first | rfl | exact absurd rfl hf
    have hgs : adjustForField f v d.gs = d.gs := by
      cases f <;> first | rfl | exact absurd rfl hf
    rw [hgs]
    refine ⟨?_, hrest⟩
    split
    · exact hlimit.symm ▸ hok
    · exact hlimit.symm ▸ hok

theorem configWriteAct_gensetSound (q : SpiRequest) (h : GensetSound d) : GensetSound (configWriteAct q d).dev := by
  unfold configWriteAct
  split
  · next f _ =>
    obtain ⟨-, -, hact⟩ | ⟨-, -, -, -, hact⟩ | ⟨hstored, hact⟩ :=
      writeField_cases f (halfOf (byteAt q.payload 1) (byteAt q.payload 2)) d <;> rw [hact]
    · exact h
    · exact h
    · exact storeField_gensetSound h (f.bring_admits _) (hstored.imp_right And.left)
  · exact h

theorem GensetSound.of_keeps (h : GensetSound d) (hkeeps : KeepsGenset d d')
    (hmode : d'.mc.mode ≠ .drive → d.mc.mode ≠ .drive) : GensetSound d' := by
  obtain ⟨hok, hrest⟩ := gensetSound_iff.mp h
  obtain ⟨hok', hrest'⟩ := hkeeps hok
  exact gensetSound_iff.mpr ⟨hok', fun hm => hrest' (hmode hm) (hrest (hmode hm))⟩

theorem KeepsGenset.takeHead {mine : Link → SpiRequest → Bool} {act : SpiRequest → Device → Taken}
    (hact : ∀ f e, KeepsGenset e (act f e).dev) (hmc : ∀ f e, (act f e).dev.mc.mode = e.mc.mode) (d : Device) :
    KeepsGenset d (takeHead mine act d) := by
  unfold Machine.takeHead
  repeat' split
  · exact .refl d
  · exact ((dropHead_changes d).keepsGenset.trans (hact _ _) rfl).trans (finish_changes _ _).keepsGenset (hmc _ _)
  · exact .refl d

theorem hello_keepsGenset (d : Device) : KeepsGenset d (hello d) := by
  cases hf : d.vbp.rx.find? isHelloFrame with
  | none => simpa [hello, hf] using KeepsGenset.refl d
  | some f =>
    cases hroom : d.txRoom with
    | false => simpa [hello, hf, hroom] using KeepsGenset.refl d
    | true =>
      have hrole (role : Role) (e : Device) : KeepsGenset e (roleTaken role e) :=
        .ite (fun _ h => ⟨h, fun _ hr => hr⟩) fun _ => .refl e
      have hmc (role : Role) (e : Device) : (roleTaken role e).mc = e.mc := (roleTaken_changes role e).mc
      have happly (n : Nat) (o : HelloOutcome) (e : Device) : KeepsGenset e (applyHello n o e) := by
        have hchanged (r : List RosterEntry) (role : Role) :
            KeepsGenset e (roleTaken role (raiseRoster n (e.withVbp { e.vbp with roster := r }))) :=
          KeepsGenset.trans (e := raiseRoster n (e.withVbp { e.vbp with roster := r })) (.of_eq rfl rfl) (hrole role _) rfl
        cases o with
        | refused r | keep => exact .refl e
        | enrol role => exact hchanged _ _
        | change role =>
          simp only [applyHello, changeRole]
          split
          · exact (hchanged _ _).trans (loseEnginePeer_keepsGenset _) (by rw [hmc]; rfl)
          · exact hchanged _ _
      have hanswered (e : Device) (g : TxFrame) : Changes [.draws, .replies, .notice .link] e (handFrame .reply g e.draw) :=
        (Changes.draw (ps := [.draws, .replies, .notice .link]) e).trans (.handFrame .reply _ _ (by decide))
      rw [hello_of_found hf hroom]
      exact ((happly f.node _ (d.withVbp { d.vbp with rx := d.vbp.rx.eraseP isHelloFrame })).trans
        (hanswered _ _).keepsGenset ((applyHello_changes _ _ _).same .mode))

theorem peerLossPurge_keepsGenset (n : Nat) (d : Device) : KeepsGenset d (peerLossPurge n d) := by
  cases hwaits : d.rau.peerLossSets.contains n with
  | false => rw [peerLossPurge_of_not_waiting hwaits]; exact .refl d
  | true =>
    have hdropped : Changes ([.rau, .roster, .notice .roster] ++ Part.records) d (dropPeer n d) :=
      ((withRau_changes _ d).mono.trans (endRecords_changes _ _).mono).trans
        ((withRosterAwards_changes _ _ _).mono.trans (Changes.raise .roster _ _))
    rw [peerLossPurge_of_waiting hwaits]
    exact .ite (fun _ => hdropped.keepsGenset.trans (loseEnginePeer_keepsGenset _) (hdropped.same .mode))
      fun _ => hdropped.keepsGenset

theorem completed_keepsGenset (p : Pass) (d : Device) : KeepsGenset d (completed p d) := by
  have hbefore (x : List AwardEntry) : Changes (.draws :: Part.publication) d (queueAwards x (publishPass p d)) :=
    (publishPass_changes p d).mono.trans (queueAwards_changes x _).mono
  exact ((hbefore _).keepsGenset.trans (evaluate_keepsGenset _ _) ((hbefore _).same .mode)).trans
    (floorCheck_changes _ _).keepsGenset (by rw [evaluate_mc]; exact (hbefore _).same .mode)

theorem sleepEntry_gensetSound (c : SleepCause) (hok : d.GensetOk) (hrest : d.gs.state.atRest = true) :
    GensetSound (sleepEntry c d) :=
  gensetSound_iff.mpr ⟨⟨hok.1, hok.2.asleep⟩, fun _ => hrest⟩

/-- Every command but a configuration write keeps the rules of the genset on the way to a SLEEP entry that it may make. -/
theorem sleepsThrough_gensetSound {c : Instr} (h : GensetSound d) (hs : SleepsThrough c d d')
    (hc : c ≠ .passCompletion) : GensetSound d' := by
  obtain ⟨hcan, cause, e, rfl, hchanges, hfrom⟩ := hs
  obtain ⟨hok, hrest⟩ := gensetSound_iff.mp h
  have hpark : d.mc.mode = .park := by
    obtain ⟨hpark, -⟩ | ⟨heq, -⟩ := hfrom
    · exact hpark
    · exact absurd heq hc
  have hkeeps : KeepsGenset d e := by
    cases c with
    | sleep | parkTimerExpiry | floorTimerExpiry => exact hchanges.keepsGenset
    | passCompletion => exact absurd rfl hc
    | _ => cases hcan
  obtain ⟨hok', hrest'⟩ := hkeeps hok
  have hne : d.mc.mode ≠ .drive := by rw [hpark]; nofun
  exact sleepEntry_gensetSound cause hok' (hrest' hne (hrest hne))

theorem passCompletion_gensetSound (h : GensetSound d) (hmode : ModeSound d) : GensetSound (passCompletion d) := by
  unfold passCompletion
  split
  case h_2 => exact h
  next p hp =>
  rw [completePass_eq]
  unfold sleepIfPending
  split
  · next c hc =>
    obtain ⟨hok, hrest⟩ := gensetSound_iff.mp h
    obtain ⟨hok', hrest'⟩ := completed_keepsGenset p d hok
    have hpark : d.mc.mode = .park := (hmode.2.2.2.2.1 (by rw [← completed_sleepPending p d, hc]; rfl)).1
    have hne : d.mc.mode ≠ .drive := by rw [hpark]; nofun
    exact sleepEntry_gensetSound c hok' (hrest' hne (hrest hne))
  · have hsame : (completed p d).mc.mode = d.mc.mode := (completed_changes p d).same .mode
    exact h.of_keeps (completed_keepsGenset p d) (by rw [hsame]; exact id)

theorem deglitchExpiry_gensetSound (h : GensetSound d) : GensetSound (deglitchExpiry d) := by
  unfold deglitchExpiry
  split
  case isFalse => exact h
  have hkeyed (x : ModeController) : KeepsGenset d (d.withMc x) := .of_eq rfl rfl
  unfold keyEvent
  split
  case h_1 =>
    have hstopped (x : ModeController) : (modeChangeStop (d.withMc x)).GensetOk :=
      (modeChangeStop_keepsGenset (d.withMc x) (gensetSound_iff.mp h).1).1
    have hafter (e : Device) (x : AccessUnit) (y : ModeController) :
        (broadcastMode .park .key ((e.withRau x).withMc y)).gs = e.gs ∧
          (broadcastMode .park .key ((e.withRau x).withMc y)).cs = e.cs := by
      simp [broadcastMode]
    rw [gensetSound_iff, Device.GensetOk, parkEntry]
    dsimp only
    rw [(hafter _ _ _).1, (hafter _ _ _).2]
    exact ⟨hstopped _, fun _ => modeChangeStop_atRest _⟩
  case h_2 hpark _ =>
    have hne : d.mc.mode ≠ .drive := by rw [show d.mc.mode = .park from hpark]; nofun
    have hentered (x : ModeController) : KeepsGenset (d.withMc x) (driveEntry .key (d.withMc x)) :=
      (driveEntry_changes _ _).keepsGenset
    exact h.of_keeps (fun hok => hentered _ (hkeyed _ hok).1) fun _ => hne
  case h_3 hsleep _ =>
    have hne : d.mc.mode ≠ .drive := by rw [show d.mc.mode = .sleep from hsleep]; nofun
    have hwoken (x : ModeController) : KeepsGenset (d.withMc x) (wake .key (d.withMc x)) := (wake_changes _ _).keepsGenset
    exact h.of_keeps (fun hok => hwoken _ (hkeyed _ hok).1) fun _ => hne
  case h_4 => exact h

theorem GensetSound.actOf (h : GensetSound d) (hmode : ModeSound d) {c : Instr} (hreset : ∀ k m, c ≠ .deviceReset k m) :
    GensetSound (actOf c d) := by
  have hmoved (hc : c ≠ .deglitchTimerExpiry) : (Machine.actOf c d).mc.mode ≠ .drive → d.mc.mode ≠ .drive := by
    intro hne hdrive
    have hchanged : (Machine.actOf c d).mc.mode ≠ d.mc.mode := by rwa [hdrive]
    obtain ⟨-, hfrom, -⟩ := modesFollowTheirGraph { dev := d, pending := [] } { dev := Machine.actOf c d, pending := [] } c hmode
      (exec_eq c _) hreset hchanged
    exact hc (hfrom hdrive).2.1
  have hother (hc : c ≠ .passCompletion ∧ c ≠ .deglitchTimerExpiry) (hgs : .genset ∉ touches c) (hcs : .config ∉ touches c) :
      GensetSound (Machine.actOf c d) := by
    obtain hacts | hsleeps := actOf_acts c d hreset
    · exact h.of_keeps (hacts.keepsGenset hgs hcs) (hmoved hc.2)
    · exact sleepsThrough_gensetSound h hsleeps hc.1
  have htaken {k : ReqKind} {act : SpiRequest → Device → Taken} (hc : c ≠ .deglitchTimerExpiry)
      (hact : ∀ f e, KeepsGenset e (act f e).dev) (hmc : ∀ f e, (act f e).dev.mc.mode = e.mc.mode)
      (heq : Machine.actOf c d = takeRequest k act d) : GensetSound (Machine.actOf c d) :=
    h.of_keeps (heq ▸ KeepsGenset.takeHead hact hmc d) (hmoved hc)
  cases c with
  | deviceReset k m => exact absurd rfl (hreset k m)
  | deglitchTimerExpiry => exact deglitchExpiry_gensetSound h
  | passCompletion => exact passCompletion_gensetSound h hmode
  | configWrite =>
    change GensetSound (takeHead _ configWriteAct d)
    unfold takeHead
    repeat' split
    · exact h
    · exact (configWriteAct_gensetSound _ (d := dropHead d) h).of_keeps (finish_changes _ _).keepsGenset
        (by rw [finish_mode]; exact id)
    · exact h
  | configDone =>
    refine htaken nofun (fun f e => ?_) (fun f e => (configDoneAct_changes f e).same .mode) rfl
    obtain ⟨-, -, -, hact⟩ | ⟨-, -, hact⟩ | ⟨-, -, -, hact⟩ | ⟨-, hact⟩ := configDoneAct_cases f e <;> rw [hact]
    · exact fun hok => ⟨hok, fun _ hr => hr⟩
    all_goals exact .refl e
  | forceGenset =>
    refine htaken nofun (fun f e => ?_) (fun f e => (forceGensetAct_changes f e).same .mode) rfl
    unfold forceGensetAct
    split
    · exact applyForce_keepsGenset _ e
    · exact .refl e
  | clearLockout =>
    exact htaken nofun (fun f e => clearLockout_keepsGenset e) (fun f e => (clearLockoutAct_changes f e).same .mode) rfl
  | busRestart =>
    refine htaken nofun (fun f e => ?_) (fun f e => (busRestartAct_changes f e).same .mode) rfl
    unfold busRestartAct
    split
    · exact .refl e
    · exact (reinitialise_changes e).keepsGenset.trans (gensetBusRestart_keepsGenset _) rfl
  | hello => exact h.of_keeps (hello_keepsGenset d) (hmoved nofun)
  | engineReport => exact h.of_keeps (engineReport_keepsGenset d) (hmoved nofun)
  | peerLossPurgeSet n => exact h.of_keeps (peerLossPurge_keepsGenset n d) (hmoved nofun)
  | crankTimerExpiry => exact h.of_keeps (crankExpiry_keepsGenset d) (hmoved nofun)
  | warmTimerExpiry => exact h.of_keeps (warmExpiry_keepsGenset d) (hmoved nofun)
  | cooldownTimerExpiry => exact h.of_keeps (cooldownExpiry_keepsGenset d) (hmoved nofun)
  | minOnTimerExpiry => exact h.of_keeps (minOnExpiry_keepsGenset d) (hmoved nofun)
  | minOffTimerExpiry => exact h.of_keeps (minOffExpiry_keepsGenset d) (hmoved nofun)
  | acknowledgementTimerExpiry => exact h.of_keeps (ackExpiry_keepsGenset d) (hmoved nofun)
  | _ => exact hother ⟨nofun, nofun⟩ (of_decide_eq_false rfl) (of_decide_eq_false rfl)

theorem GensetSound.tick (h : GensetSound d) : GensetSound (tick d) := by
  simpa only [GensetSound, Machine.tick, Genset.tick, ModeController.tick, Timer.tick_isRunning] using h

end Sys2Proof.Machine
end

section
/-! PROOFS. The empty table of STANDBY and SLEEP after every command, and the rules of modes, genset and empty table together
(R23, R139, R144). -/

namespace Sys2Proof.Machine

-- A default proof `by decide` waits for the kernel: side by side the proofs would ask for a thread each.
set_option Elab.async false

variable {d d' : Device}

/-! ## The empty table -/

/-- Every slot is FREE and every Edit Buffer closed (R23). -/
def Device.TableEmpty (d : Device) : Prop := (∀ i : SlotNo, (d.slot i).content.isFree = true) ∧ ∀ b : BankNo, d.buffer b = none

/-- Nothing waits for the device, and no peer is enrolled (R139, R144). -/
def Device.Quiet (d : Device) : Prop := d.sl.requests = [] ∧ d.vbp.rx = [] ∧ d.vbp.roster = [] ∧ d.vbp.awardQueue = []

theorem emptySound_iff : EmptySound d ↔ (d.mc.mode.noPasses = true → d.TableEmpty) ∧ (d.mc.mode = .sleep → d.Quiet) := Iff.rfl

theorem Content.isFree_iff {c : Content} : c.isFree = true ↔ c.ident? = none := by
  cases c <;> simp [isFree, ident?]

theorem Device.HasNoRecords.tableEmpty (h : d.HasNoRecords) : d.TableEmpty :=
  ⟨fun i => by rw [h.slot]; rfl, h.buffer⟩

/-- Slots that are all FREE leave no bank a record to edit. -/
theorem BufferSound.tableEmpty (h : BufferSound d) (hfree : ∀ i : SlotNo, (d.slot i).content.isFree = true) : d.TableEmpty := by
  refine ⟨hfree, fun k => Option.eq_none_iff_forall_ne_some.mpr fun e he => ?_⟩
  obtain ⟨-, hedited⟩ := (bufferSound_iff.mp h).1 k e he
  have hslot := hfree e.slot
  cases hcontent : (d.slot e.slot).content <;> simp_all [Content.isFree, Content.isDraft, Content.isUsed]

/-- In a mode without passes no command but a CLAIM, which is refused there, gives a slot an identity. -/
theorem Device.TableEmpty.act (h : d.TableEmpty) (hbuffer : BufferSound d) (hmode : d.mc.mode.noPasses = true) {c : Instr}
    (hacts : TableActs c d d') : d'.TableEmpty := by
  refine (hbuffer.act hacts).tableEmpty fun i => ?_
  obtain hsame | @⟨e, hsteps, hsame⟩ | @⟨x, t, i, -, hclaim⟩ | ⟨-, hnone⟩ := hacts
  · rw [hsame.slot]
    exact h.1 i
  · rw [hsame.slot, Content.isFree_iff, Option.eq_none_iff_forall_ne_some]
    intro x hx
    have hbefore := (hsteps.keeps i).ident x hx
    rw [Content.isFree_iff.mp (h.1 i)] at hbefore
    cases hbefore
  · rw [hclaim.passes] at hmode
    cases hmode
  · exact hnone.tableEmpty.1 i

/-! ## The quiet of SLEEP -/

theorem sleepEntry_quiet (c : SleepCause) (d : Device) : (sleepEntry c d).Quiet := ⟨rfl, rfl, rfl, rfl⟩

theorem Changes.quiet {ps : List Part} (h : Changes ps d d') (hd : d.Quiet) (hrequests : .requests ∉ ps := by decide)
    (hrx : .rx ∉ ps := by decide) (hroster : .roster ∉ ps := by decide)
    (hawards : d'.vbp.awardQueue.Sublist d.vbp.awardQueue) : d'.Quiet := by
  obtain ⟨hq, hr, hro, ha⟩ := hd
  rw [ha] at hawards
  exact ⟨Eq.trans (h.same .requests hrequests) hq, Eq.trans (h.same .rx hrx) hr, Eq.trans (h.same .roster hroster) hro,
    List.sublist_nil.mp hawards⟩

theorem takeHead_of_quiet (h : d.Quiet) (mine : Link → SpiRequest → Bool) (act : SpiRequest → Device → Taken) :
    takeHead mine act d = d := by
  rw [takeHead, h.1]

theorem takeRecord_of_quiet (h : d.Quiet) (r : RauRow) : takeRecord r r.act d = d := by
  obtain ⟨hrequests, hrx, -⟩ := h
  have hoffer : rauOffer d = none := by
    cases hturn : d.rau.turn <;> simp [rauOffer, hturn, linkOffer, busOffer, hrequests, hrx]
  exact takeRecord_none r r.act d fun o ho => by simp [hoffer] at ho

/-- Whatever is clocked in SLEEP is judged a frame error and enters no FIFO (R162). -/
theorem chipSelectRising_of_sleep (mosi : List Byte) (hsleep : d.mc.mode = .sleep) :
    (chipSelectRising mosi d).sl.requests = d.sl.requests := by
  unfold chipSelectRising
  split
  · obtain ⟨hsettled, -⟩ := Link.settle_fits mosi.length d.sl
    simpa [judge, hsleep, Link.receive] using hsettled
  · rfl

/-- A frame that does not wake the device is not seen by its port. -/
theorem frameReceived_quiet {f : CanFrame} (h : d.Quiet) (hsleep : d.mc.mode = .sleep)
    (hsleep' : (frameReceived f d).mc.mode = .sleep) : (frameReceived f d).Quiet := by
  have hwoken (n : Nat) : (bufferFrame n f.data (wake .bus d)).mc.mode = .standby :=
    Eq.trans ((bufferFrame_changes n f.data _).same .mode) (wake_mode _ d)
  unfold frameReceived at hsleep' ⊢
  split
  · exact h
  · exact h
  all_goals
    next hctrl =>
    rw [hctrl] at hsleep'
    dsimp only at hsleep'
    split
    · exact h
    · next n hn =>
      rw [hn, if_pos hsleep] at hsleep'
      cases (hwoken n).symm.trans hsleep'

theorem quiet_of_sleep {c : Instr} (h : d.Quiet) (hsleep : d.mc.mode = .sleep) (hpass : d.se.pass = none)
    (hreset : ∀ k m, c ≠ .deviceReset k m) (hsleep' : (actOf c d).mc.mode = .sleep) : (actOf c d).Quiet := by
  have hother (hawards : .awardQueue ∉ touches c) (hrequests : .requests ∉ touches c) (hrx : .rx ∉ touches c)
      (hroster : .roster ∉ touches c) : (actOf c d).Quiet := by
    obtain hacts | ⟨-, cause, e, heq, -⟩ := actOf_acts c d hreset
    · exact hacts.quiet h hrequests hrx hroster (by rw [show _ = d.vbp.awardQueue from hacts.same .awardQueue hawards])
    · exact heq ▸ sleepEntry_quiet cause e
  have hsame (heq : actOf c d = d) : (actOf c d).Quiet := heq.symm ▸ h
  have hnoEntry (n : Nat) : d.entryOf n = none := by simp [Device.entryOf, h.2.2.1]
  cases c with
  | deviceReset k m => exact absurd rfl (hreset k m)
  | claim | amend | amendCommit | commit | renew | renewWithValue | release | purge | query | queryField | lookup
  | unknownKindRecordRequest => exact hsame (takeRecord_of_quiet h _)
  | configWrite | configRead | configDone | startDrive | sleep | forceGenset | clearLockout | noticeRead | resultRead
  | rosterRead | linkReset | busRestart | mirror => exact hsame (takeHead_of_quiet h _ _)
  | mirroredFrame | linkBadRequest =>
    refine hsame ?_
    simp only [Machine.actOf, mirroredFrame, linkBadRequest, takeHead_of_quiet h]
  | hello => exact hsame (by simp [Machine.actOf, hello, h.2.1])
  | engineReport => exact hsame (by simp [Machine.actOf, engineReport, h.2.1])
  | chipSelectRising mosi =>
    have hchanges := chipSelectRising_changes mosi d
    obtain ⟨hrequests, hrx, hroster, hawards⟩ := h
    exact ⟨(chipSelectRising_of_sleep mosi hsleep).trans hrequests, Eq.trans (hchanges.same .rx) hrx,
      Eq.trans (hchanges.same .roster) hroster, Eq.trans (hchanges.same .awardQueue) hawards⟩
  | frameReceived f => exact frameReceived_quiet h hsleep hsleep'
  | silenceExpiry n => exact hsame (by simp [Machine.actOf, silenceExpiry, hnoEntry])
  | passCompletion => exact hsame (by simp [Machine.actOf, passCompletion, hpass])
  | awardToTransmitQueue => exact hsame (by simp [Machine.actOf, awardToQueue, h.2.2.2])
  | editTimerExpiry b => exact (editExpiryOf_changes b d).quiet h (hawards := editExpiryOf_awards b d)
  | parkEntryPurgeSet => exact (parkEntryPurge_changes d).quiet h (hawards := (parkEntryPurge_table (b := false) d).awards)
  | peerLossPurgeSet n => 
    obtain ⟨hrequests, hrx, hroster, hawards⟩ := h
    have hchanges := peerLossPurge_changes n d
    refine ⟨Eq.trans (hchanges.same .requests) hrequests, Eq.trans (hchanges.same .rx) hrx, ?_,
      List.sublist_nil.mp (hawards ▸ peerLossPurge_awards n d)⟩
    obtain heq | heq := peerLossPurge_roster n d
    · exact heq.trans hroster
    · exact heq.trans (by rw [hroster, List.filter_nil])
  | _ => exact hother (of_decide_eq_false rfl) (of_decide_eq_false rfl) (of_decide_eq_false rfl) (of_decide_eq_false rfl)

/-! ## The statement -/

/-- A mode without passes is entered from SLEEP by a wake, or from PARK by a SLEEP entry. -/
theorem EmptySound.actOf (h : EmptySound d) (hmode : ModeSound d) (hbuffer : BufferSound d) {c : Instr}
    (hreset : ∀ k m, c ≠ .deviceReset k m) : EmptySound (actOf c d) := by
  obtain ⟨hempty, hquiet⟩ := emptySound_iff.mp h
  have hacts := actOf_table c d hreset
  have hstays (hsame : (Machine.actOf c d).mc.mode = d.mc.mode) : EmptySound (Machine.actOf c d) := by
    refine emptySound_iff.mpr ⟨fun hm => ?_, fun hm => ?_⟩
    · rw [hsame] at hm
      exact (hempty hm).act hbuffer hm hacts
    · have hsleep : d.mc.mode = .sleep := hsame ▸ hm
      obtain ⟨-, -, -, hpass, -⟩ := hmode.asleep hsleep
      exact quiet_of_sleep (hquiet hsleep) hsleep hpass hreset hm
  obtain hchanges | ⟨-, cause, e, heq, -⟩ := actOf_acts c d hreset
  case inr =>
    rw [heq]
    exact emptySound_iff.mpr ⟨fun _ => (sleepEntry_hasNoRecords cause e).tableEmpty, fun _ => sleepEntry_quiet cause e⟩
  by_cases hsame : (Machine.actOf c d).mc.mode = d.mc.mode
  · exact hstays hsame
  have hmoved (m : Mode) (hm : (Machine.actOf c d).mc.mode = m) (hpasses : m.noPasses = false) : EmptySound (Machine.actOf c d) := by
    rw [emptySound_iff, hm]
    exact ⟨fun h => absurd h (by simp [hpasses]), fun h => absurd hpasses (by rw [h]; nofun)⟩
  obtain ⟨hstandby, hdrive, hpark, hsleep⟩ := modesFollowTheirGraph { dev := d, pending := [] }
    { dev := Machine.actOf c d, pending := [] } c hmode (exec_eq c _) hreset hsame
  cases hd : d.mc.mode with
  | standby => exact hmoved .drive (hstandby hd).1 rfl
  | drive => exact hmoved .park (hdrive hd).1 rfl
  | park =>
    obtain ⟨hm, -⟩ | ⟨-, hc⟩ := hpark hd
    · exact hmoved .drive hm rfl
    · obtain rfl | rfl | rfl | rfl := hc <;> exact absurd (hchanges.same .mode) hsame
  | sleep =>
    have hm : (Machine.actOf c d).mc.mode = .standby := (hsleep hd).1
    have hpasses : d.mc.mode.noPasses = true := by rw [hd]; rfl
    exact emptySound_iff.mpr ⟨fun _ => (hempty hpasses).act hbuffer hpasses hacts, fun h => by rw [hm] at h; cases h⟩

theorem EmptySound.tick (h : EmptySound d) : EmptySound (tick d) := by
  obtain ⟨hempty, hquiet⟩ := emptySound_iff.mp h
  refine emptySound_iff.mpr ⟨fun hm => ?_, fun hm => ?_⟩
  · obtain ⟨hfree, hclosed⟩ := hempty hm
    exact ⟨hfree, fun k => by rw [tick_buffer, hclosed]; rfl⟩
  · obtain ⟨hrequests, hrx, hroster, hawards⟩ := hquiet hm
    exact ⟨hrequests, hrx, Eq.trans (congrArg (List.map RosterEntry.tick) hroster) rfl, hawards⟩

/-- Settles O56: the rules of each part hold after every act on the device and after 1 ms. -/
theorem modeAndGensetRulesKept : Obligations.ModeAndGensetRulesKept := by
  intro s t hsound hstep
  obtain ⟨-, -, -, hbuffer, -, -, -, -, hmode, hempty, hgenset, -⟩ := hsound
  obtain hdev | ⟨c, hdev⟩ := dev_of_step hstep <;> rw [hdev]
  · exact ⟨hmode.tick, hgenset.tick, hempty.tick⟩
  by_cases hreset : ∀ k m, c ≠ .deviceReset k m
  case neg =>
    simp only [not_forall, not_not] at hreset
    obtain ⟨k, m, rfl⟩ := hreset
    obtain ⟨-, -, -, -, -, -, -, -, hmode', hempty', hgenset', -⟩ := deviceReset_sound k m s.dev
    exact ⟨hmode', hgenset', hempty'⟩
  exact ⟨hmode.actOf hreset, hgenset.actOf hmode hreset, hempty.actOf hmode hbuffer hreset⟩

end Sys2Proof.Machine
end

section
/-! PROOFS. The Vehicle Bus Port: frames out and in, failed attempts, silence and the ways back to ACTIVE (chapter 8). -/

namespace Sys2Proof.Machine

-- A default proof `by decide` waits for the kernel: side by side the proofs would ask for a thread each.
set_option Elab.async false

variable {d d' : Device}

/-! ## Silence (R151, R152) -/

/-- Settles O50: by the state of the node's roster entry. -/
theorem silenceEndsInPurgeSet : Obligations.SilenceEndsInPurgeSet := by
  intro s n e hentry
  refine ⟨fun hjoined => ⟨?_, ?_⟩, fun hsilent => ⟨?_, actOf (.peerDeclaredLost n) s.dev, exec_eq _ s, fun hwaits => ?_, fun hnew => ?_⟩⟩
  · simp [exec_eq, actOf, silenceExpiry, hentry, hjoined, raiseRoster, raise, NoticeSet.set, NoticeSet.get, mapEntry,
      Device.withSl, Device.withVbp]
  · simp [exec_eq, actOf, peerDeclaredLost, hentry, hjoined]
  · simp [exec_eq, actOf, silenceExpiry, hentry, hsilent]
  · simp [actOf, peerDeclaredLost, hentry, hwaits]
  · simp [actOf, peerDeclaredLost, hentry, hsilent, hnew, Device.withRau]

/-! ## Frames out (R154 to R156) -/

theorem TxQueue.set_get_same (q : TxQueue) (c : TxClass) (l : List TxFrame) : (q.set c l).get c = l := by
  cases c <;> rfl

theorem TxQueue.set_get_other (q : TxQueue) {c c' : TxClass} (h : c' ≠ c) (l : List TxFrame) : (q.set c l).get c' = q.get c' := by
  cases c <;> cases c' <;> first | rfl | exact absurd rfl h

/-- The queue without its frame in transmission. -/
theorem TxQueue.popCurrent_gets {q : TxQueue} {t : InTx} (h : q.inTx = some t) :
    q.popCurrent.inTx = none ∧ q.popCurrent.get t.cls = (q.get t.cls).tail ∧ ∀ c ≠ t.cls, q.popCurrent.get c = q.get c := by
  have hpop : q.popCurrent = { q.set t.cls (q.get t.cls).tail with inTx := none } := by rw [popCurrent, h]
  rw [hpop]
  exact ⟨rfl, TxQueue.set_get_same q t.cls _, fun c hc => TxQueue.set_get_other q hc _⟩

/-- The class taken next is the first that holds a frame. -/
theorem TxQueue.next_eq {q : TxQueue} {c : TxClass} (hheld : q.get c ≠ [])
    (hfirst : (c = .reply → q.orders = []) ∧ (c = .mode → q.orders = [] ∧ q.replies = []) ∧
      (c = .award → q.orders = [] ∧ q.replies = [] ∧ q.modes = [])) : q.next = some c := by
  obtain ⟨hreply, hmode, haward⟩ := hfirst
  cases c <;> simp_all [next, TxQueue.get]

theorem sending_of_inTx {t : InTx} (hctrl : d.vbp.ctrl = .active ∨ d.vbp.ctrl = .listening) (h : d.vbp.tx.inTx = some t) :
    d.sending = some t := by
  obtain hctrl | hctrl := hctrl <;> simp [Device.sending, hctrl, Controller.sends, h]

/-- Settles O47: each move of a frame by the queue it leaves. -/
theorem framesLeaveInOrder : Obligations.FramesLeaveInOrder := by
  refine ⟨fun s e rest o hqueue howner hctrl => ⟨actOf .awardToTransmitQueue s.dev, exec_eq _ s, fun hfull => ?_, fun hroom => ?_⟩,
    fun s c hctrl hidle hheld hfirst => ?_, fun s t hctrl hsending => ?_⟩
  · simp [actOf, awardToQueue, hqueue, howner, Nat.not_lt.mpr hfull]
  · simp [actOf, awardToQueue, hqueue, howner, hroom, hctrl, Device.withVbp, TxQueue.set, AwardEntry.frame]
  · have hsends : s.dev.vbp.ctrl.sends = true := by obtain h | h := hctrl <;> rw [h] <;> rfl
    simp [exec_eq, actOf, transmissionStart, hsends, hidle, TxQueue.next_eq hheld hfirst, Device.withTx, Device.withVbp]
  · have hsent : actOf .frameSent s.dev =
        s.dev.withVbp { s.dev.vbp with tx := s.dev.vbp.tx.popCurrent, txErrors := s.dev.vbp.txErrors - 1 } := by
      simp [actOf, frameSent, sending_of_inTx hctrl hsending]
    exact ⟨_, exec_eq _ s, hsent ▸ rfl, hsent ▸ TxQueue.popCurrent_gets hsending⟩

/-! ## Failed attempts (R155, R158) -/

/-- The last sent awards once a frame is dropped: an AWARD's slot has none. -/
def lastAwardsWithout (f : TxFrame) (v : Vector (Option Answer) 48) : Vector (Option Answer) 48 :=
  match f.awardSlot with
  | some i => v.set i none
  | none => v

/-- A failed attempt at the retry limit drops the frame: what that changes. -/
theorem retryOrDrop_of_limit {t : InTx} {f : TxFrame} (ht : d.vbp.tx.inTx = some t) (hf : (d.vbp.tx.get t.cls).head? = some f)
    (hlimit : d.cs.canRetryLimit ≤ (t.retries : Int)) : retryOrDrop t d =
      { d with
        vbp := { d.vbp with tx := d.vbp.tx.popCurrent, lastAward := lastAwardsWithout f d.vbp.lastAward },
        sl := { d.sl with notices := { d.sl.notices with
          link := some (NoticeEntry.raised d.sl.notices.link (BitVec.ofNat 16 (0x200 + f.dest.code))) } } } := by
  have hdrop : dropCurrent d = forgetAward f (raiseTxDropped f.dest (d.withTx d.vbp.tx.popCurrent)) := by
    simp [dropCurrent, TxQueue.current, ht, hf]
  rw [retryOrDrop, if_neg (not_lt.mpr hlimit), hdrop, forgetAward, lastAwardsWithout]
  cases f.awardSlot <;> rfl

theorem retryOrDrop_of_below {t : InTx} (hretries : (t.retries : Int) < d.cs.canRetryLimit) : retryOrDrop t d =
    { d with vbp := { d.vbp with tx := { d.vbp.tx with inTx := some { t with retries := t.retries + 1 } } } } := by
  rw [retryOrDrop, if_pos hretries]
  rfl

/-- A failed attempt does not turn on the error count. -/
theorem retryOrDrop_withErrors {t : InTx} {f : TxFrame} (ht : d.vbp.tx.inTx = some t)
    (hf : (d.vbp.tx.get t.cls).head? = some f) (n : Nat) : retryOrDrop t (d.withVbp { d.vbp with txErrors := n }) =
      (retryOrDrop t d).withVbp { (retryOrDrop t d).vbp with txErrors := n } := by
  obtain hretries | hlimit := lt_or_ge (t.retries : Int) d.cs.canRetryLimit
  · have hnew := retryOrDrop_of_below (d := d.withVbp { d.vbp with txErrors := n }) hretries
    rw [hnew, retryOrDrop_of_below hretries]
    rfl
  · have hnew := retryOrDrop_of_limit (d := d.withVbp { d.vbp with txErrors := n }) ht hf hlimit
    rw [hnew, retryOrDrop_of_limit ht hf hlimit]
    rfl

/-- Settles O48: the retry limit, and the error count against 255. -/
theorem failedFrameRetriedOrDropped : Obligations.FailedFrameRetriedOrDropped := by
  intro s t f hctrl ht hf
  have hsending := sending_of_inTx hctrl ht
  have hlost : actOf .arbitrationLost s.dev = retryOrDrop t s.dev := by simp [actOf, arbitrationLost, hsending]
  have herror : actOf .transmitError s.dev = if 255 < s.dev.vbp.txErrors + 8 then enterBusOff s.dev
      else retryOrDrop t (s.dev.withVbp { s.dev.vbp with txErrors := s.dev.vbp.txErrors + 8 }) := by
    simp [actOf, transmitError, hsending]
  refine ⟨actOf .arbitrationLost s.dev, actOf .transmitError s.dev, exec_eq _ s, exec_eq _ s, ?_⟩
  rw [hlost, herror]
  refine ⟨fun hbelow => ?_, fun habove => ?_, retryOrDrop_of_below, fun hlimit => ?_⟩
  · rw [if_neg (Nat.not_lt.mpr hbelow)]
    exact retryOrDrop_withErrors ht hf _
  · rw [if_pos habove]
    simp [enterBusOff, raiseBusOff, raise, Device.withVbp, Device.withSl, TxQueue.held, ht, NoticeSet.set, NoticeSet.get]
  · obtain ⟨hidle, hpopped, hothers⟩ := TxQueue.popCurrent_gets ht
    rw [retryOrDrop_of_limit ht hf hlimit]
    refine ⟨rfl, hidle, hpopped, hothers, ?_, fun i g a hbody => ?_, fun hbody => ?_⟩
    · cases f.dest <;> rfl
    · simp [lastAwardsWithout, TxFrame.awardSlot, hbody]
    · have hnone : f.awardSlot = none := by
        unfold TxFrame.awardSlot
        split
        · exact absurd ‹_› (hbody _ _ _)
        · rfl
      simp [lastAwardsWithout, hnone]

end Sys2Proof.Machine
end

section
/-! PROOFS. The Vehicle Bus Port: frames received, and the ways back to ACTIVE (R142, R146 to R148, R151, R158, R159). -/

namespace Sys2Proof.Machine

-- A default proof `by decide` waits for the kernel: side by side the proofs would ask for a thread each.
set_option Elab.async false

variable {d d' : Device}

/-! ## Blocks that no listed part is of -/

theorem Changes.tbl {ps : List Part} (h : Changes ps d d') (hslots : .slots ∉ ps := by decide)
    (hbuffers : .buffers ∉ ps := by decide) : d'.tbl = d.tbl := by
  have hs : d'.tbl.slots = d.tbl.slots := h.same .slots hslots
  have hb : d'.tbl.buffers = d.tbl.buffers := h.same .buffers hbuffers
  cases hd : d'.tbl
  simp_all

theorem Changes.se {ps : List Part} (h : Changes ps d d') (htimer : .splitTimer ∉ ps := by decide)
    (hpass : .pass ∉ ps := by decide) (hrest : .splitRest ∉ ps := by decide) : d'.se = d.se := by
  have ht : d'.se.timer = d.se.timer := h.same .splitTimer htimer
  have hp : d'.se.pass = d.se.pass := h.same .pass hpass
  obtain ⟨hi, hn, hr, hs⟩ := h.same .splitRest hrest
  cases hd : d'.se
  simp_all

/-! ## The sender of a frame (R146) -/

theorem senderOf_of_outside {base : Int} {f : CanFrame} (h : f.extended = true ∨ f.remote = true ∨ (f.ident : Int) ≤ base ∨
    base + 30 < f.ident) : senderOf base f = none := by
  refine if_neg ?_
  simp only [Bool.and_eq_true, Bool.not_eq_true', decide_eq_true_eq, not_and]
  intro ⟨⟨hext, hrem⟩, hlow⟩ hhigh
  obtain h | h | h | h := h
  · simp [h] at hext
  · simp [h] at hrem
  · omega
  · omega

theorem senderOf_of_node {base : Int} {f : CanFrame} {n : Nat} (hext : f.extended = false) (hrem : f.remote = false)
    (hn : isNode n = true) (hident : (f.ident : Int) = base + n) : senderOf base f = some n := by
  simp only [isNode, Bool.and_eq_true, decide_eq_true_eq] at hn
  rw [senderOf, if_pos (by simp [hext, hrem, hident]; omega), hident]
  simp

/-! ## A frame taken into the buffer, or lost (R148, R151) -/

/-- What a wake by bus activity leaves for the frame that follows. -/
theorem wake_bus_blocks (d : Device) :
    (wake .bus d).vbp.rx = d.vbp.rx ∧ (wake .bus d).vbp.roster = d.vbp.roster ∧ (wake .bus d).cs = d.cs ∧
      (wake .bus d).sl.notices.roster = d.sl.notices.roster ∧ (wake .bus d).vbp.ctrl = .active ∧
      (wake .bus d).mc = { d.mc with mode := .standby } ∧
      (d.vbp.tx.count < 24 →
        (wake .bus d).vbp.tx.modes = d.vbp.tx.modes ++ [{ dest := .broadcast, body := .mode .standby .bus }]) := by
  have hchanges := wake_changes .bus d
  refine ⟨hchanges.same .rx, hchanges.same .roster, hchanges.same .config, hchanges.same (.notice .roster), ?_, ?_, fun hroom => ?_⟩
  · obtain ⟨hctrl, -, -⟩ := (broadcastMode_changes .standby .bus ((d.withMc { d.mc with mode := .standby }).withVbp
      { d.vbp with ctrl := .active, busSilence := .stopped })).same .controller
    exact hctrl
  · simp [wake, broadcastMode]
  · simp [wake, broadcastMode, handFrame, Device.txRoom, Device.withTx, TxQueue.set, TxQueue.get, hroom]

theorem bufferFrame_vbp (n : Nat) (data : List Byte) (d : Device) : (bufferFrame n data d).vbp =
    { d.vbp with rx := (bufferFrame n data d).vbp.rx, roster := (bufferFrame n data d).vbp.roster } := by
  unfold bufferFrame hearNode
  repeat' split
  all_goals rfl

theorem bufferFrame_sl (n : Nat) (data : List Byte) (d : Device) :
    (bufferFrame n data d).sl = { d.sl with notices := (bufferFrame n data d).sl.notices } := by
  unfold bufferFrame hearNode
  repeat' split
  all_goals rfl

theorem bufferFrame_of_room (n : Nat) (data : List Byte) (hroom : d.vbp.rx.length < 8) :
    (bufferFrame n data d).vbp.rx = d.vbp.rx ++ [{ node := n, data := data }] ∧
    (bufferFrame n data d).vbp.roster = mapEntry n (RosterEntry.heard d.cs.silenceTimeout.toNat) d.vbp.roster ∧
    (∀ e, d.entryOf n = some e → e.state = .silent → (bufferFrame n data d).sl.notices.roster =
      some (NoticeEntry.raised d.sl.notices.roster (BitVec.ofNat 16 n))) ∧
    ((∀ e, d.entryOf n = some e → e.state = .joined) → (bufferFrame n data d).sl.notices.roster = d.sl.notices.roster) := by
  rw [bufferFrame, if_pos (show d.vbp.rx.length < rxCapacity from hroom)]
  refine ⟨(hearNode_changes n _).same .rx, hearNode_roster n _, fun e he hsilent => ?_, fun hjoined => ?_⟩
  · have hentry : (d.withVbp { d.vbp with rx := d.vbp.rx ++ [{ node := n, data := data }] }).entryOf n = some e := he
    simp [hearNode, hentry, hsilent, raiseRoster, raise, NoticeSet.set, NoticeSet.get]
  · unfold hearNode
    split
    · rfl
    · next e he =>
      have hentry : d.entryOf n = some e := he
      simp [hjoined e hentry]

theorem bufferFrame_of_full (n : Nat) (data : List Byte) (hfull : 8 ≤ d.vbp.rx.length) :
    bufferFrame n data d = raiseRxOverrun n d := if_neg (Nat.not_lt.mpr hfull)

/-- Settles O46: by controller state and identifier. -/
theorem frameReceivedEntersBuffer : Obligations.FrameReceivedEntersBuffer := by
  intro s f
  refine ⟨actOf (.frameReceived f) s.dev, exec_eq _ s, fun hidle => ?_, fun hoff => ?_, fun hctrl => ⟨fun hout => ?_, ?_⟩⟩
  · simp [actOf, frameReceived, hidle]
  · simp [actOf, frameReceived, hoff, restartBusSilence, Device.withVbp]
  · obtain hctrl | hctrl := hctrl <;> simp [actOf, frameReceived, hctrl, senderOf_of_outside hout]
  intro n hext hrem hn hident
  have heq : actOf (.frameReceived f) s.dev =
      bufferFrame n f.data (if s.dev.mc.mode = .sleep then wake .bus s.dev else s.dev) := by
    obtain hctrl | hctrl := hctrl <;> simp [actOf, frameReceived, hctrl, senderOf_of_node hext hrem hn hident]
  rw [heq]
  obtain ⟨hrx, hroster, hcs, hnotices, hactive, hmc, hmodes⟩ := wake_bus_blocks s.dev
  have hchanges := bufferFrame_changes n f.data s.dev
  by_cases hsleep : s.dev.mc.mode = .sleep
  · have hafter := bufferFrame_changes n f.data (wake .bus s.dev)
    have hall := ((wake_changes .bus s.dev).mono (qs := Part.reception)).trans hafter.mono
    obtain ⟨hctrl, -, -⟩ := hafter.same .controller
    have hmodes' : (bufferFrame n f.data (wake .bus s.dev)).vbp.tx.modes = (wake .bus s.dev).vbp.tx.modes := hafter.same .modes
    rw [if_pos hsleep]
    refine ⟨⟨hall.tbl, hall.same .rta, hall.same .rau, hall.same .genset, hall.se, hall.same .combiner, hall.same .config,
      hall.same .now, ?_, fun _ => ⟨hctrl.trans hactive, fun hroom => hmodes'.trans (hmodes hroom)⟩, fun h => absurd hsleep h⟩,
      fun hroom => ?_, fun hfull => ?_⟩
    · rw [hafter.mc, hmc, if_pos hsleep]
    · have hentry : (wake .bus s.dev).entryOf n = s.dev.entryOf n := by rw [Device.entryOf, hroster]; rfl
      have h := bufferFrame_of_room n f.data (d := wake .bus s.dev) (by rwa [hrx])
      rw [hrx, hroster, hcs, hnotices, hentry] at h
      exact h
    · rw [bufferFrame_of_full n f.data (by rwa [hrx])]
      exact ⟨hrx, hroster, fun h => absurd hsleep h⟩
  · rw [if_neg hsleep]
    refine ⟨⟨hchanges.tbl, hchanges.same .rta, hchanges.same .rau, hchanges.same .genset, hchanges.se, hchanges.same .combiner,
      hchanges.same .config, hchanges.same .now, ?_, fun h => absurd h hsleep, fun _ => ⟨bufferFrame_vbp n f.data _, ?_⟩⟩,
      bufferFrame_of_room n f.data, fun hfull => ?_⟩
    · rw [hchanges.mc, if_neg hsleep]
    · exact bufferFrame_sl n f.data _
    · rw [bufferFrame_of_full n f.data hfull]
      exact ⟨rfl, rfl, fun _ => rfl⟩

/-! ## Rejoin and BUS_RESTART (R158, R159) -/

theorem resumed_gets (q : TxQueue) : (∀ c, q.resumed.get c = q.get c) ∧
    ∀ t ∈ q.resumed.inTx, t.cls = .order ∧ q.inTx = some t := by
  unfold TxQueue.resumed TxQueue.orderInTx
  cases ht : q.inTx with
  | none => exact ⟨fun c => by cases c <;> rfl, nofun⟩
  | some t =>
    by_cases hcls : t.cls = .order
    · simp [hcls, ht]
    · simp only [hcls, decide_false, Bool.false_eq_true, if_false]
      exact ⟨fun c => by cases c <;> rfl, nofun⟩

/-- The order in flight as it is handed to an empty transmit queue (R111). -/
def Device.orderAgain (d : Device) : List TxFrame :=
  (d.gs.inFlight.bind fun o => d.enginePeer.map fun n => { dest := .node n, body := .order o.kind o.seq : TxFrame }).toList

theorem BusPort.with_cleared {v : BusPort} (h : v.tx = .cleared) : v = { v with tx := { TxQueue.cleared with orders := [] } } := by
  obtain ⟨⟩ := v
  obtain rfl := h
  rfl

/-- An order finds room in an emptied queue. -/
theorem handToEngine_of_cleared (b : TxBody) (htx : d.vbp.tx = .cleared) (hctrl : d.vbp.ctrl ≠ .idle) :
    (handToEngine TxFrame.isOrder b d).1.sl = d.sl ∧ (handToEngine TxFrame.isOrder b d).1.vbp = { d.vbp with
      tx := { TxQueue.cleared with orders := (d.enginePeer.map fun n => { dest := .node n, body := b : TxFrame }).toList } } := by
  unfold handToEngine
  cases hpeer : d.enginePeer with
  | none => exact ⟨rfl, BusPort.with_cleared htx⟩
  | some n =>
    have hroom : d.txRoom = true := by simp [Device.txRoom, hctrl, htx, TxQueue.cleared, TxQueue.count]
    simp [handOrder, htx, TxQueue.cleared, replaceWaiting, TxQueue.orderInTx, replaceFirst, handFrame, hroom, TxQueue.set,
      TxQueue.get, Device.withTx]

/-- The Sequencer at a BUS_RESTART: the last setpoint sent unknown, an order in flight with a fresh timer (R111, R112). -/
theorem gensetBusRestart_gs (d : Device) : (gensetBusRestart d).gs =
    { d.gs with lastSent := none, inFlight := d.gs.inFlight.map fun o => { o with timer := 100 } } := by
  unfold gensetBusRestart
  cases h : d.gs.inFlight <;> simp [h, handOrderAgain, ackMs]

theorem gensetBusRestart_of_cleared (htx : d.vbp.tx = .cleared) (hctrl : d.vbp.ctrl ≠ .idle) :
    (gensetBusRestart d).sl = d.sl ∧
      (gensetBusRestart d).vbp = { d.vbp with tx := { TxQueue.cleared with orders := d.orderAgain } } := by
  have hhanded (x : Genset) (o : InFlight) := handToEngine_of_cleared (d := d.withGs x) (.order o.kind o.seq) htx hctrl
  unfold gensetBusRestart Device.orderAgain
  cases h : d.gs.inFlight with
  | none =>
    dsimp only [Device.withGs_gs]
    rw [h]
    exact ⟨rfl, BusPort.with_cleared htx⟩
  | some o =>
    dsimp only [Device.withGs_gs]
    rw [h]
    obtain ⟨hsl, hvbp⟩ := hhanded { d.gs with lastSent := none, inFlight := some { o with timer := ackMs } } o
    exact ⟨hsl, hvbp⟩

/-- Settles O49: the two ways back to ACTIVE. -/
theorem controllerReturnsToActive : Obligations.ControllerReturnsToActive := by
  refine ⟨fun s hoff => ⟨⟨actOf .busOffRejoin s.dev, exec_eq _ s, ?_⟩, ?_⟩, fun s q hq => ?_⟩
  · have hrejoin : actOf .busOffRejoin s.dev = s.dev.withVbp { s.dev.vbp with
        ctrl := .active, txErrors := 0, busSilence := .stopped, tx := s.dev.vbp.tx.resumed } := by
      simp [actOf, busOffRejoin, hoff]
    rw [hrejoin]
    exact ⟨rfl, resumed_gets s.dev.vbp.tx⟩
  · simp [exec_eq, actOf, busActivity, hoff, restartBusSilence, Device.withVbp]
  have hact : actOf .busRestart s.dev = finish q (busRestartAct q (dropHead s.dev)) := takeRequest_of_headIs hq _
  refine ⟨actOf .busRestart s.dev, exec_eq _ s, ?_⟩
  rw [hact]
  by_cases hidle : s.dev.vbp.ctrl = .idle
  · rw [busRestartAct, if_pos (show (dropHead s.dev).vbp.ctrl = .idle from hidle), finish_answered_blocks]
    exact ⟨rfl, rfl, rfl, rfl, rfl, rfl, rfl,
      fun _ => ⟨rfl, rfl, finish_answered_repliedTo (d := dropHead s.dev) rfl q .notNow []⟩, fun h => absurd hidle h⟩
  · rw [busRestartAct, if_neg (show (dropHead s.dev).vbp.ctrl ≠ .idle from hidle)]
    have hrestart := gensetBusRestart_of_cleared (d := (dropHead s.dev).withVbp (reinitialise (dropHead s.dev).vbp)) rfl nofun
    have hgs := gensetBusRestart_gs ((dropHead s.dev).withVbp (reinitialise (dropHead s.dev).vbp))
    have hchanges := (gensetBusRestart_sequenced ((dropHead s.dev).withVbp (reinitialise (dropHead s.dev).vbp))).changes
    obtain ⟨hsl, hvbp⟩ := hrestart
    have hnow : (gensetBusRestart ((dropHead s.dev).withVbp (reinitialise (dropHead s.dev).vbp))).now = s.dev.now := hchanges.same .now
    have hreplied := finish_answered_repliedTo hsl q .ok []
    rw [hnow] at hreplied
    have hlast (i : SlotNo) : (Vector.replicate 48 (none : Option Answer))[i] = none := by simp
    rw [finish_answered_blocks]
    refine ⟨hchanges.tbl, hchanges.same .rta, hchanges.same .rau, hchanges.same .combiner, hchanges.se, hchanges.mc,
      hchanges.same .config, fun h => absurd h hidle, fun _ => ⟨hreplied, ?_⟩⟩
    dsimp only
    rw [hvbp]
    refine ⟨rfl, rfl, rfl, rfl, rfl, hlast, rfl, rfl, rfl, rfl, hgs, fun o n ho hn => ?_, fun hnone => ?_⟩
    · change Option.toList (Option.bind s.dev.gs.inFlight _) = _
      rw [ho]
      change Option.toList (Option.map _ s.dev.enginePeer) = _
      rw [hn]
      rfl
    · change Option.toList (Option.bind s.dev.gs.inFlight _) = _
      rw [hnone]
      rfl

end Sys2Proof.Machine
end

section
/-! PROOFS. HELLO: what each outcome of R150's table leaves, and its reply (R148, R150, R114, R124). -/

namespace Sys2Proof.Machine

-- A default proof `by decide` waits for the kernel: side by side the proofs would ask for a thread each.
set_option Elab.async false

variable {d d' : Device}

/-! ## The effect of an outcome, block by block -/

theorem roleTaken_gs (role : Role) (d : Device) :
    (roleTaken role d).gs = if role = .engine then { d.gs with noEngine := false } else d.gs := by
  unfold roleTaken
  split <;> rfl

theorem roleTaken_vbp (role : Role) (d : Device) : (roleTaken role d).vbp = d.vbp := by
  unfold roleTaken
  split <;> rfl

theorem roleTaken_sl (role : Role) (d : Device) : (roleTaken role d).sl = d.sl := by
  unfold roleTaken
  split <;> rfl

theorem loseEnginePeer_gs_of_rest (h : d.gs.state.atRest = true) :
    (loseEnginePeer d).gs = { d.gs with inFlight := none } := by
  cases hstate : d.gs.state <;> simp_all [loseEnginePeer, GensetState.atRest]

theorem loseEnginePeer_gs_of_busy (h : d.gs.state.atRest = false) :
    (loseEnginePeer d).gs.inFlight = none ∧ (loseEnginePeer d).gs.state = .off ∧ (loseEnginePeer d).gs.noEngine = true := by
  cases hstate : d.gs.state <;> simp_all [loseEnginePeer, GensetState.atRest, enterOff, raiseGensetFault, raise]

theorem loseEnginePeer_vbp (d : Device) : (loseEnginePeer d).vbp = d.vbp := by
  unfold loseEnginePeer
  dsimp only
  split <;> rfl

theorem applyHello_vbp (node : Nat) (o : HelloOutcome) (d : Device) :
    (applyHello node o d).vbp = { d.vbp with roster := (applyHello node o d).vbp.roster } := by
  cases o with
  | refused r | keep => rfl
  | enrol role => rw [applyHello, enrol, roleTaken_vbp]; rfl
  | change role =>
    simp only [applyHello, changeRole]
    split
    · rw [loseEnginePeer_vbp, roleTaken_vbp]; rfl
    · rw [roleTaken_vbp]; rfl

/-- A node enrolled raises ROSTER and, as ENGINE, clears the no-engine mark. -/
theorem enrol_blocks (node : Nat) (role : Role) (d : Device) :
    (enrol node role d).sl.notices.roster = some (NoticeEntry.raised d.sl.notices.roster (BitVec.ofNat 16 node)) ∧
      (enrol node role d).gs = if role = .engine then { d.gs with noEngine := false } else d.gs := by
  rw [enrol, roleTaken_sl, roleTaken_gs]
  exact ⟨rfl, rfl⟩

/-- The device with the role of a node replaced and taken, the engine peer not yet lost. -/
def withRole (node : Nat) (role : Role) (d : Device) : Device :=
  roleTaken role (raiseRoster node (d.withVbp { d.vbp with
    roster := mapEntry node (fun e => { e with role := role }) d.vbp.roster }))

theorem changeRole_eq (node : Nat) (role : Role) (d : Device) :
    changeRole node role d = if d.isEngine node then loseEnginePeer (withRole node role d) else withRole node role d := rfl

theorem withRole_blocks (node : Nat) (role : Role) (d : Device) :
    (withRole node role d).sl.notices.roster = some (NoticeEntry.raised d.sl.notices.roster (BitVec.ofNat 16 node)) ∧
      (withRole node role d).gs = if role = .engine then { d.gs with noEngine := false } else d.gs := by
  rw [withRole, roleTaken_sl, roleTaken_gs]
  exact ⟨rfl, rfl⟩

/-- A role changed raises ROSTER; a node that held ENGINE is lost to the Sequencer. -/
theorem changeRole_blocks (node : Nat) (role : Role) (d : Device) :
    (changeRole node role d).sl.notices.roster = some (NoticeEntry.raised d.sl.notices.roster (BitVec.ofNat 16 node)) ∧
      (d.enginePeer ≠ some node →
        (changeRole node role d).gs = if role = .engine then { d.gs with noEngine := false } else d.gs) ∧
      (d.enginePeer = some node →
        (changeRole node role d).gs.inFlight = none ∧
        (d.gs.state.atRest = true →
          (changeRole node role d).gs = { d.gs with inFlight := none, noEngine := (changeRole node role d).gs.noEngine }) ∧
        (d.gs.state.atRest = false →
          (changeRole node role d).gs.state = .off ∧ (changeRole node role d).gs.noEngine = true)) := by
  obtain ⟨hnotice, hgs⟩ := withRole_blocks node role d
  have hstate : (withRole node role d).gs.state = d.gs.state := by rw [hgs]; split <;> rfl
  rw [changeRole_eq]
  by_cases hengine : d.enginePeer = some node
  · rw [if_pos (show d.isEngine node = true from decide_eq_true hengine)]
    refine ⟨Eq.trans ((loseEnginePeer_sequenced _).changes.same (.notice .roster)) hnotice, fun h => absurd hengine h, fun _ => ?_⟩
    cases hrest : d.gs.state.atRest with
    | true =>
      rw [loseEnginePeer_gs_of_rest (by rw [hstate, hrest]), hgs]
      refine ⟨rfl, fun _ => ?_, nofun⟩
      split <;> rfl
    | false =>
      obtain ⟨hflight, hoff, hmark⟩ := loseEnginePeer_gs_of_busy (d := withRole node role d) (by rw [hstate, hrest])
      exact ⟨hflight, nofun, fun _ => ⟨hoff, hmark⟩⟩
  · rw [if_neg (by simpa [Device.isEngine] using hengine)]
    exact ⟨hnotice, fun _ => hgs, fun h => absurd h hengine⟩

/-! ## R150's table -/

theorem engineTaken_iff {node : Nat} {role : Role} : engineTaken d node role = true ↔
    role = .engine ∧ ∃ n, d.enginePeer = some n ∧ n ≠ node := by
  cases hpeer : d.enginePeer <;> simp [engineTaken, Device.isEngine, hpeer]

theorem engineTaken_eq_false_of {node : Nat} {role : Role}
    (h : role = .engine → d.enginePeer = none ∨ d.enginePeer = some node) : engineTaken d node role = false := by
  rw [← Bool.not_eq_true, engineTaken_iff]
  rintro ⟨hrole, n, hn, hne⟩
  obtain h | h := h hrole
  · simp [h] at hn
  · exact hne (by simpa [h] using hn.symm)

theorem helloRole_eq_none {data : List Byte} (h : data.length < 2 ∨ Role.ofByte (byteAt data 1) = none) :
    helloRole data = none := by
  unfold helloRole
  split
  · rfl
  · exact h.resolve_left ‹_›

theorem helloRole_eq_some {data : List Byte} {role : Role} (hlen : 2 ≤ data.length)
    (hrole : Role.ofByte (byteAt data 1) = some role) : helloRole data = some role :=
  (if_neg (Nat.not_lt.mpr hlen)).trans hrole

/-! ## A HELLO taken -/

/-- The device with a HELLO out of the receive buffer. -/
def withoutHello (d : Device) : Device := d.withVbp { d.vbp with rx := d.vbp.rx.eraseP isHelloFrame }

/-- The device with the outcome of a HELLO applied, the reply not yet queued. -/
def helloApplied (f : RxFrame) (d : Device) : Device := applyHello f.node (helloOutcome d f) (withoutHello d)

/-- The role byte of the reply: the role held, or an open byte (log 6). -/
def roleByte (node : Nat) (d : Device) : Byte :=
  match d.entryOf node with
  | some e => e.role.code
  | none => Config.freeByte d.draws 4

theorem hello_eq {f : RxFrame} (hf : d.vbp.rx.find? isHelloFrame = some f) (hroom : d.txRoom = true) :
    hello d = (helloApplied f d).draw.withTx { d.vbp.tx with replies := d.vbp.tx.replies ++
      [{ dest := .node f.node,
         body := .reply [0x89, 0, 0, (helloOutcome d f).result.code, roleByte f.node (helloApplied f d), 0, 0, 0] }] } := by
  have hvbp : (helloApplied f d).vbp = { (withoutHello d).vbp with roster := (helloApplied f d).vbp.roster } :=
    applyHello_vbp f.node _ _
  have hroom' : (helloApplied f d).draw.txRoom = true := by
    rw [Device.txRoom, Device.draw_vbp, hvbp]
    exact hroom
  rw [hello_of_found hf hroom]
  change handFrame .reply (helloReply f.node _ (helloApplied f d)) (helloApplied f d).draw = _
  rw [handFrame, if_pos hroom', Device.draw_vbp]
  simp only [TxQueue.set, TxQueue.get]
  rw [hvbp]
  rfl

/-- Settles O51: by the result of the HELLO. -/
theorem helloEnrolsOrChangesRole : Obligations.HelloEnrolsOrChangesRole := by
  intro s f hf hroom
  have hchanges : Changes Part.enrolment (withoutHello s.dev) (helloApplied f s.dev) := applyHello_changes f.node _ _
  have hroster : (helloApplied f s.dev).vbp.roster =
      (helloOutcome s.dev f).rosterAfter f.node s.dev.cs.silenceTimeout.toNat s.dev.vbp.roster := applyHello_roster _ _ _
  have hvbp : (helloApplied f s.dev).vbp = { (withoutHello s.dev).vbp with roster := (helloApplied f s.dev).vbp.roster } :=
    applyHello_vbp f.node _ _
  refine ⟨actOf .hello s.dev, (helloOutcome s.dev f).result, roleByte f.node (helloApplied f s.dev), exec_eq _ s, ?_⟩
  rw [show actOf .hello s.dev = _ from hello_eq hf hroom]
  refine ⟨hchanges.same .rx, rfl,
    hchanges.tbl, hchanges.same .rta, hchanges.same .rau, hchanges.same .combiner, hchanges.se, hchanges.mc, hchanges.same .config,
    hchanges.same .now, ?_, ?_, fun hr => ?_, fun hbad => ?_, fun role hlen hbyte => ?_⟩
  · simp only [Device.withTx, Device.withVbp_vbp, Device.draw_vbp]
    rw [hvbp]
    rfl
  · intro e he
    have hentry : (helloApplied f s.dev).entryOf f.node = some e := he
    simp [roleByte, hentry]
  · have hrefused : helloApplied f s.dev = withoutHello s.dev := by
      rw [helloApplied]
      cases ho : helloOutcome s.dev f with
      | refused r | keep => rfl
      | enrol role | change role => exact absurd (by rw [ho]; rfl) hr
    rw [hrefused]
    exact ⟨rfl, rfl, rfl⟩
  · rw [helloOutcome, helloRole_eq_none hbad]
    rfl
  have hrole := helloRole_eq_some hlen hbyte
  refine ⟨fun hnew hfull => ?_, fun hspace => ⟨fun hengine hheld => ?_, fun hfree => ?_⟩⟩
  · rw [helloOutcome, hrole]
    simp [hnew, hfull, HelloOutcome.result]
  · have htaken : engineTaken s.dev f.node role = true := engineTaken_iff.mpr ⟨hengine, hheld⟩
    rw [helloOutcome, hrole]
    cases hentry : s.dev.entryOf f.node with
    | none => simp [Nat.not_le.mpr (hspace hentry), htaken, HelloOutcome.result]
    | some e => simp [htaken, HelloOutcome.result]
  have htaken := engineTaken_eq_false_of hfree
  cases hentry : s.dev.entryOf f.node with
  | none =>
    have ho : helloOutcome s.dev f = .enrol role := by
      rw [helloOutcome, hrole]
      simp [hentry, Nat.not_le.mpr (hspace hentry), htaken]
    obtain ⟨hnotice, hgs⟩ := enrol_blocks f.node role (withoutHello s.dev)
    rw [ho] at hroster ⊢
    rw [helloApplied, ho] at hroster ⊢
    exact ⟨rfl, fun _ => ⟨hroster, hnotice, hgs⟩, nofun⟩
  | some e =>
    refine ⟨?_, nofun, fun e' he' => ?_⟩
    · rw [helloOutcome, hrole]
      by_cases hsame : e.role = role <;> simp [hentry, htaken, hsame, HelloOutcome.result]
    obtain rfl : e = e' := by simpa using he'
    refine ⟨fun hsame => ?_, fun hdiffers => ?_⟩
    · have ho : helloOutcome s.dev f = .keep := by
        rw [helloOutcome, hrole]
        simp [hentry, htaken, hsame]
      rw [helloApplied, ho]
      exact ⟨rfl, rfl, rfl⟩
    · have ho : helloOutcome s.dev f = .change role := by
        rw [helloOutcome, hrole]
        simp [hentry, htaken, hdiffers]
      rw [helloApplied, ho] at hroster ⊢
      obtain ⟨hnotice, hkept, hlost⟩ := changeRole_blocks f.node role (withoutHello s.dev)
      exact ⟨hroster, hnotice, hkept, hlost⟩

end Sys2Proof.Machine
end

section
/-! PROOFS. The requests and timers of the Mode Controller: START_DRIVE, SLEEP, the park timers (R131 to R133, R136 to
R140). -/

namespace Sys2Proof.Machine

-- A default proof `by decide` waits for the kernel: side by side the proofs would ask for a thread each.
set_option Elab.async false

variable {d d' e : Device}

/-! ## Requests answered with nothing else changed -/

/-- The request at the head answered, with nothing but the link changed. -/
def Device.justReplied (d d' : Device) (q : SpiRequest) (r : Result) (p : List Byte) : Prop :=
  d' = { d with sl := d'.sl, draws := d'.draws } ∧ d.sl.repliedTo d'.sl q r p d.now

theorem finish_answered_justReplied (d : Device) (q : SpiRequest) (r : Result) (p : List Byte) :
    d.justReplied (finish q ((dropHead d).answered r p)) q r p :=
  ⟨finish_answered_blocks q (dropHead d) r p, finish_answered_repliedTo (d := dropHead d) rfl q r p⟩

theorem finish_answered_notices (q : SpiRequest) (e : Device) (r : Result) (p : List Byte) :
    (finish q (e.answered r p)).sl.notices = e.sl.notices := by
  rw [finish_answered]
  obtain ⟨-, h⟩ | ⟨-, h⟩ := placeReply_cases q.kind q.tag r.code p e.draw <;> rw [h] <;> rfl

/-- An act that answers and leaves of the link all but the head frame and the notices. -/
theorem finish_answered_repliedBesideNotices {l : Link}
    (hlink : e.sl = { l with requests := l.requests.tail, notices := e.sl.notices }) (q : SpiRequest) (r : Result)
    (p : List Byte) : l.repliedBesideNotices (finish q (e.answered r p)).sl q r p e.now := by
  rw [Link.repliedBesideNotices, finish_answered_notices]
  exact finish_answered_repliedTo (l := { l with notices := e.sl.notices }) hlink q r p

/-! ## SLEEP entry (R139, R140) -/

/-- A SLEEP entry made on `e` is one of `d` where `e` differs from it in parts that the entry clears. -/
theorem sleepEntry_isAsleep {ps : List Part} (c : SleepCause) (h : Changes ps d e)
    (hgs : e.gs.state = d.gs.state ∧ e.gs.crankCount = d.gs.crankCount ∧ e.gs.seq = d.gs.seq)
    (hkey : .key ∉ ps := by decide) (hforce : .force ∉ ps := by decide) (htrans : .transaction ∉ ps := by decide)
    (hcs : .config ∉ ps := by decide) (hnow : .now ∉ ps := by decide) : d.IsAsleep (sleepEntry c e) c := by
  obtain ⟨hstate, hcount, hseq⟩ := hgs
  obtain ⟨hraw, hon, hdeglitch⟩ := h.same .key hkey
  obtain ⟨hbase, hrate⟩ := h.same .force hforce
  obtain ⟨hclock, hcs', hwaking⟩ := h.same .transaction htrans
  have htime : e.now = d.now := h.same .now hnow
  have hclear := sleepEntry_hasNoRecords c e
  have hreply : (sleepEntry c e).sl.replies = [c.reply d.now] := by rw [← htime]; rfl
  have hmiso (k : Nat) : (sleepEntry c e).sl.miso k = if d.sl.csLow then some 0 else none := by
    rw [← hcs']
    rfl
  exact ⟨fun i => ⟨hclear.slot i, hclear.rtaOf i, hclear.lastAward i⟩, hclear.buffer, rfl, rfl, rfl, rfl, rfl, rfl, rfl, rfl,
    hstate, hcount, hseq, rfl, rfl, rfl, rfl, rfl, rfl, rfl, rfl, rfl, rfl, rfl, hraw, hon, hdeglitch, rfl, rfl, rfl,
    rfl, rfl, rfl, rfl, rfl, hbase, hrate, rfl, rfl, rfl, rfl, rfl, rfl, rfl, hreply, rfl, rfl, rfl, rfl,
    fun k => by cases k <;> rfl, rfl, hclock, rfl, hmiso, hcs', hwaking, h.same .config hcs, htime⟩

/-- Outside DRIVE with the genset at rest the Sequencer's evaluation does nothing: no start is wished for. -/
theorem evaluate_of_rest (x : Handed) (hrest : d.gs.state.atRest = true) (hmode : d.mc.mode ≠ .drive) : evaluate x d = d := by
  have hwish : startWish x d = false := by simp [startWish, hmode]
  unfold evaluate
  cases hstate : d.gs.state with
  | off => simp [evaluateOff, hwish]
  | lockout => rfl
  | cranking | warmup | running | cooldown => simp [hstate, GensetState.atRest] at hrest

/-- A cause of SLEEP taken: the entry between passes, else a mark (R138). -/
theorem sleepCause_eq (c : SleepCause) (d : Device) :
    (d.se.pass = none → sleepCause c d = sleepEntry c d) ∧
      (d.se.pass ≠ none → sleepCause c d = d.withMc { d.mc with sleepPending := some (d.mc.sleepPending.getD c) }) := by
  unfold sleepCause
  cases hp : d.se.pass with
  | none => exact ⟨fun _ => rfl, nofun⟩
  | some p =>
    refine ⟨nofun, fun _ => ?_⟩
    cases hc : d.mc.sleepPending <;> simp

/-- Settles O32: by mode, genset state and what is pending. -/
theorem sleepRequestEntersSleepOrPends : Obligations.SleepRequestEntersSleepOrPends := by
  intro s q hq
  have hact : actOf .sleep s.dev = finish q (sleepAct q (dropHead s.dev)) := takeRequest_of_headIs hq _
  refine ⟨actOf .sleep s.dev, exec_eq _ s, ?_⟩
  rw [hact]
  refine ⟨fun hpark hnone hrest => ?_, fun c hpark hc => ?_, fun helse => ?_⟩
  · have hrest' : s.dev.gs.state.atRest = true := by obtain h | h := hrest <;> rw [h] <;> rfl
    have htaken : sleepAct q (dropHead s.dev) = { dev := sleepCause (.request q.tag) (dropHead s.dev), reply := none } := by
      simp [sleepAct, dropHead, hpark, hnone, hrest']
    obtain ⟨hentry, hpends⟩ := sleepCause_eq (.request q.tag) (dropHead s.dev)
    rw [htaken]
    refine ⟨fun hpass => ?_, fun hpass => ?_⟩
    · change s.dev.IsAsleep (sleepCause (.request q.tag) (dropHead s.dev)) _
      rw [hentry hpass]
      exact sleepEntry_isAsleep _ (dropHead_changes s.dev) ⟨rfl, rfl, rfl⟩
    · change sleepCause (.request q.tag) (dropHead s.dev) = _
      rw [hpends hpass, show (dropHead s.dev).mc.sleepPending = none from hnone]
      rfl
  · have htaken : sleepAct q (dropHead s.dev) = (dropHead s.dev).answered .ok [c.modeCause.code] := by
      simp [sleepAct, dropHead, hpark, hc]
    rw [htaken]
    exact finish_answered_justReplied s.dev q _ _
  · have htaken : sleepAct q (dropHead s.dev) =
        (dropHead s.dev).answered .notNow [s.dev.mc.mode.code, s.dev.gs.state.code] := by
      cases hmode : s.dev.mc.mode with
      | park =>
        obtain ⟨hnone, hoff, hlockout⟩ := helse hmode
        have hbusy : s.dev.gs.state.atRest = false := by cases hs : s.dev.gs.state <;> simp_all [GensetState.atRest]
        simp [sleepAct, dropHead, hmode, hnone, hbusy, Device.modePayload]
      | standby | drive | sleep => simp [sleepAct, dropHead, hmode, Device.modePayload]
    rw [htaken]
    exact finish_answered_justReplied s.dev q _ _

theorem completed_gs_of_rest (p : Pass) (hrest : d.gs.state.atRest = true) (hmode : d.mc.mode ≠ .drive) :
    (completed p d).gs = d.gs := by
  have hbefore (x : List AwardEntry) : Changes (.draws :: Part.publication) d (queueAwards x (publishPass p d)) :=
    (publishPass_changes p d).mono.trans (queueAwards_changes x _).mono
  have hgs (x : List AwardEntry) : (queueAwards x (publishPass p d)).gs = d.gs := (hbefore x).same .genset
  have hsame (x : List AwardEntry) : (queueAwards x (publishPass p d)).mc.mode = d.mc.mode := (hbefore x).same .mode
  have hfloor (m : Mode) (e : Device) : (floorCheck m e).gs = e.gs := (floorCheck_changes m e).same .genset
  unfold completed
  rw [hfloor, evaluate_of_rest _ (by rw [hgs, hrest]) (by rwa [hsame]), hgs]

/-- Settles O33: in PARK with the genset at rest a completion reaches the pending SLEEP entry with the Sequencer as it was. -/
theorem parkTimersEndInSleep : Obligations.ParkTimersEndInSleep := by
  refine ⟨fun s hpark => ⟨fun hruns => ⟨actOf .parkTimerExpiry s.dev, exec_eq _ s, ?_⟩,
    fun hruns => ⟨actOf .floorTimerExpiry s.dev, exec_eq _ s, ?_⟩⟩, fun s p c hp hpark hpending hrest =>
      ⟨actOf .passCompletion s.dev, exec_eq _ s, ?_⟩⟩
  · have hact : actOf .parkTimerExpiry s.dev = sleepCause .parkTime (s.dev.withMc { s.dev.mc with parkTimer := .stopped }) := by
      simp [actOf, parkExpiry, hruns, hpark]
    obtain ⟨hentry, hpends⟩ := sleepCause_eq .parkTime (s.dev.withMc { s.dev.mc with parkTimer := .stopped })
    rw [hact]
    exact ⟨fun hpass => hentry hpass ▸ sleepEntry_isAsleep _ (withParkTimer_changes _ s.dev) ⟨rfl, rfl, rfl⟩, hpends⟩
  · have hact : actOf .floorTimerExpiry s.dev = sleepCause .parkFloor (s.dev.withMc { s.dev.mc with floorTimer := .stopped }) := by
      simp [actOf, floorExpiry, hruns, hpark]
    obtain ⟨hentry, hpends⟩ := sleepCause_eq .parkFloor (s.dev.withMc { s.dev.mc with floorTimer := .stopped })
    rw [hact]
    exact ⟨fun hpass => hentry hpass ▸ sleepEntry_isAsleep _ (withFloorTimer_changes _ s.dev) ⟨rfl, rfl, rfl⟩, hpends⟩
  · have hact : actOf .passCompletion s.dev = sleepEntry c (completed p s.dev) := by
      simp only [actOf, passCompletion, hp, completePass_eq, sleepIfPending]
      rw [completed_sleepPending p s.dev, hpending]
    rw [hact]
    have hgs := completed_gs_of_rest p hrest (by rw [hpark]; nofun)
    exact sleepEntry_isAsleep c (completed_changes p s.dev) (by rw [hgs]; exact ⟨rfl, rfl, rfl⟩)

/-! ## START_DRIVE (R131 to R133) -/

/-- DRIVE entered with no SLEEP pending, the broadcast not yet handed. -/
def inDrive (d : Device) : Device :=
  startSplit 10 (d.withMc { d.mc with mode := .drive, parkTimer := .stopped, floorTimer := .stopped, sleepPending := none })

theorem driveEntry_of_none (c : ModeCause) (h : d.mc.sleepPending = none) :
    driveEntry c d = broadcastMode .drive c (inDrive d) := by
  rw [driveEntry, h]
  rfl

theorem broadcastMode_of_room (m : Mode) (c : ModeCause) (h : d.txRoom = true) : broadcastMode m c d =
    d.withTx { d.vbp.tx with modes := d.vbp.tx.modes ++ [{ dest := .broadcast, body := .mode m c }] } := if_pos h

theorem broadcastMode_of_full (m : Mode) (c : ModeCause) (h : d.txRoom = false) :
    broadcastMode m c d = raise .link 0x23F d := if_neg (by rw [h]; exact Bool.false_ne_true)

/-- The reply of a START_DRIVE that does not enter DRIVE (R131). -/
def startDriveReply (d : Device) : Result × List Byte :=
  match d.mc.mode with
  | .standby => (.notNow, [failedCondition d])
  | .drive => (.ok, [])
  | .park | .sleep => (.notNow, d.modePayload)

theorem startDriveAct_of_refused (q : SpiRequest) (h : d.mc.mode ≠ .standby ∨ d.mc.key = false ∨ d.cs.valid = false) :
    startDriveAct q d = d.answered (startDriveReply d).1 (startDriveReply d).2 := by
  unfold startDriveAct startDriveReply
  cases hmode : d.mc.mode with
  | standby =>
    have hkept : (d.mc.key && d.cs.valid) = false := by obtain h | h | h := h <;> simp_all
    simp [hkept]
  | drive | park | sleep => rfl

/-- Settles O31: by mode, KEY and the valid mark. -/
theorem startDriveEntersDrive : Obligations.StartDriveEntersDrive := by
  intro s q hq
  have hact : actOf .startDrive s.dev = finish q (startDriveAct q (dropHead s.dev)) := takeRequest_of_headIs hq _
  refine ⟨actOf .startDrive s.dev, exec_eq _ s, ?_⟩
  rw [hact]
  by_cases hready : s.dev.mc.mode = .standby ∧ s.dev.mc.key = true ∧ s.dev.cs.valid = true
  · obtain ⟨hmode, hkey, hvalid⟩ := hready
    have hentered : startDriveAct q (dropHead s.dev) = (driveEntry .request (dropHead s.dev)).answered .ok [] := by
      simp [startDriveAct, dropHead, hmode, hkey, hvalid]
    have hchanges := driveEntry_changes .request (dropHead s.dev)
    rw [hentered, finish_answered_blocks]
    refine ⟨hchanges.tbl, hchanges.same .rta, hchanges.same .rau, hchanges.same .combiner, hchanges.same .genset, hchanges.same .config,
      fun _ _ _ hnone => ?_, fun h => ?_⟩
    · have hmc : (inDrive (dropHead s.dev)).mc = { s.dev.mc with mode := .drive, parkTimer := .stopped, floorTimer := .stopped } := by
        simp [inDrive, startSplit, dropHead, hnone]
      have hroom : (inDrive (dropHead s.dev)).txRoom = s.dev.txRoom := rfl
      dsimp only
      rw [finish_answered_notices, driveEntry_of_none _ (d := dropHead s.dev) hnone]
      cases h : s.dev.txRoom with
      | true =>
        rw [broadcastMode_of_room _ _ (hroom.trans h)]
        exact ⟨hmc, rfl, finish_answered_repliedBesideNotices (l := s.dev.sl) rfl q .ok [], fun _ => ⟨rfl, rfl, rfl⟩, nofun⟩
      | false =>
        rw [broadcastMode_of_full _ _ (hroom.trans h)]
        exact ⟨hmc, rfl, finish_answered_repliedBesideNotices (l := s.dev.sl) rfl q .ok [], nofun, fun _ => ⟨rfl, rfl⟩⟩
    · obtain h | h | h := h
      · exact absurd hmode h
      · simp [hkey] at h
      · simp [hvalid] at h
  · have hrefused : s.dev.mc.mode ≠ .standby ∨ s.dev.mc.key = false ∨ s.dev.cs.valid = false := by
      by_contra hno
      simp_all
    rw [startDriveAct_of_refused q (d := dropHead s.dev) hrefused]
    obtain ⟨hblocks, hreplied⟩ := finish_answered_justReplied s.dev q (startDriveReply (dropHead s.dev)).1 (startDriveReply (dropHead s.dev)).2
    rw [finish_answered_blocks]
    rw [finish_answered_blocks] at hreplied
    have hreply (x : Result × List Byte) (hx : startDriveReply (dropHead s.dev) = x) : s.dev.sl.repliedTo
        (finish q ((dropHead s.dev).answered (startDriveReply (dropHead s.dev)).1 (startDriveReply (dropHead s.dev)).2)).sl q x.1 x.2
        s.dev.now := hx ▸ hreplied
    have hstandby (hm : s.dev.mc.mode = .standby) : startDriveReply (dropHead s.dev) = (.notNow, [failedCondition s.dev]) := by
      simp only [startDriveReply, dropHead, Device.withSl_mc, hm]
      rfl
    refine ⟨rfl, rfl, rfl, rfl, rfl, rfl, fun hm hk hv => absurd ⟨hm, hk, hv⟩ hready, fun _ => ⟨rfl, rfl, rfl,
      fun hm hvalid => hreply (.notNow, [1]) ?_, fun hm hkey => hreply (.notNow, [2]) ?_,
      fun hm hkey hvalid => hreply (.notNow, [3]) ?_, fun hm => hreply (.ok, []) ?_, fun hm => ?_⟩⟩
    · have hkey : s.dev.mc.key = false := by simpa using fun hk => hready ⟨hm, hk, hvalid⟩
      simp [hstandby hm, failedCondition, hkey, hvalid]
    · simp [hstandby hm, failedCondition, hkey]
    · simp [hstandby hm, failedCondition, hkey, hvalid]
    · simp [startDriveReply, dropHead, hm]
    · refine hreply (.notNow, [s.dev.mc.mode.code, s.dev.gs.state.code]) ?_
      obtain hm | hm := hm <;> simp [startDriveReply, dropHead, hm, Device.modePayload]

end Sys2Proof.Machine
end

section
/-! PROOFS. The Genset Sequencer towards the port and the link: what its operations leave alone, and that an order issued and
a setpoint sent stand in the ORDER class where there is room (R110, R112, R154). -/

namespace Sys2Proof.Machine

-- A default proof `by decide` waits for the kernel: side by side the proofs would ask for a thread each.
set_option Elab.async false

variable {d d' e : Device}

/-! ## What the Sequencer's operations leave alone -/

theorem Changes.keepsBesideGenset (h : Changes (.rx :: Part.sequencer) d d') : d.keepsBesideGenset d' := by
  refine ⟨h.same .now, h.tbl, h.same .rta, h.same .rau, h.same .combiner, h.se, h.mc, h.same .config, ?_⟩
  obtain ⟨hbase, hrate⟩ := h.same .force
  obtain ⟨hctrl, herrors, hsilence⟩ := h.same .controller
  have hroster : d'.vbp.roster = d.vbp.roster := h.same .roster
  have hawards : d'.vbp.awardQueue = d.vbp.awardQueue := h.same .awardQueue
  have hlast : d'.vbp.lastAward = d.vbp.lastAward := h.same .lastAward
  have htx : d'.vbp.tx = { d.vbp.tx with orders := d'.vbp.tx.orders } := by
    have hreplies : d'.vbp.tx.replies = d.vbp.tx.replies := h.same .replies
    have hmodes : d'.vbp.tx.modes = d.vbp.tx.modes := h.same .modes
    have haward : d'.vbp.tx.awards = d.vbp.tx.awards := h.same .awards
    have hin : d'.vbp.tx.inTx = d.vbp.tx.inTx := h.same .inTx
    dsimp only
    rw [← hreplies, ← hmodes, ← haward, ← hin]
  dsimp only
  rw [← htx, ← hbase, ← hrate, ← hctrl, ← herrors, ← hsilence, ← hroster, ← hawards, ← hlast]

theorem Changes.keepsBesideGensetNotices (h : Changes (.rx :: Part.sequencer) d d') :
    d.sl.keepsBesideGensetNotices d'.sl := by
  have hnotices : d'.sl.notices =
      { d.sl.notices with gensetFault := d'.sl.notices.gensetFault, link := d'.sl.notices.link } := by
    have hsupply : d'.sl.notices.supplyFault = d.sl.notices.supplyFault := h.same (.notice .supplyFault)
    have hshort : d'.sl.notices.shortfall = d.sl.notices.shortfall := h.same (.notice .shortfall)
    have hstale : d'.sl.notices.recordStale = d.sl.notices.recordStale := h.same (.notice .recordStale)
    have hroster : d'.sl.notices.roster = d.sl.notices.roster := h.same (.notice .roster)
    have hedit : d'.sl.notices.editAbandoned = d.sl.notices.editAbandoned := h.same (.notice .editAbandoned)
    dsimp only
    rw [← hsupply, ← hshort, ← hstale, ← hroster, ← hedit]
  obtain ⟨hover, hcrc, hframe⟩ := h.same .flags
  obtain ⟨hreplies, hlost⟩ := h.same .replyFifo
  obtain ⟨hclock, hcs, hwaking⟩ := h.same .transaction
  have hrequests : d'.sl.requests = d.sl.requests := h.same .requests
  have hpresented : d'.sl.presented = d.sl.presented := h.same .presented
  have hmirror : d'.sl.mirror = d.sl.mirror := h.same .mirrorMode
  dsimp only [Link.keepsBesideGensetNotices]
  rw [← hnotices, ← hover, ← hcrc, ← hframe, ← hreplies, ← hlost, ← hclock, ← hcs, ← hwaking,
    ← hrequests, ← hpresented, ← hmirror]

theorem Sequenced.keepsBeside (h : Sequenced d d') :
    d.keepsBesideGenset d' ∧ d'.vbp.rx = d.vbp.rx ∧ d.sl.keepsBesideGensetNotices d'.sl :=
  ⟨h.changes.mono.keepsBesideGenset, h.changes.same .rx, h.changes.mono.keepsBesideGensetNotices⟩

/-! ## Frames handed to the engine (R154) -/

/-- With an engine peer enrolled and room in the queue a frame handed stands in the ORDER class. -/
theorem handToEngine_of_room {n : Nat} (p : TxFrame → Bool) (b : TxBody) (hpeer : d.enginePeer = some n)
    (hroom : d.txRoom = true) : ({ dest := .node n, body := b } : TxFrame) ∈ (handToEngine p b d).1.vbp.tx.orders ∧
      (handToEngine p b d).2 = true := by
  simp only [handToEngine, hpeer, handOrder]
  split
  · next l hl =>
    obtain ⟨a, f, b', c, -, -, -, rfl, -⟩ := replaceWaiting_some hl
    exact ⟨by simp [Device.withTx], rfl⟩
  · exact ⟨by simp [handFrame, hroom, TxQueue.set, TxQueue.get, Device.withTx], hroom⟩

/-- One frame handed takes one place of the queue at most. -/
theorem handToEngine_count (p : TxFrame → Bool) (b : TxBody) (d : Device) :
    (handToEngine p b d).1.vbp.tx.count ≤ d.vbp.tx.count + 1 := by
  unfold handToEngine
  split
  case h_2 => exact Nat.le_succ _
  unfold handOrder
  split
  · next l hl =>
    obtain ⟨a, f, b', c, horders, -, -, rfl, -⟩ := replaceWaiting_some hl
    simp [Device.withTx, TxQueue.count, horders]
  · unfold handFrame
    split
    · simp [Device.withTx, TxQueue.count, TxQueue.set, TxQueue.get]
      omega
    · exact Nat.le_succ _

/-- A setpoint sent with an engine peer enrolled and room in the queue. -/
theorem sendSetpoint_of_room {n : Nat} (hpeer : d.enginePeer = some n) (hroom : d.txRoom = true) :
    ({ dest := .node n, body := .setpoint d.gs.setpoint } : TxFrame) ∈ (sendSetpoint d).vbp.tx.orders ∧
      (sendSetpoint d).gs.lastSent = some d.gs.setpoint := by
  obtain ⟨hmem, hqueued⟩ := handToEngine_of_room TxFrame.isSetpoint (.setpoint d.gs.setpoint) hpeer hroom
  have hgs := handToEngine_gs TxFrame.isSetpoint (.setpoint d.gs.setpoint) d
  unfold sendSetpoint
  split <;> next heq => 
    rw [heq] at hmem hqueued hgs
    simp_all

theorem sendSetpoint_count (d : Device) : (sendSetpoint d).vbp.tx.count ≤ d.vbp.tx.count + 1 := by
  have hcount := handToEngine_count TxFrame.isSetpoint (.setpoint d.gs.setpoint) d
  unfold sendSetpoint
  split <;> next heq =>
    rw [heq] at hcount
    exact hcount

/-! ## Orders issued (R110) -/

/-- An order issued on a device that has the sequence of `d` and one frame more at most in its queue. -/
theorem issueOrder_issued (k : OrderKind) (h : Changes Part.sequencer d e) (hseq : e.gs.seq = d.gs.seq)
    (hcount : e.vbp.tx.count ≤ d.vbp.tx.count + 1) : d.issued (issueOrder k e) k := by
  refine ⟨by rw [issueOrder_gs, hseq], by rw [issueOrder_gs, hseq]; rfl, fun n hn hctrl hroom => ?_⟩
  obtain ⟨hctrl', -, -⟩ := h.same .controller
  have hroster : e.vbp.roster = d.vbp.roster := h.same .roster
  have hpeer (x : Genset) : (e.withGs x).enginePeer = some n := by rw [← hn, Device.enginePeer, Device.enginePeer]; simp [hroster]
  have hroom' (x : Genset) : (e.withGs x).txRoom = true := by
    simp only [Device.txRoom, Device.withGs_vbp, hctrl', Bool.and_eq_true, bne_iff_ne]
    exact ⟨hctrl, decide_eq_true (by omega)⟩
  obtain ⟨hmem, -⟩ := handToEngine_of_room TxFrame.isOrder (.order k (e.gs.seq + 1)) (hpeer _) (hroom' _)
  rw [hseq] at hmem
  unfold issueOrder
  rw [hseq]
  exact hmem

/-- What `issued` says reads of the later device the order in flight and the ORDER class alone. -/
theorem Device.issued.congr {k : OrderKind} (h : d.issued e k) (hseq : d'.gs.seq = e.gs.seq)
    (hflight : d'.gs.inFlight = e.gs.inFlight) (horders : d'.vbp.tx.orders = e.vbp.tx.orders) : d.issued d' k := by
  rw [Device.issued, hseq, hflight, horders]
  exact h

/-- What `issued` says reads of the earlier device the order sequence, the roster, the controller and the queue alone. -/
theorem Device.issued.from {k : OrderKind} (h : e.issued d' k) (hseq : e.gs.seq = d.gs.seq)
    (hroster : e.vbp.roster = d.vbp.roster) (hctrl : e.vbp.ctrl = d.vbp.ctrl) (hcount : e.vbp.tx.count = d.vbp.tx.count) :
    d.issued d' k := by
  have hpeer : e.enginePeer = d.enginePeer := by rw [Device.enginePeer, hroster, Device.enginePeer]
  rwa [Device.issued, ← hseq, ← hpeer, ← hctrl, ← hcount]

theorem stopToOff_issued_of (h : Changes Part.sequencer d e) (hseq : e.gs.seq = d.gs.seq)
    (hcount : e.vbp.tx.count ≤ d.vbp.tx.count + 1) : d.issued (stopToOff e) .stop :=
  (issueOrder_issued .stop h hseq hcount).congr rfl rfl rfl

theorem stopToOff_issued (d : Device) : d.issued (stopToOff d) .stop :=
  stopToOff_issued_of (.refl d) rfl (Nat.le_succ _)

theorem enterCranking_issued (d : Device) : d.issued (enterCranking d) .start :=
  (issueOrder_issued .start (.refl d) rfl (Nat.le_succ _)).congr rfl rfl rfl

theorem startFailed_issued (d : Device) : d.issued (startFailed d) .stop := by
  have hissued := issueOrder_issued .stop (.refl d) rfl (Nat.le_succ _)
  unfold startFailed
  dsimp only
  split
  · exact hissued.congr rfl rfl rfl
  · exact hissued.congr rfl rfl rfl

/-- A cooldown time of 0 leaves COOLDOWN by a STOP, behind the SETPOINT that its entry may send (R112, R118). -/
theorem enterCooldown_issued (d : Device) : d.issued (enterCooldown 0 d) .stop := by
  have hsent (x : Genset) : Sequenced d (sendSetpointIfNew (d.withGs x)) := .trans (.withGs x d) (sendSetpointIfNew_sequenced _)
  have hcount (x : Genset) : (sendSetpointIfNew (d.withGs x)).vbp.tx.count ≤ d.vbp.tx.count + 1 := by
    unfold sendSetpointIfNew
    split
    · exact Nat.le_succ _
    · exact sendSetpoint_count _
  have hseq (x : Genset) (hx : x.seq = d.gs.seq) : (sendSetpointIfNew (d.withGs x)).gs.seq = d.gs.seq := by
    rw [sendSetpointIfNew_gs_eq]
    exact hx
  exact stopToOff_issued_of (hsent _).changes (hseq _ rfl) (hcount _)

end Sys2Proof.Machine
end

section
/-! PROOFS. The Genset Sequencer's commands: its timers, the acknowledgement timer, FORCE_GENSET and CLEAR_LOCKOUT (R108 to
R128). -/

namespace Sys2Proof.Machine

-- A default proof `by decide` waits for the kernel: side by side the proofs would ask for a thread each.
set_option Elab.async false

variable {d d' e : Device}

/-! ## Notices -/

/-- A failed start raises GENSET_FAULT with LOCKOUT where the crank limit is reached (R115). -/
theorem startFailed_notice (d : Device) : (startFailed d).sl.notices.gensetFault =
    if (d.gs.crankCount : Int) + 1 = d.cs.crankLimit then
      some (NoticeEntry.raised d.sl.notices.gensetFault 2) else d.sl.notices.gensetFault := by
  have hissued : (issueOrder .stop d).sl.notices.gensetFault = d.sl.notices.gensetFault :=
    ((Changes.withGs (ps := [.genset, .orders, .notice .link]) _ d).trans (handToEngine_changes _ _ _).mono).same (.notice .gensetFault)
  simp only [startFailed, issueOrder_gs, issueOrder_cs, Device.withGs_cs, Device.withGs_gs, Nat.cast_add, Nat.cast_one]
  split
  · rw [← hissued]
    rfl
  · exact hissued

/-! ## Timers -/

/-- A timer started for a time in seconds. -/
theorem PhaseTimer.start_seconds (n : Nat) : PhaseTimer.start (n * 1000) = if n = 0 then .elapsed else .running (n * 1000) := by
  simp [PhaseTimer.start]

/-- Settles O37: timer by timer. -/
theorem gensetTimersExpire : Obligations.GensetTimersExpire := by
  intro s
  refine ⟨fun hruns => ?_, fun hruns => ?_, fun hruns => ?_, fun hruns => ?_, fun hruns => ?_⟩
  · obtain ⟨hbeside, hrx, hlink⟩ := (startFailed_sequenced s.dev).keepsBeside
    have hact : actOf .crankTimerExpiry s.dev = startFailed s.dev := if_pos hruns
    have hgs := startFailed_gs s.dev
    have hnotice := startFailed_notice s.dev
    refine ⟨startFailed s.dev, (exec_eq _ s).trans (by rw [hact]), hbeside, hrx, hlink, startFailed_issued s.dev, ?_, ?_, ?_, fun hl => ?_, fun hl => ?_⟩
    · rw [hgs]; split <;> rfl
    · rw [hgs]; split <;> rfl
    · rw [hgs]; split <;> rfl
    · rw [hgs, hnotice, if_pos hl, if_pos hl]
      exact ⟨rfl, rfl⟩
    · rw [hgs, hnotice, if_neg hl, if_neg hl]
      exact ⟨rfl, rfl⟩
  · obtain ⟨hbeside, hrx, hlink⟩ := (enterRunning_sequenced s.dev).keepsBeside
    have hact : actOf .warmTimerExpiry s.dev = enterRunning s.dev := if_pos hruns
    exact ⟨enterRunning s.dev, (exec_eq _ s).trans (by rw [hact]), hbeside, hrx, hlink, enterRunning_gs s.dev,
      fun n hn hroom => sendSetpoint_of_room (d := s.dev.withGs { s.dev.gs with state := .running, warmTimer := .stopped }) hn hroom⟩
  · obtain ⟨hbeside, hrx, hlink⟩ := (stopToOff_sequenced s.dev).keepsBeside
    have hact : actOf .cooldownTimerExpiry s.dev = stopToOff s.dev := if_pos hruns
    refine ⟨stopToOff s.dev, (exec_eq _ s).trans (by rw [hact]), hbeside, hrx, hlink, stopToOff_issued s.dev, ?_⟩
    rw [stopToOff_gs]
    exact ⟨rfl, rfl, rfl, rfl, PhaseTimer.start_seconds _⟩
  · simp [exec_eq, actOf, minOnExpiry, hruns, Device.withGs]
  · simp [exec_eq, actOf, minOffExpiry, hruns, Device.withGs]

/-- Settles O38: by the resend count against the limit. -/
theorem acknowledgementExpiryResendsOrLocksOut : Obligations.AcknowledgementExpiryResendsOrLocksOut := by
  intro s o ho
  obtain ⟨hbeside, hrx, hlink⟩ := (ackExpiry_sequenced s.dev).keepsBeside
  refine ⟨ackExpiry s.dev, exec_eq .acknowledgementTimerExpiry s, hbeside, hrx, hlink, fun hbelow => ?_, fun hlimit => ?_⟩
  · have hact : ackExpiry s.dev = handOrderAgain o
        (s.dev.withGs { s.dev.gs with inFlight := some { o with resends := o.resends + 1, timer := ackMs } }) := by
      simp [ackExpiry, ho, hbelow]
    rw [hact]
    refine ⟨by simp [handOrderAgain, ackMs], ?_, fun n hn hroom => ?_⟩
    · exact (handToEngine_changes _ _ _).same (.notice .gensetFault)
    · have hhanded (x : Genset) := handToEngine_of_room (d := s.dev.withGs x) TxFrame.isOrder (.order o.kind o.seq) hn hroom
      exact (hhanded _).1
  · have hact : ackExpiry s.dev = raiseGensetFault .orderUnacked
        ((enterLockout s.dev).withGs { (enterLockout s.dev).gs with inFlight := none, crankCount := s.dev.cs.crankLimit.toNat }) := by
      simp [ackExpiry, ho, not_lt.mpr hlimit]
    rw [hact]
    exact ⟨rfl, rfl, rfl, rfl, rfl, rfl, rfl⟩

/-! ## Reports (R109, R115, R122, R123) -/

/-- A report that the Sequencer acts on: no order is left in flight. -/
theorem deliverReport_of_taken {f : RxFrame} {x : EngineState} (hpeer : d.enginePeer = some f.node) (hlen : 3 ≤ f.data.length)
    (hstate : EngineState.ofByte (byteAt f.data 2) = some x)
    (hecho : ∀ o, d.gs.inFlight = some o → o.seq = byteAt f.data 1) :
    deliverReport f d = actOnReport x (d.withGs { d.gs with inFlight := none }) := by
  have hengine : (d.isEngine f.node && decide (3 ≤ f.data.length)) = true := by simp [Device.isEngine, hpeer, hlen]
  rw [deliverReport, if_pos hengine, hstate]
  dsimp only [takeReport]
  cases hflight : d.gs.inFlight with
  | some o => simp [hecho o hflight]
  | none =>
    have hsame : d.withGs { d.gs with inFlight := none } = d := by rw [← hflight]; rfl
    rw [hsame]

theorem deliverReport_of_discarded {f : RxFrame} (h : d.enginePeer ≠ some f.node ∨ f.data.length < 3 ∨
    EngineState.ofByte (byteAt f.data 2) = none ∨ ∃ o, d.gs.inFlight = some o ∧ o.seq ≠ byteAt f.data 1) :
    deliverReport f d = d := by
  unfold deliverReport
  split
  case isFalse => rfl
  next hengine =>
    simp only [Bool.and_eq_true, decide_eq_true_eq, Device.isEngine] at hengine
    split
    case h_2 => rfl
    next x hx =>
      obtain h | h | h | ⟨o, ho, hne⟩ := h
      · exact absurd hengine.1 h
      · omega
      · rw [h] at hx; cases hx
      · simp [takeReport, ho, hne]

/-- The device with the oldest report out of the receive buffer. -/
def withoutReport (d : Device) : Device := d.withVbp { d.vbp with rx := d.vbp.rx.eraseP isReportFrame }

/-- The device on which the Sequencer acts on a report: the order in flight is acknowledged. -/
def reportTaken (d : Device) : Device := (withoutReport d).withGs { d.gs with inFlight := none }

theorem engineReport_of_found {f : RxFrame} (hf : d.vbp.rx.find? isReportFrame = some f) :
    engineReport d = deliverReport f (withoutReport d) := by
  rw [engineReport, hf]
  rfl

theorem coolantWarm_or_iff (d : Device) : (d.coolantWarm || d.cs.warmMs = 0) = true ↔
    (d.bc.coolantPresent = true ∧ d.cs.warmThreshold ≤ d.bc.coolant) ∨ d.cs.warmTimeMax.toNat = 0 := by
  simp [Device.coolantWarm, ConfigSet.warmMs]

/-- An unexpected run is answered with a STOP and a notice (R123). -/
theorem actOnReport_of_unexpected {x : EngineState} (hrest : d.gs.state.atRest = true) (hx : x = .running ∨ x = .cranking) :
    actOnReport x d = issueOrder .stop (raiseGensetFault .unexpectedRun d) := by
  obtain rfl | rfl := hx <;> cases hstate : d.gs.state <;> simp_all [actOnReport, GensetState.atRest]

/-- A report that tells nothing new is not acted on. -/
theorem actOnReport_of_expected {x : EngineState}
    (h : d.gs.state.atRest = true ∧ (x = .stopped ∨ x = .stalled) ∨
      d.gs.state.atRest = false ∧ (x = .cranking ∨ x = .running ∧ d.gs.state ≠ .cranking)) : actOnReport x d = d := by
  unfold actOnReport
  cases hstate : d.gs.state <;> cases x <;> simp_all [GensetState.atRest]

theorem issueOrder_notice (k : OrderKind) (d : Device) : (issueOrder k d).sl.notices.gensetFault = d.sl.notices.gensetFault :=
  ((Changes.withGs (ps := [.genset, .orders, .notice .link]) _ d).trans (handToEngine_changes _ _ _).mono).same
    (.notice .gensetFault)

/-- Settles O36: by what discards a report, then by the genset state. -/
theorem engineReportActsByState : Obligations.EngineReportActsByState := by
  intro s f hf
  have hact : actOf .engineReport s.dev = deliverReport f (withoutReport s.dev) := engineReport_of_found hf
  have hchanges := engineReport_changes s.dev
  refine ⟨actOf .engineReport s.dev, exec_eq _ s, hchanges.keepsBesideGenset, ?_, hchanges.keepsBesideGensetNotices, fun hbad => ?_,
    fun x hpeer hlen hbyte hecho => ?_⟩
  · rw [hact]
    exact (deliverReport_sequenced f _).changes.same .rx
  · rw [hact, deliverReport_of_discarded (d := withoutReport s.dev) hbad]
    rfl
  have htaken : deliverReport f (withoutReport s.dev) = actOnReport x (reportTaken s.dev) :=
    deliverReport_of_taken (d := withoutReport s.dev) hpeer hlen hbyte hecho
  have hissued {d' : Device} {k : OrderKind} (h : (reportTaken s.dev).issued d' k) : s.dev.issued d' k := h.from rfl rfl rfl rfl
  rw [hact, htaken]
  refine ⟨fun hstate hx => ?_, fun hstate hx => ?_, fun hstate hx => ?_, fun hrest hx => ?_, fun hnone => ?_⟩
  · have hstarted : actOnReport x (reportTaken s.dev) = engineStarted (reportTaken s.dev) := by
      simp [actOnReport, reportTaken, hstate, hx]
    rw [hstarted, engineStarted_gs]
    refine ⟨rfl, rfl, rfl, rfl, rfl, PhaseTimer.start_seconds _, ?_, fun hwarmup => ?_⟩
    · exact if_congr (coolantWarm_or_iff s.dev) rfl rfl
    · have hcold : ¬ ((reportTaken s.dev).coolantWarm || decide ((reportTaken s.dev).cs.warmMs = 0)) = true := by
        intro hwarm
        simp [hwarm] at hwarmup
      exact if_neg hcold
  · have hfailed : actOnReport x (reportTaken s.dev) = startFailed (reportTaken s.dev) := by
      obtain rfl | rfl := hx <;> simp [actOnReport, reportTaken, hstate]
    rw [hfailed]
    refine ⟨hissued (startFailed_issued _), ?_⟩
    rw [startFailed_gs]
    have hsame : (reportTaken s.dev).gs.crankCount = s.dev.gs.crankCount ∧ (reportTaken s.dev).cs = s.dev.cs := ⟨rfl, rfl⟩
    split <;> simp_all
  · have hstalled : actOnReport x (reportTaken s.dev) = stall (reportTaken s.dev) := by
      obtain rfl | rfl := hx <;> obtain h | h | h := hstate <;> simp [actOnReport, reportTaken, h]
    rw [hstalled]
    exact ⟨rfl, rfl, rfl, rfl, rfl, rfl⟩
  · rw [actOnReport_of_unexpected (d := reportTaken s.dev) hrest hx, issueOrder_notice]
    refine ⟨by rw [issueOrder_gs]; rfl, by rw [issueOrder_gs]; rfl, hissued ?_, rfl⟩
    exact issueOrder_issued .stop (raiseGensetFault_sequenced _ _).changes rfl (Nat.le_succ _)
  · rw [actOnReport_of_expected (d := reportTaken s.dev) hnone]
    rfl

/-! ## Supervisor requests (R126, R127) -/

/-- The device with the force setting taken. -/
def withForce (x : Force) (d : Device) : Device := d.withGs { d.gs with force := x }

/-- What a force setting does in each genset state (R126). -/
theorem applyForce_of_kept {x : Force} (h : x ≠ .off ∨ d.gs.state = .cooldown ∨ d.gs.state.atRest = true) :
    applyForce x d = withForce x d := by
  unfold applyForce
  cases x with
  | auto | on => rfl
  | off => cases hstate : d.gs.state <;> simp_all [GensetState.atRest, withForce]

theorem applyForce_of_cranking (h : d.gs.state = .cranking) : applyForce .off d = stopToOff (withForce .off d) := by
  simp [applyForce, h, withForce]

theorem applyForce_of_burning (h : d.gs.state = .warmup ∨ d.gs.state = .running) :
    applyForce .off d = enterCooldown d.cs.cooldownMs (withForce .off d) := by
  obtain h | h := h <;> simp [applyForce, h, withForce]

theorem applyForce_gs (x : Force) (d : Device) :
    (applyForce x d).gs.force = x ∧ (applyForce x d).gs.crankCount = d.gs.crankCount := by
  by_cases h : x ≠ .off ∨ d.gs.state = .cooldown ∨ d.gs.state.atRest = true
  · rw [applyForce_of_kept h]
    exact ⟨rfl, rfl⟩
  have hoff : x = .off := by simpa using fun hx => h (.inl hx)
  subst hoff
  cases hstate : d.gs.state with
  | cranking =>
    rw [applyForce_of_cranking hstate, stopToOff_gs]
    exact ⟨rfl, rfl⟩
  | warmup | running =>
    rw [applyForce_of_burning (by simp [hstate]), enterCooldown_gs]
    split <;> exact ⟨rfl, rfl⟩
  | off | lockout | cooldown => simp [hstate, GensetState.atRest] at h

theorem Sequenced.link_eq {l : Link} (h : Sequenced d e) (hl : d.sl = { l with requests := l.requests.tail }) :
    e.sl = { l with requests := l.requests.tail, notices := e.sl.notices } := by
  obtain ⟨-, -, hlink⟩ := h.keepsBeside
  have hnotices : e.sl.notices = { d.sl.notices with gensetFault := e.sl.notices.gensetFault, link := e.sl.notices.link } := by
    rw [hlink]
  rw [Link.keepsBesideGensetNotices, ← hnotices, hl] at hlink
  exact hlink

theorem clearLockout_of_lockout (h : d.gs.state = .lockout) :
    clearLockout d = enterOff (d.withGs { d.gs with crankCount := 0 }) := if_pos h

theorem clearLockout_of_not (h : d.gs.state ≠ .lockout) : clearLockout d = d := if_neg h

/-- Settles O35: by the setting forced and the genset state. -/
theorem gensetRequestsTakeEffect : Obligations.GensetRequestsTakeEffect := by
  refine ⟨fun s q hq => ?_, fun s q hq => ?_⟩
  · have hact : actOf .forceGenset s.dev = finish q (forceGensetAct q (dropHead s.dev)) := takeRequest_of_headIs hq _
    refine ⟨actOf .forceGenset s.dev, exec_eq _ s, ?_⟩
    rw [hact]
    cases hbyte : Force.ofByte (byteAt q.payload 0) with
    | none =>
      have hrefused : forceGensetAct q (dropHead s.dev) = (dropHead s.dev).answered .badRequest s.dev.gensetPayload := by
        rw [forceGensetAct, hbyte]
        rfl
      obtain ⟨hblocks, hreplied⟩ := finish_answered_justReplied s.dev q .badRequest s.dev.gensetPayload
      rw [hrefused, hblocks]
      exact ⟨⟨rfl, rfl, rfl, rfl, rfl, rfl, rfl, rfl, rfl⟩, rfl, fun _ => ⟨rfl, rfl, hreplied⟩, nofun⟩
    | some x =>
      obtain ⟨hforce, hcount⟩ := applyForce_gs x (dropHead s.dev)
      have htaken : forceGensetAct q (dropHead s.dev) = (applyForce x (dropHead s.dev)).answered .ok
          [(applyForce x (dropHead s.dev)).gs.state.code, natByte s.dev.gs.crankCount, x.code] := by
        have hcount' : (applyForce x (dropHead s.dev)).gs.crankCount = s.dev.gs.crankCount := hcount
        rw [forceGensetAct, hbyte, ← hcount']
        dsimp only [Device.gensetPayload]
        rw [hforce]
      have hsequenced := applyForce_sequenced x (dropHead s.dev)
      obtain ⟨hbeside, hrx, -⟩ := hsequenced.keepsBeside
      have hnow : (applyForce x (dropHead s.dev)).now = s.dev.now := hsequenced.changes.same .now
      have hreplied := finish_answered_repliedBesideNotices (hsequenced.link_eq (l := s.dev.sl) rfl) q .ok
        [(applyForce x (dropHead s.dev)).gs.state.code, natByte s.dev.gs.crankCount, x.code]
      have hnotices := finish_answered_notices q (applyForce x (dropHead s.dev)) .ok
        [(applyForce x (dropHead s.dev)).gs.state.code, natByte s.dev.gs.crankCount, x.code]
      rw [hnow] at hreplied
      rw [htaken, finish_answered_blocks]
      refine ⟨hbeside, hrx, nofun, fun x' hx => ?_⟩
      obtain rfl : x = x' := by simpa using hx
      have hissued {d' : Device} {k : OrderKind} (h : (withForce .off (dropHead s.dev)).issued d' k) : s.dev.issued d' k :=
        h.from rfl rfl rfl rfl
      refine ⟨hforce, hcount, hreplied, fun hkept => ?_, fun hoff hcrank => ?_, fun hoff hburning => ?_⟩
      · have hkeeps := applyForce_of_kept (d := dropHead s.dev) hkept
        exact ⟨by dsimp only; rw [hkeeps]; rfl, by dsimp only; rw [hkeeps]; rfl, hnotices.trans (by rw [hkeeps]; rfl)⟩
      · subst hoff
        dsimp only
        rw [applyForce_of_cranking (d := dropHead s.dev) hcrank]
        refine ⟨rfl, hissued ((stopToOff_issued _).congr rfl rfl rfl), rfl, rfl⟩
      · subst hoff
        dsimp only
        rw [applyForce_of_burning (d := dropHead s.dev) hburning]
        by_cases hzero : s.dev.cs.cooldown.toNat = 0
        · have hms : (dropHead s.dev).cs.cooldownMs = 0 := by simp [ConfigSet.cooldownMs, dropHead, hzero]
          rw [hms]
          refine ⟨?_, fun _ => ⟨?_, hissued ((enterCooldown_issued _).congr rfl rfl rfl)⟩, fun h => absurd hzero h⟩
          · rw [enterCooldown_gs]; rfl
          · rw [enterCooldown_gs]; rfl
        · have hms : (dropHead s.dev).cs.cooldownMs ≠ 0 := by simp [ConfigSet.cooldownMs, dropHead, hzero]
          rw [enterCooldown_gs, if_neg hms]
          exact ⟨rfl, fun h => absurd h hzero, fun _ => ⟨rfl, rfl, rfl, rfl⟩⟩
  · have hact : actOf .clearLockout s.dev = finish q (clearLockoutAct q (dropHead s.dev)) := takeRequest_of_headIs hq _
    refine ⟨actOf .clearLockout s.dev, exec_eq _ s, ?_⟩
    rw [hact, clearLockoutAct]
    by_cases hlockout : s.dev.gs.state = .lockout
    · rw [clearLockout_of_lockout (d := dropHead s.dev) hlockout]
      refine ⟨by rw [finish_answered_blocks]; rfl, ?_, fun h => absurd hlockout h, fun _ => ?_⟩
      · have hreplied := finish_answered_repliedTo (l := s.dev.sl)
          (d := enterOff ((dropHead s.dev).withGs { (dropHead s.dev).gs with crankCount := 0 })) rfl q .ok
          (enterOff ((dropHead s.dev).withGs { (dropHead s.dev).gs with crankCount := 0 })).gensetPayload
        rw [finish_answered_blocks] at hreplied ⊢
        exact hreplied
      rw [finish_answered_blocks]
      exact ⟨rfl, rfl, rfl, rfl, rfl, rfl, PhaseTimer.start_seconds _⟩
    · rw [clearLockout_of_not (d := dropHead s.dev) hlockout]
      obtain ⟨hblocks, hreplied⟩ := finish_answered_justReplied s.dev q .ok (dropHead s.dev).gensetPayload
      rw [hblocks]
      exact ⟨rfl, hreplied, fun _ => rfl, fun h => absurd h hlockout⟩

end Sys2Proof.Machine
end

section
/-! PROOFS. The Genset Sequencer's evaluation at a pass completion (R112 to R120). -/

namespace Sys2Proof.Machine

-- A default proof `by decide` waits for the kernel: side by side the proofs would ask for a thread each.
set_option Elab.async false

variable {d d' e : Device}

/-! ## The completion around the evaluation -/

/-- The device that the Sequencer evaluates: the pass published and its awards queued. -/
def published (p : Pass) (d : Device) : Device :=
  let d' := publishPass p d
  queueAwards (handedAwards (writtenAnswers p d.tbl.slots) d') d'

theorem published_changes (p : Pass) (d : Device) : Changes (.draws :: Part.publication) d (published p d) :=
  (publishPass_changes p d).mono.trans (queueAwards_changes _ _).mono

theorem published_shortfall (p : Pass) (d : Device) : (published p d).se.shortfall = nextRun p.fig d.se.shortfall := by
  have hqueue (x : List AwardEntry) (e : Device) : (queueAwards x e).se = e.se := rfl
  rw [published, hqueue, publishPass, freeSlots_se, raiseShortfall]
  split <;> rfl

theorem completed_eq_evaluate (p : Pass) (d : Device) : completed p d =
    floorCheck p.snap.mode (evaluate (handedFigures p (nextRun p.fig d.se.shortfall)) (published p d)) := by
  rw [← published_shortfall]
  rfl

theorem passCompletion_of_awake {p : Pass} (hp : d.se.pass = some p) (h : d.mc.sleepPending = none) :
    passCompletion d = completed p d := by
  simp only [passCompletion, hp, completePass_eq, sleepIfPending]
  rw [completed_sleepPending p d, h]

theorem Changes.tx {ps : List Part} (h : Changes ps d d')
    (hps : .orders ∉ ps ∧ .replies ∉ ps ∧ .modes ∉ ps ∧ .awards ∉ ps ∧ .inTx ∉ ps := by decide) : d'.vbp.tx = d.vbp.tx := by
  obtain ⟨horders, hreplies, hmodes, hawards, hin⟩ := hps
  have ho : d'.vbp.tx.orders = d.vbp.tx.orders := h.same .orders horders
  have hr : d'.vbp.tx.replies = d.vbp.tx.replies := h.same .replies hreplies
  have hm : d'.vbp.tx.modes = d.vbp.tx.modes := h.same .modes hmodes
  have ha : d'.vbp.tx.awards = d.vbp.tx.awards := h.same .awards hawards
  have hi : d'.vbp.tx.inTx = d.vbp.tx.inTx := h.same .inTx hin
  cases hq : d'.vbp.tx
  simp_all

/-! ## The evaluation, state by state -/

theorem startWish_iff (x : Handed) (d : Device) : startWish x d = true ↔
    x.mode = .drive ∧ d.mc.mode = .drive ∧ d.bc.permit = true ∧ d.gs.minOff = .elapsed ∧ d.gs.force ≠ .off ∧
      (d.bc.s ≤ d.cs.sStart ∨ 3 ≤ x.runCount ∨ d.gs.force = .on) := by
  simp [startWish, and_assoc, or_assoc]

theorem stopWish_iff (x : Handed) (d : Device) : stopWish x d = true ↔
    d.gs.minOn = .elapsed ∧ d.cs.sStop ≤ d.bc.s ∧ x.runCount = 0 ∧ x.n - x.pp ≤ 0 ∧ d.gs.force ≠ .on := by
  simp [stopWish, and_assoc]

theorem coolantWarm_iff (d : Device) :
    d.coolantWarm = true ↔ d.bc.coolantPresent = true ∧ d.cs.warmThreshold ≤ d.bc.coolant := by
  simp [Device.coolantWarm]

/-- The evaluation where the permit is lost: the genset is stopped at once (R116). -/
theorem evaluate_of_unpermitted (x : Handed) (hpermit : d.bc.permit = false) (hbusy : d.gs.state.atRest = false) :
    evaluate x d = modeChangeStop d := by
  cases h : d.gs.state <;> simp_all [evaluate, modeChangeStop, GensetState.atRest]

/-- A stop wished for in WARMUP or RUNNING begins the cooldown (R118, R119). -/
theorem evaluate_of_stopping (x : Handed) (hstate : d.gs.state = .warmup ∨ d.gs.state = .running) (hpermit : d.bc.permit = true)
    (hstop : d.gs.force = .off ∨ stopWish x d = true) : evaluate x d = enterCooldown d.cs.cooldownMs d := by
  obtain h | h := hstate <;> by_cases hforce : d.gs.force = .off <;> simp_all [evaluate]

/-- With no stop wished for, WARMUP ends where the coolant is warm, and otherwise the setpoint is taken (R112, R117). -/
theorem evaluate_of_burning (x : Handed) (hstate : d.gs.state = .warmup ∨ d.gs.state = .running) (hpermit : d.bc.permit = true)
    (hforce : d.gs.force ≠ .off) (hstop : stopWish x d = false) :
    evaluate x d = if d.gs.state = .warmup ∧ d.coolantWarm = true then enterRunning d else takeSetpoint x d := by
  obtain h | h := hstate <;> simp [evaluate, h, hpermit, hforce, hstop]

/-- The setpoint taken: sent where it differs from the last one sent (R112). -/
theorem takeSetpoint_sent (x : Handed) (d : Device) :
    (d.gs.lastSent = some x.gset → (takeSetpoint x d).gs.lastSent = some x.gset ∧ (takeSetpoint x d).vbp.tx = d.vbp.tx) ∧
      (d.gs.lastSent ≠ some x.gset → ∀ n, d.enginePeer = some n → d.txRoom = true →
        (takeSetpoint x d).gs.lastSent = some x.gset ∧
        ({ dest := .node n, body := .setpoint x.gset } : TxFrame) ∈ (takeSetpoint x d).vbp.tx.orders) := by
  have hset : takeSetpoint x d = if d.gs.lastSent = some x.gset then d.withGs { d.gs with setpoint := x.gset }
      else sendSetpoint (d.withGs { d.gs with setpoint := x.gset }) := rfl
  rw [hset]
  refine ⟨fun hsame => ?_, fun hnew n hn hroom => ?_⟩
  · rw [if_pos hsame]
    exact ⟨hsame, rfl⟩
  · rw [if_neg hnew]
    obtain ⟨hmem, hlast⟩ := sendSetpoint_of_room (d := d.withGs { d.gs with setpoint := x.gset }) hn hroom
    exact ⟨hlast, hmem⟩

theorem modeChangeStop_issued (h : d.gs.state.atRest = false) : d.issued (modeChangeStop d) .stop ∧
    (modeChangeStop d).gs.state = .off ∧ (modeChangeStop d).gs.setpoint = 0 ∧
      (modeChangeStop d).gs.crankCount = d.gs.crankCount := by
  have hcool : d.issued (enterCooldown 0 d) .stop ∧ (enterCooldown 0 d).gs.state = .off ∧ (enterCooldown 0 d).gs.setpoint = 0 ∧
      (enterCooldown 0 d).gs.crankCount = d.gs.crankCount := by
    refine ⟨enterCooldown_issued d, ?_⟩
    rw [enterCooldown_gs]
    exact ⟨rfl, rfl, rfl⟩
  have hstop : d.issued (stopToOff d) .stop ∧ (stopToOff d).gs.state = .off ∧ (stopToOff d).gs.setpoint = 0 ∧
      (stopToOff d).gs.crankCount = d.gs.crankCount := ⟨stopToOff_issued d, rfl, rfl, by rw [stopToOff_gs]⟩
  unfold modeChangeStop
  cases hstate : d.gs.state with
  | cranking | cooldown => exact hstop
  | warmup | running => exact hcool
  | off | lockout => simp [hstate, GensetState.atRest] at h

/-- A completion on its way to the Sequencer: the earlier device, the evaluated one, and the later one. -/
structure EvaluatedBetween (d e E d' : Device) : Prop where
  gs : e.gs = d.gs
  bc : e.bc = d.bc
  cs : e.cs = d.cs
  mode : e.mc.mode = d.mc.mode
  roster : e.vbp.roster = d.vbp.roster
  ctrl : e.vbp.ctrl = d.vbp.ctrl
  tx : e.vbp.tx = d.vbp.tx
  fault : e.sl.notices.gensetFault = d.sl.notices.gensetFault
  gsAfter : d'.gs = E.gs
  vbpAfter : d'.vbp = E.vbp
  slAfter : d'.sl = E.sl

theorem completed_evaluatedBetween (p : Pass) (d : Device) : EvaluatedBetween d (published p d)
    (evaluate (handedFigures p (nextRun p.fig d.se.shortfall)) (published p d)) (completed p d) := by
  have h := published_changes p d
  have hfloor (m : Mode) (e : Device) : (floorCheck m e).gs = e.gs ∧ (floorCheck m e).vbp = e.vbp ∧ (floorCheck m e).sl = e.sl := by
    unfold floorCheck
    split <;> exact ⟨rfl, rfl, rfl⟩
  obtain ⟨hctrl, -, -⟩ := h.same .controller
  rw [completed_eq_evaluate]
  obtain ⟨hgs, hvbp, hsl⟩ := hfloor p.snap.mode (evaluate (handedFigures p (nextRun p.fig d.se.shortfall)) (published p d))
  exact ⟨h.same .genset, h.same .combiner, h.same .config, h.same .mode, h.same .roster, hctrl, h.tx,
    h.same (.notice .gensetFault), hgs, hvbp, hsl⟩

section
variable {d d' e E : Device} (h : EvaluatedBetween d e E d')
include h

theorem EvaluatedBetween.issued {k : OrderKind} (hissued : e.issued E k) : d.issued d' k :=
  (hissued.congr (by rw [h.gsAfter]) (by rw [h.gsAfter]) (by rw [h.vbpAfter])).from (by rw [h.gs]) h.roster h.ctrl (by rw [h.tx])

theorem EvaluatedBetween.enginePeer : e.enginePeer = d.enginePeer := by
  rw [Device.enginePeer, h.roster, Device.enginePeer]

theorem EvaluatedBetween.txRoom : e.txRoom = d.txRoom := by
  rw [Device.txRoom, h.ctrl, h.tx, Device.txRoom]

end

/-- Settles O39: the wishes of the evaluation, state by state. -/
theorem completionEvaluatesGenset : Obligations.CompletionEvaluatesGenset := by
  intro s p hp hawake
  have hact : actOf .passCompletion s.dev = completed p s.dev := passCompletion_of_awake hp hawake
  refine ⟨completed p s.dev, (exec_eq _ s).trans (by rw [hact]), fun run start stop warm hrun hstart hstop hwarm => ?_⟩
  obtain rfl : run = nextRun p.fig s.dev.se.shortfall := hrun
  have h := completed_evaluatedBetween p s.dev
  generalize hx : handedFigures p (nextRun p.fig s.dev.se.shortfall) = x at h
  generalize published p s.dev = e at h
  have hstart' : startWish x e = start := by
    rw [Bool.eq_iff_iff, startWish_iff, hstart, h.gs, h.bc, h.cs, h.mode, ← hx]
    rfl
  have hstop' : stopWish x e = stop := by
    rw [Bool.eq_iff_iff, stopWish_iff, hstop, h.gs, h.bc, h.cs, ← hx]
    rfl
  have hwarm' : e.coolantWarm = warm := by
    rw [Bool.eq_iff_iff, coolantWarm_iff, hwarm, h.bc, h.cs]
  have hstate : e.gs.state = s.dev.gs.state := by rw [h.gs]
  have hpermit : e.bc.permit = s.dev.bc.permit := by rw [h.bc]
  have hforce : e.gs.force = s.dev.gs.force := by rw [h.gs]
  have hkept (heq : evaluate x e = e) : (completed p s.dev).gs = s.dev.gs := by rw [h.gsAfter, heq, h.gs]
  have hunpermitted (hbusy : s.dev.gs.state.atRest = false) (hlost : s.dev.bc.permit = false) :
      (completed p s.dev).gs.state = .off ∧ s.dev.issued (completed p s.dev) .stop ∧ (completed p s.dev).gs.setpoint = 0 := by
    have hbusy' : e.gs.state.atRest = false := by rw [hstate, hbusy]
    obtain ⟨hissued, hoff, hset, -⟩ := modeChangeStop_issued hbusy'
    rw [evaluate_of_unpermitted x (hpermit.trans hlost) hbusy'] at h
    exact ⟨by rw [h.gsAfter, hoff], h.issued hissued, by rw [h.gsAfter, hset]⟩
  refine ⟨fun hoff hwish hpeer => ?_, fun hoff hwish hpeer => ?_, fun hoff hwish => ?_, fun hst hlost => ?_, fun hst hf => ?_,
    fun hst hperm hf => ?_, fun hst hperm => ?_, fun hst => ?_, fun hst => ⟨fun hlost => ?_, fun hperm hwish => ?_, fun hperm hf hwish => ?_⟩⟩
  · have heq : evaluate x e = enterCranking e := by simp [evaluate, hstate, hoff, evaluateOff, hstart', hwish, h.enginePeer, hpeer]
    rw [heq] at h
    refine ⟨?_, h.issued (enterCranking_issued e), ?_⟩
    · rw [h.gsAfter]; rfl
    · rw [h.gsAfter, enterCranking_gs, h.cs]; rfl
  · have heq : evaluate x e = if e.gs.noEngine then e else
        (raiseGensetFault .noEngine e).withGs { (raiseGensetFault .noEngine e).gs with noEngine := true } := by
      simp [evaluate, hstate, hoff, evaluateOff, hstart', hwish, h.enginePeer, hpeer]
    rw [heq] at h
    rw [h.gsAfter, h.slAfter]
    cases hmark : s.dev.gs.noEngine with
    | true =>
      rw [if_pos (by rw [h.gs, hmark]), h.gs, h.fault]
      exact ⟨by rw [← hmark], nofun, fun _ => rfl⟩
    | false =>
      rw [if_neg (by rw [h.gs, hmark]; exact Bool.false_ne_true), Device.withGs_gs, raiseGensetFault_gs, h.gs]
      exact ⟨rfl, fun _ => by rw [← h.fault]; rfl, nofun⟩
  · exact hkept (by simp [evaluate, hstate, hoff, evaluateOff, hstart', hwish])
  · exact hunpermitted (by obtain h | h := hst <;> rw [h] <;> rfl) hlost
  · have heq : evaluate x e = stopToOff e := by simp [evaluate, hstate, hst, hforce, hf]
    rw [heq] at h
    exact ⟨by rw [h.gsAfter]; rfl, h.issued (stopToOff_issued e)⟩
  · exact hkept (by simp [evaluate, hstate, hst, hpermit, hperm, hforce, hf])
  · exact hkept (by simp [evaluate, hstate, hst, hpermit, hperm])
  · exact hkept (by simp [evaluate, hstate, hst])
  · exact hunpermitted (by obtain h | h := hst <;> rw [h] <;> rfl) hlost
  · have heq := evaluate_of_stopping x (by rwa [hstate]) (hpermit.trans hperm) (by rwa [hforce, hstop'])
    have hms : e.cs.cooldownMs = s.dev.cs.cooldown.toNat * 1000 := by rw [h.cs]; rfl
    rw [heq, hms] at h
    by_cases hzero : s.dev.cs.cooldown.toNat = 0
    · rw [hzero, Nat.zero_mul] at h
      refine ⟨?_, fun hne => absurd hzero hne, fun _ => ⟨?_, h.issued (enterCooldown_issued e)⟩⟩
      · rw [h.gsAfter, enterCooldown_gs]; rfl
      · rw [h.gsAfter, enterCooldown_gs]; rfl
    · rw [h.gsAfter, enterCooldown_gs, if_neg (by omega)]
      exact ⟨rfl, fun _ => ⟨rfl, rfl⟩, fun hz => absurd hz hzero⟩
  · have heq := evaluate_of_burning x (by rwa [hstate]) (hpermit.trans hperm) (by rwa [hforce]) (by rw [hstop']; simpa using hwish)
    rw [hstate, hwarm'] at heq
    refine ⟨fun hwarmup hw => ?_, fun hcold => ?_⟩
    · rw [h.gsAfter, heq, if_pos ⟨hwarmup, hw⟩, enterRunning_gs, h.gs]
      exact ⟨rfl, rfl⟩
    · have hnot : ¬(s.dev.gs.state = .warmup ∧ warm = true) := by
        rintro ⟨hwarmup, hw⟩
        obtain hr | hc := hcold
        · rw [hwarmup] at hr
          cases hr
        · exact hc hw
      rw [if_neg hnot] at heq
      rw [heq] at h
      have hset : x.gset = p.fig.gset := by rw [← hx]; rfl
      have hsent := takeSetpoint_sent x e
      rw [h.enginePeer, h.txRoom, h.tx, h.gs, hset] at hsent
      rw [h.gsAfter, h.vbpAfter]
      refine ⟨?_, ?_, hsent⟩
      · rw [takeSetpoint_gs, h.gs]
      · rw [takeSetpoint_gs, hset]

end Sys2Proof.Machine
end

section
/-! PROOFS. The KEY input (R130, R132, R134, R142). -/

namespace Sys2Proof.Machine

-- A default proof `by decide` waits for the kernel: side by side the proofs would ask for a thread each.
set_option Elab.async false

variable {d d' e : Device}

/-- The device with the raw level taken as KEY. -/
def keyed (d : Device) : Device := d.withMc { d.mc with key := d.mc.rawKey, deglitchTimer := .stopped }

theorem deglitchExpiry_of_running (h : d.mc.deglitchTimer.isRunning = true) :
    deglitchExpiry d = keyEvent d.mc.rawKey (keyed d) := if_pos h

/-! ## Park entry -/

theorem stopToOff_count (d : Device) : (stopToOff d).vbp.tx.count ≤ d.vbp.tx.count + 1 := by
  have hoff (e : Device) : (enterOff e).vbp = e.vbp := rfl
  rw [stopToOff, hoff]
  exact handToEngine_count _ _ _

theorem sendSetpointIfNew_count (d : Device) : (sendSetpointIfNew d).vbp.tx.count ≤ d.vbp.tx.count + 1 := by
  unfold sendSetpointIfNew
  split
  · exact Nat.le_succ _
  · exact sendSetpoint_count _

theorem enterCooldown_zero (d : Device) : enterCooldown 0 d = stopToOff (sendSetpointIfNew (d.withGs { d.gs with
    state := .cooldown, warmTimer := .stopped, minOn := .stopped, setpoint := 0 })) := by
  simp only [enterCooldown, if_true]

/-- The mode-change stop hands a SETPOINT and a STOP at most. -/
theorem modeChangeStop_count (d : Device) : (modeChangeStop d).vbp.tx.count ≤ d.vbp.tx.count + 2 := by
  have hcool : (enterCooldown 0 d).vbp.tx.count ≤ d.vbp.tx.count + 2 := by
    rw [enterCooldown_zero]
    exact (stopToOff_count _).trans (Nat.succ_le_succ (sendSetpointIfNew_count _))
  have hstop : (stopToOff d).vbp.tx.count ≤ d.vbp.tx.count + 2 := (stopToOff_count d).trans (Nat.le_succ _)
  unfold modeChangeStop
  cases d.gs.state with
  | cranking | cooldown => exact hstop
  | warmup | running => exact hcool
  | off | lockout => exact Nat.le_add_right _ 2

/-- Park entry up to its broadcast. -/
def parked (d : Device) : Device :=
  let d := modeChangeStop d
  let d := d.withRau { d.rau with parkEntrySet := true }
  d.withMc { d.mc with mode := .park, parkTimer := .start (d.cs.parkTimeMax.toNat * 60000), floorTimer := .stopped }

theorem parkEntry_eq (d : Device) : parkEntry d = broadcastMode .park .key (parked d) := rfl

theorem broadcastMode_keeps (m : Mode) (c : ModeCause) (d : Device) : (broadcastMode m c d).gs = d.gs ∧
    (broadcastMode m c d).mc = d.mc ∧ (broadcastMode m c d).rau = d.rau ∧ (broadcastMode m c d).se = d.se ∧
      (broadcastMode m c d).vbp.tx.orders = d.vbp.tx.orders ∧ (broadcastMode m c d).sl.replies = d.sl.replies ∧
        (broadcastMode m c d).vbp.ctrl = d.vbp.ctrl := by
  cases hroom : d.txRoom with
  | true => rw [broadcastMode_of_room m c hroom]; exact ⟨rfl, rfl, rfl, rfl, rfl, rfl, rfl⟩
  | false => rw [broadcastMode_of_full m c hroom]; exact ⟨rfl, rfl, rfl, rfl, rfl, rfl, rfl⟩

theorem broadcastMode_modes (m : Mode) (c : ModeCause) (h : d.txRoom = true) :
    (broadcastMode m c d).vbp.tx.modes = d.vbp.tx.modes ++ [{ dest := .broadcast, body := .mode m c }] := by
  rw [broadcastMode_of_room m c h]
  rfl

theorem modeChangeStop_of_rest (h : d.gs.state.atRest = true) : modeChangeStop d = d := by
  cases hstate : d.gs.state <;> simp_all [modeChangeStop, GensetState.atRest]

theorem Timer.start_minutes (n : Nat) : Timer.start (n * 60000) = if n = 0 then .stopped else .running (n * 60000) := by
  simp [Timer.start]

/-- A pending SLEEP cancelled writes the link alone. -/
theorem cancelSleep_blocks (p : Option SleepCause) (d : Device) :
    cancelSleep p d = { d with sl := (cancelSleep p d).sl } := by
  unfold cancelSleep
  split
  · exact placeReply_blocks _ _ _ _ d
  · rfl

theorem cancelSleep_of_none {p : Option SleepCause} (h : ∀ t, p ≠ some (.request t)) (d : Device) : cancelSleep p d = d := by
  unfold cancelSleep
  split
  · exact absurd rfl (h _)
  · rfl

/-- A wake up to its broadcast. -/
def woken (d : Device) : Device :=
  let d := d.withMc { d.mc with mode := .standby }
  d.withVbp { d.vbp with ctrl := .active, busSilence := .stopped }

/-! ## The statement -/

/-- Settles O34: the raw level first, then its expiry by mode. -/
theorem keyLevelMovesModes : Obligations.KeyLevelMovesModes := by
  refine ⟨fun s level hlevel => ?_, fun s hruns => ?_⟩
  · simp [exec_eq, actOf, keyChange, hlevel, Device.withMc]
  have hact : actOf .deglitchTimerExpiry s.dev = keyEvent s.dev.mc.rawKey (keyed s.dev) := deglitchExpiry_of_running hruns
  refine ⟨actOf .deglitchTimerExpiry s.dev, exec_eq _ s, ?_⟩
  rw [hact]
  have hchanges := keyEvent_changes s.dev.mc.rawKey (keyed s.dev)
  obtain ⟨hraw, hkey, hdeglitch⟩ := hchanges.same .key
  obtain ⟨-, -, hresult, -⟩ := hchanges.same .splitRest
  refine ⟨hkey, hraw, hdeglitch, hchanges.tbl, hchanges.same .rta, hchanges.same .combiner, hchanges.same .config, hchanges.same .now,
    hchanges.same .roster, hchanges.same .pass, hresult, fun hmode hoff => ?_, fun hmode hon => ?_, fun hmode hon => ?_, fun hother => ?_⟩
  · have hevent : keyEvent s.dev.mc.rawKey (keyed s.dev) = broadcastMode .park .key (parked (keyed s.dev)) := by
      rw [hoff, ← parkEntry_eq]
      simp [keyEvent, keyed, hmode]
    obtain ⟨hgs, hmc, hrau, hse, horders, -, -⟩ := broadcastMode_keeps .park .key (parked (keyed s.dev))
    have hstopped := modeChangeStop_sequenced (keyed s.dev)
    have hstop := hstopped.changes
    obtain ⟨hctrl, -, -⟩ := hstop.same .controller
    rw [hevent]
    refine ⟨by rw [hmc]; rfl, by rw [hmc]; rfl, ?_, ?_, ?_, ?_, fun hrest => ?_, fun hbusy => ?_, fun hbus hroom => ?_⟩
    · rw [hmc]
      exact hstop.same .sleepPending
    · rw [hmc, ← Timer.start_minutes]
      have hcs : (modeChangeStop (keyed s.dev)).cs = s.dev.cs := hstop.same .config
      rw [← hcs]
      rfl
    · have hunit : (modeChangeStop (keyed s.dev)).rau = s.dev.rau := hstop.same .rau
      rw [hrau, ← hunit]
      rfl
    · rw [hse]
      exact hstop.se
    · rw [hgs]
      have hparked : (parked (keyed s.dev)).gs = (modeChangeStop (keyed s.dev)).gs := rfl
      rw [hparked, modeChangeStop_of_rest (d := keyed s.dev) hrest]
      rfl
    · obtain ⟨hissued, hstate, hset, hcount⟩ := modeChangeStop_issued (d := keyed s.dev) hbusy
      have hissued' : s.dev.issued (modeChangeStop (keyed s.dev)) .stop := hissued.from rfl rfl rfl rfl
      rw [hgs]
      exact ⟨hstate, hset, hcount, hissued'.congr (by rw [hgs]; rfl) (by rw [hgs]; rfl) (by rw [horders]; rfl)⟩
    · have hcount : (modeChangeStop (keyed s.dev)).vbp.tx.count ≤ s.dev.vbp.tx.count + 2 := modeChangeStop_count _
      have hmodes : (modeChangeStop (keyed s.dev)).vbp.tx.modes = s.dev.vbp.tx.modes := hstop.same .modes
      have hroom' : (parked (keyed s.dev)).txRoom = true := by
        have hparked : (parked (keyed s.dev)).txRoom = (modeChangeStop (keyed s.dev)).txRoom := rfl
        rw [hparked, Device.txRoom, hctrl]
        simp only [Bool.and_eq_true, bne_iff_ne]
        exact ⟨hbus, decide_eq_true (by omega)⟩
      rw [broadcastMode_modes _ _ hroom', ← hmodes]
      rfl
  · have hevent : keyEvent s.dev.mc.rawKey (keyed s.dev) = driveEntry .key (keyed s.dev) := by
      simp [keyEvent, keyed, hmode, hon]
    obtain ⟨hgs, hmc, hrau, hse, -, hreplies, -⟩ :=
      broadcastMode_keeps .drive .key (cancelSleep s.dev.mc.sleepPending (inDrive (keyed s.dev)))
    have hcancel := cancelSleep_blocks s.dev.mc.sleepPending (inDrive (keyed s.dev))
    have hentry : driveEntry .key (keyed s.dev) =
        broadcastMode .drive .key (cancelSleep s.dev.mc.sleepPending (inDrive (keyed s.dev))) := rfl
    rw [hevent, hentry, hgs, hmc, hrau, hse, hreplies, hcancel]
    refine ⟨rfl, rfl, rfl, rfl, rfl, rfl, rfl, fun hroom => ?_, fun t ht hspace => ?_, fun hnone => ?_⟩
    · exact broadcastMode_modes .drive .key (d := { inDrive (keyed s.dev) with sl := _ }) hroom
    · rw [ht]
      obtain ⟨-, hsl⟩ | ⟨hfull, -⟩ := placeReply_cases ReqKind.sleep.code t Result.notNow.code
        (inDrive (keyed s.dev)).modePayload (inDrive (keyed s.dev))
      · exact ⟨_, congrArg Link.replies hsl⟩
      · exact absurd hspace (Nat.not_lt.mpr hfull)
    · exact congrArg (fun e => e.sl.replies) (cancelSleep_of_none hnone (inDrive (keyed s.dev)))
  · have hevent : keyEvent s.dev.mc.rawKey (keyed s.dev) = wake .key (keyed s.dev) := by
      simp [keyEvent, keyed, hmode, hon]
    have hwake : wake .key (keyed s.dev) = broadcastMode .standby .key (woken (keyed s.dev)) := rfl
    obtain ⟨hgs, hmc, hrau, hse, -, -, hctrl⟩ := broadcastMode_keeps .standby .key (woken (keyed s.dev))
    rw [hevent, hwake, hgs, hmc, hrau, hse, hctrl]
    refine ⟨rfl, rfl, rfl, rfl, rfl, fun hroom => broadcastMode_modes .standby .key (d := woken (keyed s.dev)) ?_⟩
    simp [Device.txRoom, woken, keyed, hroom]
  · have hsame : keyEvent s.dev.mc.rawKey (keyed s.dev) = keyed s.dev := by
      have hmode : (keyed s.dev).mc.mode = s.dev.mc.mode := rfl
      unfold keyEvent
      rw [hmode]
      obtain h | ⟨h, hk⟩ | ⟨hk, h | h⟩ := hother
      · rw [h]
      all_goals rw [h, hk]
    rw [hsame]
    rfl

end Sys2Proof.Machine
end

section
/-! PROOFS. CONFIG_WRITE and CONFIG_DONE: what is stored or put in force, and the replies (R175, R176). -/

namespace Sys2Proof.Machine

-- A default proof `by decide` waits for the kernel: side by side the proofs would ask for a thread each.
set_option Elab.async false

variable {d d' e : Device}

/-! ## The crank failure count under a new limit (R128) -/

theorem adjustCrankCount_eq (v : Int) (g : Genset) :
    adjustCrankCount v g = { g with crankCount := (adjustCrankCount v g).crankCount } := by
  unfold adjustCrankCount
  repeat' split
  all_goals rfl

theorem adjustCrankCount_count {v : Int} (hv : 1 ≤ v) (g : Genset) :
    (g.state = .lockout → ((adjustCrankCount v g).crankCount : Int) = v) ∧
      (g.state = .off → v ≤ g.crankCount → ((adjustCrankCount v g).crankCount : Int) = v - 1) ∧
      (g.state = .off → (g.crankCount : Int) < v → (adjustCrankCount v g).crankCount = g.crankCount) := by
  refine ⟨fun hlockout => ?_, fun hoff hreaches => ?_, fun hoff hbelow => ?_⟩
  · simp only [adjustCrankCount, hlockout]
    omega
  · simp only [adjustCrankCount, hoff, hreaches, if_true]
    omega
  · simp [adjustCrankCount, hoff, not_le.mpr hbelow]

theorem adjustForField_of_ne {f : ConfigField} (h : f ≠ .crankLimit) (v : Int) (g : Genset) : adjustForField f v g = g := by
  unfold adjustForField
  split
  · exact absurd rfl h
  · rfl

/-! ## CONFIG_WRITE -/

theorem configWriteAct_of_unknown {q : SpiRequest} (h : ConfigField.ofByte (byteAt q.payload 0) = none) (d : Device) :
    configWriteAct q d = d.answered .badRequest
      (byteAt q.payload 0 :: if byteAt q.payload 0 = 0 then validBytes d.cs else openValue d) := by
  rw [configWriteAct, h]

theorem configWriteAct_of_known {q : SpiRequest} {f : ConfigField} (h : ConfigField.ofByte (byteAt q.payload 0) = some f)
    (d : Device) : configWriteAct q d = writeField f (halfOf (byteAt q.payload 1) (byteAt q.payload 2)) d := by
  rw [configWriteAct, h]

/-- What a value stored changes: the field and the valid mark, and with a crank limit the crank failure count. -/
theorem storeField_stored {f : ConfigField} {v : Int} (hv : f.range.admits v = true) (d : Device) :
    (storeField f v d).cs.get f = v ∧ (∀ g : ConfigField, g ≠ f → (storeField f v d).cs.get g = d.cs.get g) ∧
      (storeField f v d).cs.valid = (if d.mc.mode = .standby then false else d.cs.valid) ∧
      (f ≠ .crankLimit → (storeField f v d).gs = d.gs) ∧
      (f = .crankLimit → (storeField f v d).gs = adjustCrankCount v d.gs) := by
  rw [storeField_cs, storeField_gs]
  refine ⟨?_, fun g hg => ?_, ?_, fun hf => adjustForField_of_ne hf v d.gs, fun hf => by rw [hf]; rfl⟩
  · split
    · rw [ConfigSet.get_withValid, ConfigSet.get_set_same _ hv]
    · exact ConfigSet.get_set_same _ hv
  · split
    · rw [ConfigSet.get_withValid, ConfigSet.get_set_other _ _ hg]
    · exact ConfigSet.get_set_other _ _ hg
  · split
    · rfl
    · exact ConfigSet.set_valid _ _ _

theorem crankLimit_pos {v : Int} (hv : ConfigField.crankLimit.range.admits v = true) : 1 ≤ v :=
  have hrange : 1 ≤ v ∧ v ≤ 5 := of_decide_eq_true hv
  hrange.1

/-- Settles O28: by the write's checks in their order. -/
theorem configWriteStoresInRange : Obligations.ConfigWriteStoresInRange := by
  intro s q hq
  have hact : actOf .configWrite s.dev = finish q (configWriteAct q (dropHead s.dev)) := takeRequest_of_headIs hq _
  refine ⟨actOf .configWrite s.dev, exec_eq _ s, ?_⟩
  rw [hact]
  cases hbyte : ConfigField.ofByte (byteAt q.payload 0) with
  | none =>
    obtain ⟨hblocks, hreplied⟩ := finish_answered_justReplied s.dev q .badRequest
      (byteAt q.payload 0 :: if byteAt q.payload 0 = 0 then validBytes (dropHead s.dev).cs else openValue (dropHead s.dev))
    rw [configWriteAct_of_unknown hbyte, hblocks]
    exact ⟨rfl, rfl, rfl, rfl, rfl, rfl, rfl, fun _ => ⟨rfl, rfl, _, hreplied⟩, fun f _ _ _ h => by cases h⟩
  | some f =>
    rw [configWriteAct_of_known hbyte]
    obtain ⟨hmode, hlive, heq⟩ | ⟨hmode, hlive, hlevel, horder, heq⟩ | ⟨hstored, heq⟩ :=
      writeField_cases f (halfOf (byteAt q.payload 1) (byteAt q.payload 2)) (dropHead s.dev)
    · obtain ⟨hblocks, hreplied⟩ := finish_answered_justReplied s.dev q .notNow (fieldPayload f (dropHead s.dev).cs)
      rw [heq, hblocks]
      refine ⟨rfl, rfl, rfl, rfl, rfl, rfl, rfl, nofun, fun g sent v c hg hsent hv hc => ?_⟩
      obtain rfl : f = g := by simpa using hg
      refine ⟨fun _ _ => ⟨rfl, rfl, hreplied⟩, fun _ h => ?_, fun h => ?_⟩
      · rw [hlive] at h; cases h
      · obtain h | ⟨h, -⟩ := h
        · exact absurd h hmode
        · rw [hlive] at h; cases h
    · obtain ⟨hblocks, hreplied⟩ := finish_answered_justReplied s.dev q .badConfig (fieldPayload f (dropHead s.dev).cs)
      rw [heq, hblocks]
      refine ⟨rfl, rfl, rfl, rfl, rfl, rfl, rfl, nofun, fun g sent v c hg hsent hv hc => ?_⟩
      obtain rfl : f = g := by simpa using hg
      subst hsent hv hc
      refine ⟨fun _ h => ?_, fun _ _ _ _ => ⟨rfl, rfl, hreplied⟩, fun h => ?_⟩
      · rw [hlive] at h; cases h
      · obtain h | ⟨-, h⟩ := h
        · exact absurd h hmode
        · have hordered := h hlevel
          rw [show (s.dev.cs.set f _).levelsOrdered = false from horder] at hordered
          cases hordered
    · have hrange := f.bring_admits (halfOf (byteAt q.payload 1) (byteAt q.payload 2))
      obtain ⟨hget, hothers, hvalid, hgs, hlimit⟩ := storeField_stored hrange (dropHead s.dev)
      have hreplied := finish_answered_repliedTo (l := s.dev.sl)
        (d := storeField f (f.range.bring (halfOf (byteAt q.payload 1) (byteAt q.payload 2))) (dropHead s.dev)) rfl q
        (if wasClamped f (halfOf (byteAt q.payload 1) (byteAt q.payload 2)) then .clamped else .ok)
        (fieldPayload f ((dropHead s.dev).cs.set f (f.range.bring (halfOf (byteAt q.payload 1) (byteAt q.payload 2)))))
      rw [heq, finish_answered_blocks]
      refine ⟨rfl, rfl, rfl, rfl, rfl, rfl, rfl, nofun, fun g sent v c hg hsent hv hc => ?_⟩
      obtain rfl : f = g := by simpa using hg
      subst hsent hv hc
      refine ⟨fun hm hl => ?_, fun hm hl hlev hord => ?_, fun _ => ⟨hrange, hget, hothers, hvalid, ?_, hgs, fun hf => ?_⟩⟩
      · obtain h | ⟨h, -⟩ := hstored
        · exact absurd h hm
        · rw [hl] at h; cases h
      · obtain h | ⟨-, h⟩ := hstored
        · exact absurd h hm
        · have hordered := h hlev
          rw [show ((dropHead s.dev).cs.set f _).levelsOrdered = false from hord] at hordered
          cases hordered
      · have hresult : (if wasClamped f (halfOf (byteAt q.payload 1) (byteAt q.payload 2)) then Result.clamped else .ok) =
            if BitVec.ofInt 16 (f.range.bring (halfOf (byteAt q.payload 1) (byteAt q.payload 2))) =
              halfOf (byteAt q.payload 1) (byteAt q.payload 2) then .ok else .clamped := by
          simp only [wasClamped, decide_eq_true_eq, ne_eq, ite_not]
        rw [fieldPayload, ConfigSet.get_set_same _ hrange, hresult] at hreplied
        rw [fieldPayload, ConfigSet.get_set_same _ hrange, hresult]
        exact hreplied
      · subst hf
        have hlow : 1 ≤ ConfigField.crankLimit.range.bring (halfOf (byteAt q.payload 1) (byteAt q.payload 2)) :=
          crankLimit_pos hrange
        dsimp only
        rw [hlimit rfl]
        exact ⟨adjustCrankCount_eq _ _, adjustCrankCount_count hlow _⟩

/-! ## CONFIG_DONE -/

theorem takeBusForce_of_idle {c : ConfigSet} {v : BusPort} (h : v.ctrl = .idle) :
    takeBusForce c v = { v with baseInForce := c.canBase, rateInForce := c.canRate, ctrl := .active } := if_pos h

theorem takeBusForce_of_same {c : ConfigSet} {v : BusPort} (h : v.ctrl ≠ .idle)
    (hbase : c.canBase = v.baseInForce) (hrate : c.canRate = v.rateInForce) : takeBusForce c v = v := by
  simp [takeBusForce, h, hbase, hrate]

theorem takeBusForce_of_other {c : ConfigSet} {v : BusPort} (h : v.ctrl ≠ .idle)
    (hother : ¬(c.canBase = v.baseInForce ∧ c.canRate = v.rateInForce)) :
    takeBusForce c v = reinitialise { v with baseInForce := c.canBase, rateInForce := c.canRate } := by
  simp [takeBusForce, h, hother]

theorem takeBusForce_keeps (c : ConfigSet) (v : BusPort) :
    (takeBusForce c v).roster = v.roster ∧ (takeBusForce c v).baseInForce = c.canBase ∧
      (takeBusForce c v).rateInForce = c.canRate := by
  by_cases hidle : v.ctrl = .idle
  · rw [takeBusForce_of_idle hidle]
    exact ⟨rfl, rfl, rfl⟩
  · by_cases hsame : c.canBase = v.baseInForce ∧ c.canRate = v.rateInForce
    · rw [takeBusForce_of_same hidle hsame.1 hsame.2]
      exact ⟨rfl, hsame.1.symm, hsame.2.symm⟩
    · rw [takeBusForce_of_other hidle hsame]
      exact ⟨rfl, rfl, rfl⟩

/-- Settles O30: by mode, then by the orderings and the base and rate in force. -/
theorem configDoneChecksAndTakesForce : Obligations.ConfigDoneChecksAndTakesForce := by
  intro s q hq
  have hact : actOf .configDone s.dev = finish q (configDoneAct q (dropHead s.dev)) := takeRequest_of_headIs hq _
  refine ⟨actOf .configDone s.dev, exec_eq _ s, ?_⟩
  rw [hact]
  obtain ⟨hmode, hlevels, hpoints, heq⟩ | ⟨hmode, hlevels, heq⟩ | ⟨hmode, hlevels, hpoints, heq⟩ | ⟨hmode, heq⟩ :=
    configDoneAct_cases q (dropHead s.dev) <;> rw [heq]
  · have hreplied := finish_answered_repliedTo (l := s.dev.sl) (d := configAccepted (dropHead s.dev)) rfl q .ok []
    obtain ⟨hroster, hbase, hrate⟩ := takeBusForce_keeps s.dev.cs s.dev.vbp
    rw [finish_answered_blocks]
    refine ⟨rfl, fun h => absurd hmode h, fun _ h => ?_, fun _ _ h => ?_, fun _ _ _ => ⟨rfl, hreplied, hroster, hbase, hrate,
      fun hidle => ?_, fun hidle => ⟨fun hsame => takeBusForce_of_same hidle hsame.1 hsame.2, fun hother => ?_⟩⟩⟩
    · rw [show s.dev.cs.levelsOrdered = true from hlevels] at h
      cases h
    · rw [show ascending s.dev.cs.usedPoints = true from hpoints] at h
      cases h
    · rw [show (configAccepted (dropHead s.dev)).vbp = _ from takeBusForce_of_idle hidle]
      exact ⟨rfl, rfl, rfl⟩
    · rw [show (configAccepted (dropHead s.dev)).vbp = _ from takeBusForce_of_other hidle hother]
      exact ⟨rfl, rfl, rfl, rfl, rfl, fun i => Vector.getElem_replicate _⟩
  · obtain ⟨hblocks, hreplied⟩ := finish_answered_justReplied s.dev q .badConfig [0x02]
    rw [hblocks]
    refine ⟨rfl, fun h => absurd hmode h, fun _ _ => ⟨rfl, rfl, hreplied⟩, fun _ h => ?_, fun _ h => ?_⟩
    all_goals
      rw [show s.dev.cs.levelsOrdered = false from hlevels] at h
      cases h
  · obtain ⟨hblocks, hreplied⟩ := finish_answered_justReplied s.dev q .badConfig [0x08]
    rw [hblocks]
    refine ⟨rfl, fun h => absurd hmode h, fun _ h => ?_, fun _ _ _ => ⟨rfl, rfl, hreplied⟩, fun _ _ h => ?_⟩
    · rw [show s.dev.cs.levelsOrdered = true from hlevels] at h
      cases h
    · rw [show ascending s.dev.cs.usedPoints = false from hpoints] at h
      cases h
  · obtain ⟨hblocks, hreplied⟩ := finish_answered_justReplied s.dev q .ok []
    rw [hblocks]
    exact ⟨rfl, fun _ => ⟨rfl, rfl, hreplied⟩, fun h => absurd h hmode, fun h => absurd h hmode, fun h => absurd h hmode⟩

end Sys2Proof.Machine
end

section
/-! PROOFS. The link's own requests and answers: NOTICE_READ, RESULT_READ, LINK_RESET, mirrored frames, bad requests (R163, R168,
R170, R171). -/

namespace Sys2Proof.Machine

-- A default proof `by decide` waits for the kernel: side by side the proofs would ask for a thread each.
set_option Elab.async false

variable {d d' e : Device}

/-! ## Bits and masks -/

theorem getLsbD_bit (b : Bool) {k : Nat} (hk : k < 8) (i : Nat) : (bit b k).getLsbD i = (b && decide (i = k)) := by
  cases b with
  | false => simp [bit]
  | true =>
    simp only [bit, if_true, BitVec.getLsbD_twoPow, Bool.true_and, hk, decide_true]
    exact decide_eq_decide.mpr eq_comm

theorem NoticeSet.mask_getLsbD (n : NoticeSet) (k : NoticeKind) : n.mask.getLsbD (k.number - 1) = (n.get k).isSome := by
  cases k <;>
    simp [NoticeSet.mask, NoticeKind.all, NoticeKind.number, NoticeSet.get, getLsbD_bit, -BitVec.getLsbD_eq_getElem]

/-! ## NOTICE_READ -/

theorem NoticeSet.top_eq_some {n : NoticeSet} {k : NoticeKind} (hk : (n.get k).isSome)
    (hlower : ∀ j : NoticeKind, j.number < k.number → n.get j = none) : n.top = some k := by
  have hnone (j : NoticeKind) (hj : j.number < k.number) : (n.get j).isSome = false := by rw [hlower j hj]; rfl
  rw [NoticeSet.top, List.find?_eq_some_iff_append]
  refine ⟨hk, NoticeKind.all.takeWhile (·.number < k.number), NoticeKind.all.drop k.number, ?_, fun j hj => ?_⟩
  · cases k <;> rfl
  · rw [hnone j (by simpa using List.mem_takeWhile_imp hj)]
    rfl

theorem NoticeSet.top_eq_none {n : NoticeSet} (h : ∀ k, n.get k = none) : n.top = none := by
  simp [NoticeSet.top, h]

theorem NoticeKind.ofByte_natByte (k : NoticeKind) : NoticeKind.ofByte (natByte k.number) = some k := by
  cases k <;> decide

theorem NoticeKind.natByte_of_ofByte {b : Byte} {k : NoticeKind} (h : NoticeKind.ofByte b = some k) : b = natByte k.number := by
  rw [NoticeKind.ofByte] at h
  have hnumber : k.number = b.toNat := by simpa using List.find?_some h
  rw [hnumber, natByte, BitVec.ofNat_toNat, BitVec.setWidth_eq]

/-- What a NOTICE_READ asks for: nothing by name, a kind, or no kind there is. -/
theorem noticeReadAct_cases (q : SpiRequest) (d : Device) :
    (q.payload = [] ∧ noticeReadAct q d = readNotice none d) ∨
      (∃ k : NoticeKind, q.payload ≠ [] ∧ byteAt q.payload 0 = natByte k.number ∧ noticeReadAct q d = readNotice (some k) d) ∨
      (q.payload ≠ [] ∧ (∀ k : NoticeKind, byteAt q.payload 0 ≠ natByte k.number) ∧
        noticeReadAct q d = d.answered .badRequest (openTail d 0)) := by
  cases hp : q.payload with
  | nil => exact .inl ⟨rfl, by rw [noticeReadAct, hp]⟩
  | cons b bs =>
    cases hk : NoticeKind.ofByte b with
    | some k => exact .inr (.inl ⟨k, List.cons_ne_nil _ _, NoticeKind.natByte_of_ofByte hk, by simp [noticeReadAct, hp, hk]⟩)
    | none =>
      refine .inr (.inr ⟨List.cons_ne_nil _ _, fun k hb => ?_, by simp [noticeReadAct, hp, hk]⟩)
      rw [show b = natByte k.number from hb, NoticeKind.ofByte_natByte] at hk
      cases hk

theorem readNotice_of_none {k : Option NoticeKind} (h : namedNotice k d.sl.notices = none) :
    ∃ p, readNotice k d = d.answered .ok (0 :: p) := by
  rw [readNotice, h]
  exact ⟨_, rfl⟩

/-- The device with a notice removed. -/
def withoutNotice (k : NoticeKind) (d : Device) : Device := d.withSl { d.sl with notices := d.sl.notices.set k none }

theorem readNotice_of_some {k : Option NoticeKind} {l : NoticeKind} {x : NoticeEntry}
    (h : namedNotice k d.sl.notices = some (l, x)) : readNotice k d = (withoutNotice l d).answered .ok
      ([natByte l.number, natByte x.count] ++ halfBytes x.first ++ halfBytes x.last ++ [(d.sl.notices.set l none).mask]) := by
  rw [readNotice, h]
  rfl

theorem namedNotice_named (k : NoticeKind) (n : NoticeSet) : namedNotice (some k) n = (n.get k).map fun x => (k, x) := rfl

theorem namedNotice_top {n : NoticeSet} {k : NoticeKind} (h : n.top = some k) :
    namedNotice none n = (n.get k).map fun x => (k, x) := by
  rw [namedNotice, Option.none_or, h]
  rfl

/-- Two kinds named by one byte are one. -/
theorem NoticeKind.eq_of_natByte {j k : NoticeKind} (h : natByte j.number = natByte k.number) : j = k :=
  Option.some.inj (by rw [← NoticeKind.ofByte_natByte, h, NoticeKind.ofByte_natByte])

theorem noticeReadAct_of_entry {q : SpiRequest} {k : NoticeKind} {x : NoticeEntry} (hx : d.sl.notices.get k = some x)
    (hnamed : (q.payload = [] ∧ ∀ j : NoticeKind, j.number < k.number → d.sl.notices.get j = none) ∨
      (q.payload ≠ [] ∧ byteAt q.payload 0 = natByte k.number)) :
    noticeReadAct q d = (withoutNotice k d).answered .ok
      ([natByte k.number, natByte x.count] ++ halfBytes x.first ++ halfBytes x.last ++ [(d.sl.notices.set k none).mask]) := by
  obtain ⟨hp, hact⟩ | ⟨l, hp, hl, hact⟩ | ⟨hp, hunknown, -⟩ := noticeReadAct_cases q d
  · obtain ⟨-, hlower⟩ | ⟨hp', -⟩ := hnamed
    · rw [hact]
      exact readNotice_of_some (by rw [namedNotice_top (NoticeSet.top_eq_some (by rw [hx]; rfl) hlower), hx]; rfl)
    · exact absurd hp hp'
  · obtain ⟨hp', -⟩ | ⟨-, hk⟩ := hnamed
    · exact absurd hp' hp
    · obtain rfl := NoticeKind.eq_of_natByte (hl.symm.trans hk)
      rw [hact]
      exact readNotice_of_some (by rw [namedNotice_named, hx]; rfl)
  · obtain ⟨hp', -⟩ | ⟨-, hk⟩ := hnamed
    · exact absurd hp' hp
    · exact absurd hk (hunknown k)

theorem noticeReadAct_of_no_entry {q : SpiRequest}
    (hnone : (q.payload = [] ∧ ∀ k : NoticeKind, d.sl.notices.get k = none) ∨
      (q.payload ≠ [] ∧ ∃ k : NoticeKind, byteAt q.payload 0 = natByte k.number ∧ d.sl.notices.get k = none)) :
    ∃ p, noticeReadAct q d = d.answered .ok (0 :: p) := by
  obtain ⟨hp, hact⟩ | ⟨l, hp, hl, hact⟩ | ⟨hp, hunknown, -⟩ := noticeReadAct_cases q d
  · obtain ⟨-, hall⟩ | ⟨hp', -⟩ := hnone
    · rw [hact]
      exact readNotice_of_none (by rw [namedNotice, Option.none_or, NoticeSet.top_eq_none hall]; rfl)
    · exact absurd hp hp'
  · obtain ⟨hp', -⟩ | ⟨-, k, hk, hentry⟩ := hnone
    · exact absurd hp' hp
    · obtain rfl := NoticeKind.eq_of_natByte (hl.symm.trans hk)
      rw [hact]
      exact readNotice_of_none (by rw [namedNotice_named, hentry]; rfl)
  · obtain ⟨hp', -⟩ | ⟨-, k, hk, -⟩ := hnone
    · exact absurd hp' hp
    · exact absurd hk (hunknown k)

/-- Whatever a NOTICE_READ reads, nothing but the link changes. -/
theorem noticeRead_blocks (q : SpiRequest) (d : Device) : finish q (noticeReadAct q d) =
    { d with sl := (finish q (noticeReadAct q d)).sl, draws := (finish q (noticeReadAct q d)).draws } := by
  have hread (k : Option NoticeKind) : finish q (readNotice k d) =
      { d with sl := (finish q (readNotice k d)).sl, draws := (finish q (readNotice k d)).draws } := by
    cases hk : namedNotice k d.sl.notices with
    | none =>
      obtain ⟨p, hp⟩ := readNotice_of_none hk
      rw [hp]
      exact finish_answered_blocks q d .ok _
    | some e =>
      rw [readNotice_of_some hk]
      exact finish_answered_blocks q (withoutNotice e.1 d) .ok _
  obtain ⟨-, hact⟩ | ⟨l, -, -, hact⟩ | ⟨-, -, hact⟩ := noticeReadAct_cases q d <;> rw [hact]
  · exact hread none
  · exact hread (some l)
  · exact finish_answered_blocks q d .badRequest _

theorem SplitResult.length_bytes (r : SplitResult) : r.bytes.length = 40 := rfl

/-- Settles O40: by the entry that answers, and the record as it stands. -/
theorem noticeAndResultReadAnswer : Obligations.NoticeAndResultReadAnswer := by
  refine ⟨fun s q hq => ?_, fun s q hq => ?_⟩
  · have hact : actOf .noticeRead s.dev = finish q (noticeReadAct q (dropHead s.dev)) := takeRequest_of_headIs hq _
    refine ⟨actOf .noticeRead s.dev, exec_eq _ s, ?_⟩
    rw [hact]
    refine ⟨noticeRead_blocks q (dropHead s.dev), fun k x hx hnamed => ?_, fun hnone => ?_, fun hp hunknown => ?_⟩
    · have hnotices : (finish q (noticeReadAct q (dropHead s.dev))).sl.notices = s.dev.sl.notices.set k none := by
        rw [noticeReadAct_of_entry (d := dropHead s.dev) hx hnamed, finish_answered_notices]
        rfl
      rw [hnotices]
      refine ⟨NoticeSet.get_set_same _ _ _, fun j hj => NoticeSet.get_set_other _ _ hj, (s.dev.sl.notices.set k none).mask,
        NoticeSet.mask_getLsbD _, ?_⟩
      rw [noticeReadAct_of_entry (d := dropHead s.dev) hx hnamed]
      exact finish_answered_repliedBesideNotices (l := s.dev.sl) (e := withoutNotice k (dropHead s.dev)) rfl q .ok _
    · obtain ⟨p, hp⟩ := noticeReadAct_of_no_entry (d := dropHead s.dev) hnone
      rw [hp]
      obtain ⟨-, hreplied⟩ := finish_answered_justReplied s.dev q .ok (0 :: p)
      exact ⟨_, hreplied, rfl⟩
    · obtain ⟨hp', -⟩ | ⟨l, -, hl, -⟩ | ⟨-, -, hbad⟩ := noticeReadAct_cases q (dropHead s.dev)
      · exact absurd hp' hp
      · exact absurd hl (hunknown l)
      · rw [hbad]
        obtain ⟨-, hreplied⟩ := finish_answered_justReplied s.dev q .badRequest (openTail (dropHead s.dev) 0)
        exact ⟨_, hreplied⟩
  · have hact : actOf .resultRead s.dev = finish q ((dropHead s.dev).answered .ok s.dev.se.result.bytes) :=
      takeRequest_of_headIs hq _
    refine ⟨actOf .resultRead s.dev, exec_eq _ s, ?_⟩
    rw [hact]
    obtain ⟨hblocks, hreplied⟩ := finish_answered_justReplied s.dev q .ok s.dev.se.result.bytes
    exact ⟨hblocks, hreplied, SplitResult.length_bytes _⟩

/-! ## LINK_RESET, mirrored frames and bad requests -/

theorem Presented.orphaned_keeps (p : Presented) : p.orphaned.bytes = p.bytes ∧ p.orphaned.source ≠ .head := by
  unfold Presented.orphaned
  split
  · exact ⟨rfl, nofun⟩
  · exact ⟨rfl, ‹_›⟩

/-- The device with the link emptied by a LINK_RESET. -/
def withLinkEmptied (d : Device) : Device := d.withSl d.sl.emptied

theorem linkReset_sl (q : SpiRequest) (d : Device) : (finish q (linkResetAct q d)).sl =
    { d.sl.emptied with replies := [.enter q.kind q.tag Result.ok.code [] false d.now], lostReply := false } := by
  have hreplied := finish_answered_repliedTo (l := d.sl.emptied) (d := withLinkEmptied d) rfl q .ok []
  exact hreplied

theorem mirroredFrame_of_mine {q : SpiRequest} {rest : List SpiRequest} (hrest : d.sl.requests = q :: rest)
    (hmine : (d.sl.mirror && !q.passesMirror) = true) :
    mirroredFrame d = finish q ((dropHead d).answered .ok q.payload) :=
  takeHead_some (fun l f => l.mirror && !f.passesMirror) (fun f d => d.answered .ok f.payload) d q rest hrest hmine

theorem linkBadRequest_of_mine {q : SpiRequest} {rest : List SpiRequest} (hrest : d.sl.requests = q :: rest)
    (hmine : (q.accepted.isNone && (!d.sl.mirror || q.passesMirror)) = true) :
    linkBadRequest d = finish q ((dropHead d).answered .badRequest (badRequestPayload q (dropHead d))) :=
  takeHead_some (fun l f => f.accepted.isNone && (!l.mirror || f.passesMirror))
    (fun f d => d.answered .badRequest (badRequestPayload f d)) d q rest hrest hmine

/-- Settles O43: by the frame that the link answers itself. -/
theorem linkAnswersItsOwnFrames : Obligations.LinkAnswersItsOwnFrames := by
  refine ⟨fun s q hq => ?_, fun s q rest hrest hmirror hnot hnot' => ?_, fun s q rest hrest hnone hpasses => ?_⟩
  · have hact : actOf .linkReset s.dev = finish q (linkResetAct q (dropHead s.dev)) := takeRequest_of_headIs hq _
    refine ⟨actOf .linkReset s.dev, exec_eq _ s, ?_⟩
    rw [hact]
    refine ⟨finish_answered_blocks q (withLinkEmptied (dropHead s.dev)) .ok [], ?_, ?_, ?_⟩ <;> rw [linkReset_sl]
    · rfl
    · change (s.dev.sl.presented.map Presented.orphaned).map (·.bytes) = _
      rw [Option.map_map]
      exact congrFun (congrArg Option.map (funext fun p => (Presented.orphaned_keeps p).1)) _
    · intro p hp
      obtain ⟨p', -, rfl⟩ := Option.map_eq_some_iff.mp hp
      exact (Presented.orphaned_keeps p').2
  · have hact : actOf .mirroredFrame s.dev = finish q ((dropHead s.dev).answered .ok q.payload) :=
      mirroredFrame_of_mine hrest (by simp [hmirror, SpiRequest.passesMirror, hnot, hnot'])
    refine ⟨actOf .mirroredFrame s.dev, exec_eq _ s, ?_⟩
    rw [hact]
    exact finish_answered_justReplied s.dev q .ok q.payload
  · have hmine : (q.accepted.isNone && (!s.dev.sl.mirror || q.passesMirror)) = true := by
      cases hmirror : s.dev.sl.mirror with
      | false => simp [hnone]
      | true => simpa [hnone, SpiRequest.passesMirror] using hpasses hmirror
    have hact : actOf .linkBadRequest s.dev =
        finish q ((dropHead s.dev).answered .badRequest (badRequestPayload q (dropHead s.dev))) :=
      linkBadRequest_of_mine hrest hmine
    refine ⟨actOf .linkBadRequest s.dev, badRequestPayload q (dropHead s.dev), exec_eq _ s, ?_⟩
    rw [hact]
    obtain ⟨hblocks, hreplied⟩ := finish_answered_justReplied s.dev q .badRequest (badRequestPayload q (dropHead s.dev))
    refine ⟨hblocks, hreplied, fun hkind => if_pos ?_⟩
    obtain h | h | h := hkind <;> rw [h] <;> rfl

end Sys2Proof.Machine
end

section
/-! PROOFS. The transactions of the link: what a chip select fall presents and what a rise judges (R161, R162, R164, R165). -/

namespace Sys2Proof.Machine

-- A default proof `by decide` waits for the kernel: side by side the proofs would ask for a thread each.
set_option Elab.async false

variable {d d' e : Device}

/-! ## The reply in presentation -/

theorem statusByte_bits (d : Device) (lost rep : Bool) :
    (statusByte d lost rep).getLsbD 7 = d.attn ∧ (statusByte d lost rep).getLsbD 6 = rep ∧
      (statusByte d lost rep).getLsbD 5 = lost ∧ (statusByte d lost rep).getLsbD 4 = d.sl.frameError ∧
      (statusByte d lost rep).getLsbD 3 = d.sl.crcError ∧ (statusByte d lost rep).getLsbD 2 = d.sl.overrun := by
  simp [statusByte, getLsbD_bit, -BitVec.getLsbD_eq_getElem]

theorem replyBytes_layout (status kind tag result : Byte) (payload : List Byte) :
    (replyBytes status kind tag result payload).length = 6 + payload.length ∧
      byteAt (replyBytes status kind tag result payload) 0 = status ∧
      (replyBytes status kind tag result payload).tail.take (4 + payload.length) =
        [kind, tag, result, natByte payload.length] ++ payload ∧
      (replyBytes status kind tag result payload).getLast? =
        some (crc8 (replyBytes status kind tag result payload).dropLast) := by
  refine ⟨?_, rfl, ?_, ?_⟩
  · simp [replyBytes]
    omega
  · have htail : (replyBytes status kind tag result payload).tail = ([kind, tag, result, natByte payload.length] ++ payload) ++
        [crc8 ([status, kind, tag, result, natByte payload.length] ++ payload)] := rfl
    rw [htail]
    exact List.take_left' (by simp; omega)
  · simp only [replyBytes, List.getLast?_concat, List.dropLast_concat]

theorem present_of_empty (h : d.sl.replies = []) : present d =
    { bytes := replyBytes (statusByte d false false) 0 0 Result.ok.code [], source := .idle } := by
  rw [present, h]

theorem present_of_cons {r : ReplyEntry} {rest : List ReplyEntry} (h : d.sl.replies = r :: rest) : present d =
    { bytes := replyBytes (statusByte d r.lostMark r.repeatMark) r.kind r.tag r.result r.payload, source := .head } := by
  rw [present, h]

/-- What the presented bytes tell whatever they present: the flags, ATTN and the CRC. -/
theorem present_status (d : Device) :
    (present d).bytes.getLast? = some (crc8 (present d).bytes.dropLast) ∧ (byteAt (present d).bytes 0).getLsbD 7 = d.attn ∧
      (byteAt (present d).bytes 0).getLsbD 4 = d.sl.frameError ∧ (byteAt (present d).bytes 0).getLsbD 3 = d.sl.crcError ∧
      (byteAt (present d).bytes 0).getLsbD 2 = d.sl.overrun := by
  have hof (lost rep : Bool) (kind tag result : Byte) (payload : List Byte)
      (hbytes : (present d).bytes = replyBytes (statusByte d lost rep) kind tag result payload) :
      (present d).bytes.getLast? = some (crc8 (present d).bytes.dropLast) ∧ (byteAt (present d).bytes 0).getLsbD 7 = d.attn ∧
        (byteAt (present d).bytes 0).getLsbD 4 = d.sl.frameError ∧ (byteAt (present d).bytes 0).getLsbD 3 = d.sl.crcError ∧
        (byteAt (present d).bytes 0).getLsbD 2 = d.sl.overrun := by
    obtain ⟨-, hstatus, -, hcrc⟩ := replyBytes_layout (statusByte d lost rep) kind tag result payload
    obtain ⟨hattn, -, -, hframe, hcrcError, hoverrun⟩ := statusByte_bits d lost rep
    rw [hbytes, hstatus]
    exact ⟨hcrc, hattn, hframe, hcrcError, hoverrun⟩
  cases hr : d.sl.replies with
  | nil => exact hof _ _ _ _ _ _ (congrArg Presented.bytes (present_of_empty hr))
  | cons r rest => exact hof _ _ _ _ _ _ (congrArg Presented.bytes (present_of_cons hr))

/-! ## The fall of chip select -/

/-- The device at a fall, after the wake that a fall in SLEEP makes. -/
def atFall (d : Device) : Device := if d.mc.mode = .sleep then wake .link d else d

/-- The fall itself: the reply is in presentation. -/
def presenting (waking : Bool) (d : Device) : Device :=
  d.withSl { d.sl with presented := some (present d), csLow := true, waking := waking }

theorem chipSelectFalling_of_high (h : d.sl.csLow = false) :
    chipSelectFalling d = presenting (decide (d.mc.mode = .sleep)) (atFall d) := by
  unfold chipSelectFalling
  rw [h]
  by_cases hsleep : d.mc.mode = .sleep <;> simp [presenting, atFall, hsleep]

theorem atFall_changes (d : Device) : Changes [.mode, .controller, .modes, .notice .link] d (atFall d) :=
  .ite (wake_changes .link d) (.refl d)

/-- The mode and the controller after a wake, and its broadcast. -/
theorem wake_blocks (c : ModeCause) (d : Device) :
    (wake c d).vbp.ctrl = .active ∧ (wake c d).mc = { d.mc with mode := .standby } ∧ (wake c d).gs = d.gs ∧
      (wake c d).se = d.se ∧ (d.vbp.tx.count < 24 →
        (wake c d).vbp.tx.modes = d.vbp.tx.modes ++ [{ dest := .broadcast, body := .mode .standby c }]) := by
  obtain ⟨hgs, hmc, -, hse, -, -, hctrl⟩ := broadcastMode_keeps .standby c (woken d)
  exact ⟨hctrl, hmc, hgs, hse, fun hroom => broadcastMode_modes .standby c (d := woken d) (by simp [Device.txRoom, woken, hroom])⟩

/-- MISO at a fall: the presented bytes in order, and 0x00 behind them. -/
theorem miso_of_presented {l : Link} {p : Presented} (hlow : l.csLow = true) (hp : l.presented = some p) (k : Nat) :
    (k < p.bytes.length → l.miso k = p.bytes[k]?) ∧ (p.bytes.length ≤ k → l.miso k = some 0) := by
  have hmiso : l.miso k = some (byteAt p.bytes k) := by
    rw [Link.miso, hlow, hp]
    rfl
  rw [hmiso, byteAt, List.getD_eq_getElem?_getD]
  refine ⟨fun hk => ?_, fun hk => ?_⟩
  · rw [List.getElem?_eq_getElem hk]
    rfl
  · rw [List.getElem?_eq_none hk]
    rfl

theorem presenting_attn (w : Bool) (d : Device) : (presenting w d).attn = d.attn := rfl

/-- Settles O44: the presented reply is the head of the Reply FIFO, or IDLE. -/
theorem chipSelectFallPresentsReply : Obligations.ChipSelectFallPresentsReply := by
  refine ⟨fun s hhigh => ?_, fun s r rest hr => ?_⟩
  · have hact : actOf .chipSelectFalling s.dev = presenting (decide (s.dev.mc.mode = .sleep)) (atFall s.dev) :=
      chipSelectFalling_of_high hhigh
    have hchanges := atFall_changes s.dev
    obtain ⟨hreplies, -⟩ := hchanges.same .replyFifo
    obtain ⟨hoverrun, hcrc, hframe⟩ := hchanges.same .flags
    have hrequests : (atFall s.dev).sl.requests = s.dev.sl.requests := hchanges.same .requests
    obtain ⟨hlast, hattn, hframeBit, hcrcBit, hoverrunBit⟩ := present_status (atFall s.dev)
    refine ⟨actOf .chipSelectFalling s.dev, (present (atFall s.dev)).bytes, (present (atFall s.dev)).source, exec_eq _ s, ?_⟩
    rw [hact]
    refine ⟨rfl, hreplies, hrequests, fun hawake => ?_, fun hsleep => ?_, rfl, fun k => by rw [Link.miso, hhigh]; rfl,
      fun k => (miso_of_presented rfl rfl k).1, fun k => (miso_of_presented rfl rfl k).2, fun hempty => ?_,
      fun r rest hcons => ?_, hlast, hattn.trans (presenting_attn _ _).symm, hframeBit.trans hframe, hcrcBit.trans hcrc,
      hoverrunBit.trans hoverrun⟩
    · have hsame : atFall s.dev = s.dev := if_neg hawake
      rw [hsame, decide_eq_false hawake]
      rfl
    · have hwoken : atFall s.dev = wake .link s.dev := if_pos hsleep
      obtain ⟨hctrl, hmc, hgs, hse, hmodes⟩ := wake_blocks .link s.dev
      refine ⟨decide_eq_true hsleep, ?_, ?_, hchanges.tbl, hchanges.same .genset, hchanges.se, hchanges.same .config,
        hchanges.same .rta, ?_⟩
      all_goals rw [hwoken]
      · exact hmc
      · exact hctrl
      · exact hmodes
    · rw [present_of_empty (hreplies.trans hempty)]
      obtain ⟨hlength, hstatus, htail, -⟩ := replyBytes_layout (statusByte (atFall s.dev) false false) 0 0 Result.ok.code []
      obtain ⟨-, hrep, hlost, -, -, -⟩ := statusByte_bits (atFall s.dev) false false
      dsimp only
      rw [hstatus]
      exact ⟨rfl, htail, hlength, hrep, hlost⟩
    · rw [present_of_cons (hreplies.trans hcons)]
      obtain ⟨hlength, hstatus, htail, -⟩ :=
        replyBytes_layout (statusByte (atFall s.dev) r.lostMark r.repeatMark) r.kind r.tag r.result r.payload
      obtain ⟨-, hrep, hlost, -, -, -⟩ := statusByte_bits (atFall s.dev) r.lostMark r.repeatMark
      dsimp only
      rw [hstatus]
      exact ⟨rfl, hlength, htail, hrep, hlost⟩
  · have haged : replyAgeExpiry s.dev = { s.dev with sl := { s.dev.sl with replies := { r with aged := true } :: rest } } := by
      rw [replyAgeExpiry, hr]
      rfl
    refine ⟨actOf .replyAgeExpiry s.dev, exec_eq _ s, haged, fun hawake => ?_⟩
    have hact : actOf .replyAgeExpiry s.dev = replyAgeExpiry s.dev := rfl
    rw [hact, haged]
    simp [Device.attn, headOverdue, hawake]

/-! ## The rise of chip select -/

/-- The status byte that a rise has shown: 0 where no byte was clocked or nothing was in presentation. -/
def Link.shown (l : Link) (mosi : List Byte) : Byte :=
  if mosi = [] then 0 else byteAt ((l.presented.map (·.bytes)).getD []) 0

/-- The Reply FIFO that a rise leaves. -/
def Link.settled (l : Link) (clocked : Nat) : List ReplyEntry :=
  match l.presented with
  | none => l.replies
  | some p => settleReplies p clocked l.replies

theorem Link.settle_of_none {l : Link} (h : l.presented = none) (clocked : Nat) : l.settle clocked = l := by
  rw [Link.settle, h]

theorem Link.settled_of_none {l : Link} (h : l.presented = none) (clocked : Nat) : l.settled clocked = l.replies := by
  rw [Link.settled, h]

/-- A rise settles the Reply FIFO, clears the flags shown, and ends the presentation. -/
theorem Link.settle_eq (l : Link) (mosi : List Byte) : l.settle mosi.length =
    { l.clearShown (l.shown mosi) with replies := l.settled mosi.length, presented := none } := by
  have hunshown (m : Link) : m = m.clearShown 0 := by simp [Link.clearShown]
  cases hp : l.presented with
  | none =>
    have hshown : l.shown mosi = 0 := by simp [Link.shown, hp, byteAt]
    rw [Link.settle_of_none hp, Link.settled_of_none hp, hshown, ← hp]
    exact hunshown l
  | some p =>
    have hshown : l.shown mosi = if mosi = [] then 0 else byteAt p.bytes 0 := by rw [Link.shown, hp]; rfl
    rw [Link.settle, Link.settled, hshown, hp]
    dsimp only
    cases mosi with
    | nil => rw [if_neg (by decide), if_pos rfl, ← hunshown]
    | cons b bs => rw [if_pos (by simp), if_neg (List.cons_ne_nil _ _)]; rfl

theorem Link.settled_of_head {l : Link} {p : Presented} (hp : l.presented = some p) (hhead : p.source = .head)
    {r : ReplyEntry} {rest : List ReplyEntry} (hr : l.replies = r :: rest) (clocked : Nat) :
    l.settled clocked = if p.bytes.length ≤ clocked then rest else { r with repeatMark := true } :: rest := by
  rw [Link.settled, hp]
  simp only [settleReplies, hhead, hr, List.tail_cons, markRepeat]

theorem Link.settled_of_not_head {l : Link} (h : ∀ p ∈ l.presented, p.source ≠ .head) (clocked : Nat) :
    l.settled clocked = l.replies := by
  unfold Link.settled
  split
  · rfl
  · next p hp =>
    unfold settleReplies
    split
    · exact absurd ‹_› (h p hp)
    · rfl
    · rfl

/-- What a judged request writes: the Request FIFO and the link flags. -/
theorem Link.receive_blocks (l : Link) (j : Judgement) : l.receive j =
    { l with
      requests := (l.receive j).requests, frameError := (l.receive j).frameError, crcError := (l.receive j).crcError,
      overrun := (l.receive j).overrun } := by
  unfold Link.receive
  repeat' split
  all_goals rfl

theorem judge_of_first_zero {mosi : List Byte} (h : byteAt mosi 0 = 0) : judge false mosi = .noRequest := by
  cases mosi with
  | nil => rfl
  | cons b bs => exact if_pos h

theorem judge_of_first {mosi : List Byte} (h : byteAt mosi 0 ≠ 0) : judge false mosi = judgeFrame mosi := by
  cases mosi with
  | nil => exact absurd rfl h
  | cons b bs => exact if_neg h

theorem judgeFrame_of_bad_length {mosi : List Byte}
    (h : mosi.length < 3 ∨ 30 < (byteAt mosi 2).toNat ∨ mosi.length < 4 + (byteAt mosi 2).toNat) :
    judgeFrame mosi = .frameError := by
  rw [judgeFrame]
  simp only [Bool.or_eq_true, decide_eq_true_eq]
  exact if_pos (or_assoc.mpr h)

theorem judgeFrame_of_length {mosi : List Byte} (h : (byteAt mosi 2).toNat ≤ 30) (h' : 4 + (byteAt mosi 2).toNat ≤ mosi.length) :
    judgeFrame mosi =
      if byteAt mosi (3 + (byteAt mosi 2).toNat) = crc8 (mosi.take (3 + (byteAt mosi 2).toNat)) then
        .frame { kind := byteAt mosi 0, tag := byteAt mosi 1, payload := (mosi.drop 3).take (byteAt mosi 2).toNat }
      else .crcError := by
  rw [judgeFrame]
  simp only [Bool.or_eq_true, decide_eq_true_eq]
  rw [if_neg (by omega)]
  exact ite_not _ _ _

/-- What stands in the link after a rise, judged as `j`. -/
def Link.risen (l : Link) (mosi : List Byte) (j : Judgement) : Link :=
  { (l.settle mosi.length).receive j with csLow := false, waking := false }

theorem chipSelectRising_of_low (mosi : List Byte) (h : d.sl.csLow = true) : chipSelectRising mosi d =
    d.withSl (d.sl.risen mosi (judge (d.sl.waking || decide (d.mc.mode = .sleep)) mosi)) := by
  rw [chipSelectRising, if_pos h]
  rfl

theorem Link.risen_blocks (l : Link) (mosi : List Byte) (j : Judgement) : l.risen mosi j =
    { l with
      requests := (l.risen mosi j).requests, replies := l.settled mosi.length, overrun := (l.risen mosi j).overrun,
      crcError := (l.risen mosi j).crcError, frameError := (l.risen mosi j).frameError, presented := none, csLow := false,
      waking := false } := by
  unfold Link.risen
  rw [Link.receive_blocks, Link.settle_eq]
  rfl

/-- Settles O45: the reply settled first, then the bytes judged in order. -/
theorem chipSelectRiseJudgesRequest : Obligations.ChipSelectRiseJudgesRequest := by
  intro s mosi hlow
  have hact : actOf (.chipSelectRising mosi) s.dev = s.dev.withSl
      (s.dev.sl.risen mosi (judge (s.dev.sl.waking || decide (s.dev.mc.mode = .sleep)) mosi)) :=
    chipSelectRising_of_low mosi hlow
  refine ⟨actOf (.chipSelectRising mosi) s.dev, exec_eq _ s, ?_⟩
  rw [hact]
  have hblocks (j : Judgement) := Link.risen_blocks s.dev.sl mosi j
  have hsettle := Link.settle_eq s.dev.sl mosi
  have hreplies (j : Judgement) : (s.dev.sl.risen mosi j).replies = s.dev.sl.settled mosi.length := by rw [hblocks]
  refine ⟨rfl, rfl, rfl, by rw [hblocks]; rfl, by rw [hblocks]; rfl, by rw [hblocks]; rfl, by rw [hblocks]; rfl,
    by rw [hblocks]; rfl, fun k => rfl, fun p r rest hp hhead hr => ?_, fun hnot => ?_,
    fun asleep st frame crc ovr n hasleep hn hst hframe hcrc hovr => ?_⟩
  · have hsettled := Link.settled_of_head hp hhead hr mosi.length
    exact ⟨fun hall => ((hreplies _).trans hsettled).trans (if_pos hall),
      fun hpart => ((hreplies _).trans hsettled).trans (if_neg (Nat.not_le.mpr hpart))⟩
  · exact (hreplies _).trans (Link.settled_of_not_head hnot _)
  · have hshown : s.dev.sl.shown mosi = st := hst.symm
    rw [← hasleep]
    subst hn hframe hcrc hovr
    simp only [Device.withSl_sl, Link.risen, hsettle, hshown]
    refine ⟨fun hjudged => ?_, fun hjudged hzero => ?_, fun hjudged hfirst hlength => ?_, fun hjudged hfirst hn hlength => ?_⟩
    · rw [hjudged]
      exact ⟨rfl, rfl, rfl, rfl⟩
    · rw [hjudged, judge_of_first_zero hzero]
      exact ⟨rfl, rfl, rfl, rfl⟩
    · rw [hjudged, judge_of_first hfirst, judgeFrame_of_bad_length hlength]
      exact ⟨rfl, rfl, rfl, rfl⟩
    · rw [hjudged, judge_of_first hfirst, judgeFrame_of_length hn hlength]
      by_cases hgood : byteAt mosi (3 + (byteAt mosi 2).toNat) = crc8 (mosi.take (3 + (byteAt mosi 2).toNat))
      · rw [if_pos hgood]
        by_cases hroom : s.dev.sl.requests.length < 16
        · simp [Link.receive, Link.clearShown, hroom, hgood, Nat.not_le.mpr hroom]
        · simp [Link.receive, Link.clearShown, hroom, hgood]
      · rw [if_neg hgood]
        exact ⟨rfl, fun _ => ⟨rfl, rfl, rfl⟩, fun h => absurd h hgood⟩

end Sys2Proof.Machine
end

section
/-! PROOFS. The reply to a record request: the frame leaves its port, the row's act decides, and one reply is placed on that port
(R24 to R29). -/

namespace Sys2Proof.Machine

-- A default proof `by decide` waits for the kernel: side by side the proofs would ask for a thread each.
set_option Elab.async false

variable {d e : Device} {o : Offer} {r : RauReply}

/-! ## The offer -/

theorem rauOffer_of_link (ho : rauOffer d = some o) (hport : o.port = .link) : linkOffer d = some o := by
  unfold rauOffer at ho
  split at ho <;> obtain h | ⟨-, h⟩ := Option.or_eq_some_iff.mp ho
  · exact h
  · exact absurd (hport.symm.trans (busOffer_port h)) nofun
  · exact absurd (hport.symm.trans (busOffer_port h)) nofun
  · exact h

theorem rauOffer_of_bus (ho : rauOffer d = some o) (hport : o.port = .bus) : busOffer d = some o := by
  unfold rauOffer at ho
  split at ho <;> obtain h | ⟨-, h⟩ := Option.or_eq_some_iff.mp ho
  · exact absurd (hport.symm.trans (linkOffer_port h)) nofun
  · exact h
  · exact h
  · exact absurd (hport.symm.trans (linkOffer_port h)) nofun

/-- The link offers its head frame, whose kind and tag the reply echoes. -/
theorem linkOffer_head (h : linkOffer d = some o) :
    ∃ f rest, d.sl.requests = f :: rest ∧ o.kind = f.kind ∧ o.tag = f.tag ∧ o.row = o.req.row ∧ o.req ≠ .short := by
  unfold linkOffer at h
  split at h
  · cases h
  split at h
  · cases h
  next f rest hrest =>
  obtain ⟨q, hq, rfl⟩ := Option.map_eq_some_iff.mp h
  refine ⟨f, rest, hrest, rfl, rfl, rfl, ?_⟩
  obtain ⟨k, -, hk⟩ := Option.bind_eq_some_iff.mp hq
  rintro rfl
  cases k <;> cases hk

/-- The bus offers a record request of its receive buffer, while the transmit queue has room. -/
theorem busOffer_frame (h : busOffer d = some o) : d.txRoom = true ∧ ∃ f ∈ d.vbp.rx, f.node = o.who := by
  unfold busOffer at h
  split at h
  · obtain ⟨f, hf, rfl⟩ := Option.map_eq_some_iff.mp h
    exact ⟨‹_›, f, List.mem_of_find?_eq_some hf, rfl⟩
  · cases h

/-! ## The reply (R29) -/

theorem consume_of_link (h : o.port = .link) : consume o d =
    (d.withSl { d.sl with requests := d.sl.requests.tail }).withRau { d.rau with turn := o.port.other } := by
  unfold consume
  rw [h]
  rfl

theorem consume_of_bus (h : o.port = .bus) : consume o d =
    (d.withVbp { d.vbp with rx := d.vbp.rx.eraseP isRecordFrame }).withRau { d.rau with turn := o.port.other } := by
  unfold consume
  rw [h]
  rfl

theorem answer_of_link (h : o.port = .link) : answer o r e = placeReply o.kind o.tag r.result.code r.link e.draw := by
  unfold answer
  rw [h]

/-- The data bytes of a reply on the bus. -/
def busReplyData (o : Offer) (r : RauReply) (d : Device) : List Byte :=
  pad8 ([o.canKind.getD (Config.freeByte d.draws 0), r.handle.1, r.handle.2, r.result.code] ++ r.bus)

theorem answer_of_bus (h : o.port = .bus) :
    answer o r e = handFrame .reply { dest := .node o.who, body := .reply (busReplyData o r e) } e.draw := by
  unfold answer
  rw [h]
  rfl

theorem busReplyData_facts (o : Offer) (r : RauReply) (d : Device) :
    (busReplyData o r d).length = 8 ∧ byteAt (busReplyData o r d) 3 = r.result.code := by
  refine ⟨?_, rfl⟩
  simp [busReplyData, pad8]

/-- Nothing but the records has changed since the frame left its port. -/
theorem ChangesRecordsOnly.eqs {d d' : Device} (h : ChangesRecordsOnly d d') :
    d'.now = d.now ∧ d'.draws = d.draws ∧ d'.sl = d.sl ∧
      d'.vbp = { d.vbp with awardQueue := d'.vbp.awardQueue, lastAward := d'.vbp.lastAward } := by
  obtain ⟨_, _, _, _, rfl⟩ := h
  exact ⟨rfl, rfl, rfl, rfl⟩

/-- On the link the head frame is replied to with the result and payload of the act. -/
theorem answer_link_replied (ho : rauOffer d = some o) (hport : o.port = .link) (he : ChangesRecordsOnly (consume o d) e)
    (r : RauReply) : ∃ f rest, d.sl.requests = f :: rest ∧
      d.sl.repliedTo (answer o r e).sl f r.result r.link d.now ∧
      (answer o r e).vbp = { d.vbp with awardQueue := e.vbp.awardQueue, lastAward := e.vbp.lastAward } := by
  obtain ⟨f, rest, hrest, hkind, htag, -, -⟩ := linkOffer_head (rauOffer_of_link ho hport)
  obtain ⟨hnow, -, hsl, hvbp⟩ := he.eqs
  rw [consume_of_link hport] at hnow hsl hvbp
  refine ⟨f, rest, hrest, ?_, ?_⟩
  · have hreplied := finish_answered_repliedTo (l := d.sl) (d := e) hsl f r.result r.link
    rw [finish_answered, hnow] at hreplied
    rw [answer_of_link hport, hkind, htag]
    exact hreplied
  · rw [answer_of_link hport, placeReply_blocks]
    exact hvbp

/-- On the bus the requester is sent a reply with the result of the act. -/
theorem answer_bus_replied (ho : rauOffer d = some o) (hport : o.port = .bus) (he : ChangesRecordsOnly (consume o d) e)
    (r : RauReply) : (answer o r e).sl = d.sl ∧ (answer o r e).vbp =
      { d.vbp with
        rx := d.vbp.rx.eraseP isRecordFrame,
        tx := { d.vbp.tx with
          replies := d.vbp.tx.replies ++ [{ dest := .node o.who, body := .reply (busReplyData o r e) }] },
        awardQueue := e.vbp.awardQueue, lastAward := e.vbp.lastAward } := by
  obtain ⟨hroom, -⟩ := busOffer_frame (rauOffer_of_bus ho hport)
  obtain ⟨-, -, hsl, hvbp⟩ := he.eqs
  rw [consume_of_bus hport] at hsl hvbp
  have hroom' : e.draw.txRoom = true := by
    have htx : e.draw.txRoom = d.txRoom := by
      change (e.vbp.ctrl != .idle && decide (e.vbp.tx.count < 24)) = _
      rw [hvbp]
      rfl
    exact htx.trans hroom
  obtain ⟨-, hhanded⟩ | ⟨hfull, -⟩ :=
    handFrame_cases .reply { dest := .node o.who, body := .reply (busReplyData o r e) } e.draw
  · rw [answer_of_bus hport, hhanded]
    have hwritten (q : TxQueue) : (e.draw.withTx q).vbp = { e.vbp with tx := q } := rfl
    have htx : e.draw.vbp.tx = d.vbp.tx := by
      change e.vbp.tx = _
      rw [hvbp]
      rfl
    refine ⟨hsl, ?_⟩
    rw [hwritten, htx, hvbp]
    rfl
  · rw [hroom'] at hfull
    cases hfull

/-! ## Taking the request -/

/-- The reply to the request taken and the device it is placed on: a refusal of the common checks, or the row's own act. -/
theorem takeRecord_taken (ho : rauOffer d = some o) :
    (∃ c, (c = .notEnrolled ∨ c = .badRequest) ∧
        takeRecord o.row o.row.act d = answer o (refusal o c (consume o d)) (consume o d)) ∨
      takeRecord o.row o.row.act d = answer o (o.row.act o (consume o d)).2 (o.row.act o (consume o d)).1 := by
  rw [takeRecord_some _ _ d o ho rfl]
  split
  · exact .inl ⟨_, .inl rfl, rfl⟩
  · split
    · exact .inl ⟨_, .inr rfl, rfl⟩
    · exact .inr rfl

/-- A whole request of an admitted requester is decided by its row's act. -/
theorem takeRecord_of_admitted {w : RauRow} (h : Admitted d o) (hrow : o.row = w) (hwhole : o.req ≠ .short) :
    takeRecord w w.act d = answer o (w.act o (consume o d)).2 (w.act o (consume o d)).1 := by
  obtain ⟨ho, henrolled⟩ := h
  rw [takeRecord_some _ _ d o ho hrow, if_neg, if_neg hwhole]
  rw [Bool.and_eq_true, Bool.not_eq_true', decide_eq_true_eq, consume_enrolled]
  rintro ⟨hport, hnot⟩
  rw [henrolled hport] at hnot
  cases hnot

theorem takeRecord_keepsCore (w : RauRow) (d : Device) : d.keepsCore (takeRecord w w.act d) := by
  have h := takeRecord_changes w d
  exact ⟨h.same .now, h.same .combiner, h.se, h.same .genset, h.mc, h.same .config⟩

/-- Whatever is decided, the reply is placed on a device in which only the records may have changed. -/
theorem takeRecord_answer (ho : rauOffer d = some o) :
    ∃ e r, ChangesRecordsOnly (consume o d) e ∧ takeRecord o.row o.row.act d = answer o r e := by
  obtain ⟨c, -, h⟩ | h := takeRecord_taken ho
  · exact ⟨_, _, .refl _, h⟩
  · exact ⟨_, _, o.row.act_changesRecordsOnly o _, h⟩

/-- Settles O6: one rule of the Record Access Unit for every row and both ports. -/
theorem recordRequestAnsweredOnce : Obligations.RecordRequestAnsweredOnce := by
  intro s o ho
  refine ⟨takeRecord o.row o.row.act s.dev, exec_command o.row s, takeRecord_keepsCore _ _, takeRecord_rau ho, fun hport => ?_,
    fun hport => ?_⟩
  · obtain ⟨e, r, he, htaken⟩ := takeRecord_answer ho
    obtain ⟨f, rest, hrest, hreplied, hvbp⟩ := answer_link_replied ho hport he r
    rw [htaken]
    exact ⟨f, rest, r.result, r.link, hrest, hreplied, by rw [hvbp]⟩
  · obtain ⟨e, r, he, htaken⟩ := takeRecord_answer ho
    obtain ⟨hlink, hvbp⟩ := answer_bus_replied ho hport he r
    obtain ⟨hlength, -⟩ := busReplyData_facts o r e
    obtain ⟨-, f, hf, hnode⟩ := busOffer_frame (rauOffer_of_bus ho hport)
    rw [htaken]
    exact ⟨f, hf, hnode, busReplyData o r e, hlength, hlink, by rw [hvbp]⟩

/-! ## Refusals -/

/-- A reply that tells of a refusal. -/
def RauReply.refuses (r : RauReply) : Prop := r.result ≠ .ok ∧ r.result ≠ .clamped ∧ r.result ≠ .badFields

/-- An AMEND that is taken leaves an edit open for its slot that a COMMIT can end. -/
theorem commitCore_after_amend {slot gen : Byte} {ws : List FieldWrite} {i : SlotNo} {ks : List Bool} {d' : Device}
    (h : amendCore o slot gen ws d = .taken i d' ks) (owner : Nat) (c : Result) : commitCore owner i d' ≠ .refused c := by
  obtain ⟨x, e, -, -, -, hbuffer, rfl⟩ := amendCore_taken h
  obtain ⟨hedit, hslot, -⟩ := amendBuffer_ok hbuffer
  have hnot : (d.slot i).content.isRetiring = false := by
    obtain ⟨hdraft, -⟩ | ⟨hused, -⟩ := hedit <;> cases hc : (d.slot i).content <;>
      simp_all [Content.isDraft, Content.isUsed, Content.isRetiring]
  intro hrefused
  simp only [commitCore, Device.slot_setBuffer, hnot, Bool.false_eq_true, if_false, Device.openFor,
    Device.buffer_setBuffer_same, Option.filter_some, hslot, decide_true, if_true] at hrefused
  split at hrefused <;> cases hrefused

theorem not_refuses_of_ite {p : Prop} [Decidable p] (h : r.result = if p then .clamped else .ok) : ¬r.refuses := by
  rintro ⟨hok, hclamped, -⟩
  split at h
  · exact hclamped h
  · exact hok h

theorem not_refuses_of_ok (h : r.result = .ok) : ¬r.refuses := fun hr => hr.1 h

/-- An act wrote nothing, or its reply does not tell of a refusal. -/
def WritesOrRefuses (d : Device) (x : Device × RauReply) : Prop := x.1 = d ∨ ¬x.2.refuses

namespace WritesOrRefuses

theorem none (d : Device) (r : RauReply) : WritesOrRefuses d (d, r) := .inl rfl

theorem ite {p : Prop} [Decidable p] {x y : Device × RauReply} (hx : WritesOrRefuses d x) (hy : WritesOrRefuses d y) :
    WritesOrRefuses d (if p then x else y) := by
  split
  · exact hx
  · exact hy

theorem claimAct (o : Offer) (kind label extra : Byte) (d : Device) : WritesOrRefuses d (claimAct o kind label extra d) := by
  unfold Machine.claimAct
  split
  · exact none d _
  · refine ite (none d _) (ite (none d _) (ite (none d _) ?_))
    split
    · exact none d _
    · exact .inr (not_refuses_of_ite rfl)

theorem amendAct (o : Offer) (slot gen : Byte) (ws : List FieldWrite) (d : Device) :
    WritesOrRefuses d (amendAct o slot gen ws d) := by
  unfold Machine.amendAct
  split
  · exact none d _
  · exact .inr (not_refuses_of_ite rfl)

theorem commitAct (o : Offer) (slot gen : Byte) (d : Device) : WritesOrRefuses d (commitAct o slot gen d) := by
  unfold Machine.commitAct
  split
  · exact none d _
  · split
    · exact none d _
    · exact .inr fun h => h.2.2 rfl
    · exact .inr (not_refuses_of_ok rfl)

theorem amendCommitAct (o : Offer) (slot gen : Byte) (ws : List FieldWrite) (d : Device) :
    WritesOrRefuses d (amendCommitAct o slot gen ws d) := by
  unfold Machine.amendCommitAct
  split
  · exact none d _
  · next hamend =>
    split
    · exact absurd ‹_› (commitCore_after_amend hamend _ _)
    · exact .inr fun h => h.2.2 rfl
    · exact .inr (not_refuses_of_ite rfl)

theorem renewAct (o : Offer) (slot gen : Byte) (v : Option Half) (d : Device) :
    WritesOrRefuses d (renewAct o slot gen v d) := by
  unfold Machine.renewAct
  split
  · exact none d _
  · split
    · exact .inr (not_refuses_of_ite rfl)
    · exact .inr (not_refuses_of_ite rfl)
    · exact none d _

theorem releaseAct (o : Offer) (slot gen : Byte) (d : Device) : WritesOrRefuses d (releaseAct o slot gen d) := by
  unfold Machine.releaseAct
  split
  · exact none d _
  · exact .inr (not_refuses_of_ok rfl)

theorem purgeAct (o : Offer) (slot gen : Byte) (d : Device) : WritesOrRefuses d (purgeAct o slot gen d) := by
  unfold Machine.purgeAct
  refine ite (none d _) ?_
  split
  · exact none d _
  · exact .inr (not_refuses_of_ok rfl)

end WritesOrRefuses

/-- An act whose reply tells of a refusal has written nothing. -/
theorem RauRow.act_writesOrRefuses (w : RauRow) (o : Offer) (d : Device) : WritesOrRefuses d (w.act o d) := by
  cases w with
  | unknown => exact .none d _
  | claim => simp only [act]; split; exacts [.claimAct .., .none d _]
  | amend => simp only [act]; split; exacts [.amendAct .., .none d _]
  | amendCommit => simp only [act]; split; exacts [.amendCommitAct .., .none d _]
  | commit => simp only [act]; split; exacts [.commitAct .., .none d _]
  | renew | renewWithValue => simp only [act]; split; exacts [.renewAct .., .none d _]
  | release => simp only [act]; split; exacts [.releaseAct .., .none d _]
  | purge => simp only [act]; split; exacts [.purgeAct .., .none d _]
  | query => simp only [act]; split; exacts [.inl (queryAct_dev ..), .none d _]
  | queryField => simp only [act]; split; exacts [.inl (queryFieldAct_dev ..), .none d _]
  | lookup => simp only [act]; split; exacts [.inl (lookupAct_dev ..), .none d _]

/-- A request taken is answered with a reply that tells of no refusal, or leaves the records as they were. -/
theorem takeRecord_writesOrRefuses (ho : rauOffer d = some o) : ∃ e r, ChangesRecordsOnly (consume o d) e ∧
    takeRecord o.row o.row.act d = answer o r e ∧ (e = consume o d ∨ ¬r.refuses) := by
  obtain ⟨c, -, h⟩ | h := takeRecord_taken ho
  · exact ⟨_, _, .refl _, h, .inl rfl⟩
  · exact ⟨_, _, o.row.act_changesRecordsOnly o _, h, o.row.act_writesOrRefuses o _⟩

theorem RauReply.refuses_of_code (hok : r.result.code ≠ Result.ok.code) (hclamped : r.result.code ≠ Result.clamped.code)
    (hfields : r.result.code ≠ Result.badFields.code) : r.refuses :=
  ⟨fun h => hok (congrArg Result.code h), fun h => hclamped (congrArg Result.code h),
    fun h => hfields (congrArg Result.code h)⟩

/-- Settles O7: every act writes nothing or does not refuse. -/
theorem refusedRecordRequestChangesNoRecord : Obligations.RefusedRecordRequestChangesNoRecord := by
  intro s t o ho hexec
  rw [exec_command] at hexec
  cases hexec
  obtain ⟨e, r, he, htaken, hwrites⟩ := takeRecord_writesOrRefuses ho
  dsimp only
  rw [htaken]
  have hkept (hrefuses : r.refuses) : (answer o r e).tbl = s.dev.tbl ∧ (answer o r e).rta = s.dev.rta := by
    obtain rfl | hnot := hwrites
    · simp
    · exact absurd hrefuses hnot
  refine ⟨fun hport hroom reply hreply hok hclamped hfields => hkept ?_, fun hport x data hdata hok hclamped hfields => hkept ?_⟩
  · obtain ⟨f, rest, -, hreplied, -⟩ := answer_link_replied ho hport he r
    rw [Link.repliedTo, if_pos hroom] at hreplied
    rw [hreplied] at hreply
    obtain rfl : ReplyEntry.enter f.kind f.tag r.result.code r.link s.dev.sl.lostReply s.dev.now = reply := by
      simpa using hreply
    exact RauReply.refuses_of_code hok hclamped hfields
  · obtain ⟨-, hvbp⟩ := answer_bus_replied ho hport he r
    obtain ⟨-, hcode⟩ := busReplyData_facts o r e
    rw [hvbp] at hdata
    obtain ⟨-, rfl⟩ : .node o.who = x ∧ busReplyData o r e = data := by simpa using hdata
    rw [hcode] at hok hclamped hfields
    exact RauReply.refuses_of_code hok hclamped hfields

/-! ## Frames of unknown kind -/

/-- Settles O16: an unknown frame has no act beside its reply. -/
theorem unknownKindRefused : Obligations.UnknownKindRefused := by
  intro s o ho hrow
  have hport : o.port = .bus := by
    cases hport : o.port with
    | bus => rfl
    | link =>
      obtain ⟨-, -, -, -, -, hreq, hwhole⟩ := linkOffer_head (rauOffer_of_link ho hport)
      rw [hrow] at hreq
      cases hq : o.req <;> rw [hq] at hreq hwhole <;> simp [RecordRequest.row] at hreq hwhole
      all_goals split at hreq <;> cases hreq
  have hcode : takeRecord .unknown (RauRow.act .unknown) s.dev = answer o (refusal o
      (if s.dev.enrolled o.who then .badRequest else .notEnrolled) (consume o s.dev)) (consume o s.dev) := by
    rw [takeRecord_some _ _ s.dev o ho hrow, consume_enrolled, hport]
    cases s.dev.enrolled o.who <;> simp [RauRow.act]
  obtain ⟨-, hvbp⟩ := answer_bus_replied ho hport (.refl _)
    (refusal o (if s.dev.enrolled o.who then .badRequest else .notEnrolled) (consume o s.dev))
  refine ⟨takeRecord .unknown (RauRow.act .unknown) s.dev, busReplyData o
    (refusal o (if s.dev.enrolled o.who then .badRequest else .notEnrolled) (consume o s.dev)) (consume o s.dev),
    exec_command .unknown s, ?_, ?_, takeRecord_keepsCore _ _, hport, ?_, ?_⟩
  · simp [hcode]
  · simp [hcode]
  · rw [hcode, hvbp]
  · obtain ⟨-, hbyte⟩ := busReplyData_facts o
      (refusal o (if s.dev.enrolled o.who then .badRequest else .notEnrolled) (consume o s.dev)) (consume o s.dev)
    rw [hbyte, (refusal_carries _ _ _).1]
    split <;> rfl

end Sys2Proof.Machine
end

section
/-! PROOFS. CLAIM: the slot that is given, and the DRAFT that it opens (R30 to R32). -/

namespace Sys2Proof.Machine

-- A default proof `by decide` waits for the kernel: side by side the proofs would ask for a thread each.
set_option Elab.async false

variable {d e : Device} {o : Offer}

/-! ## Reading the table between the frame taken and the reply placed -/

@[simp] theorem consume_slot (o : Offer) (d : Device) (i : SlotNo) : (consume o d).slot i = d.slot i :=
  (consume_sameTable o d).slot i

@[simp] theorem consume_buffer (o : Offer) (d : Device) (b : BankNo) : (consume o d).buffer b = d.buffer b :=
  (consume_sameTable o d).buffer b

@[simp] theorem consume_rtaOf (o : Offer) (d : Device) (i : SlotNo) : (consume o d).rtaOf i = d.rtaOf i :=
  (consume_sameTable o d).rtaOf i

@[simp] theorem answer_slot (o : Offer) (r : RauReply) (d : Device) (i : SlotNo) : (answer o r d).slot i = d.slot i :=
  (answer_sameTable o r d).slot i

@[simp] theorem answer_buffer (o : Offer) (r : RauReply) (d : Device) (b : BankNo) : (answer o r d).buffer b = d.buffer b :=
  (answer_sameTable o r d).buffer b

@[simp] theorem answer_rtaOf (o : Offer) (r : RauReply) (d : Device) (i : SlotNo) : (answer o r d).rtaOf i = d.rtaOf i :=
  (answer_sameTable o r d).rtaOf i

@[simp] theorem anySlot_consume (p : Slot → Bool) (o : Offer) (d : Device) : anySlot p (consume o d) = anySlot p d := by
  simp only [anySlot, consume_slot]

@[simp] theorem findSlot_consume (p : SlotNo → Slot → Bool) (o : Offer) (d : Device) :
    findSlot p (consume o d) = findSlot p d := by
  simp only [findSlot, consume_slot]

@[simp] theorem allocate_consume (who : Nat) (o : Offer) (d : Device) : allocate who (consume o d) = allocate who d := by
  have hfree : freeSlotIn (consume o d) = freeSlotIn d := funext fun b => findSlot_consume _ o d
  simp only [allocate, consume_buffer, anySlot_consume, hfree]

/-! ## Allocation (R31) -/

theorem anySlot_eq_true {p : Slot → Bool} : anySlot p d = true ↔ ∃ i, p (d.slot i) = true := by
  simp [anySlot]

/-- The slot found is the lowest of those that satisfy the search. -/
theorem findSlot_eq_some {p : SlotNo → Slot → Bool} {i : SlotNo} (h : findSlot p d = some i) :
    p i (d.slot i) = true ∧ ∀ j, p j (d.slot j) = true → i ≤ j := by
  obtain ⟨hi, before, after, hsplit, hbefore⟩ := List.find?_eq_some_iff_append.mp h
  refine ⟨hi, fun j hj => ?_⟩
  have hmem : j ∈ before ++ i :: after := hsplit ▸ List.mem_finRange j
  have hsorted : (before ++ i :: after).Pairwise (· < ·) := hsplit ▸ List.pairwise_lt_finRange 48
  obtain hj' | hj' | hj' := by simpa using hmem
  · simpa [hj] using hbefore j hj'
  · exact hj'.ge
  · obtain ⟨-, htail, -⟩ := List.pairwise_append.mp hsorted
    exact ((List.pairwise_cons.mp htail).1 j hj').le

theorem findSlot_eq_none {p : SlotNo → Slot → Bool} (h : findSlot p d = none) (i : SlotNo) : p i (d.slot i) = false := by
  simpa using List.find?_eq_none.mp h i (List.mem_finRange i)

theorem freeSlotIn_eq_none {b : BankNo} (h : freeSlotIn d b = none) {i : SlotNo} (hi : bankOf i = b) :
    (d.slot i).content.isFree = false := by
  simpa [hi] using findSlot_eq_none h i

theorem freeSlotIn_eq_some {b : BankNo} {i : SlotNo} (h : freeSlotIn d b = some i) :
    bankOf i = b ∧ (d.slot i).content.isFree = true ∧
      ∀ j, bankOf j = b → (d.slot j).content.isFree = true → i ≤ j := by
  obtain ⟨hi, hlowest⟩ := findSlot_eq_some h
  obtain ⟨hbank, hfree⟩ : bankOf i = b ∧ (d.slot i).content.isFree = true := by simpa using hi
  exact ⟨hbank, hfree, fun j hj hj' => hlowest j (by simp [hj, hj'])⟩

theorem mem_searchOrder (who : Nat) (b : BankNo) : b ∈ searchOrder who := by
  by_cases hb : b = homeBank who
  · exact hb ▸ List.mem_cons_self
  · refine List.mem_cons_of_mem _ (List.mem_filter.mpr ⟨?_, by simpa using hb⟩)
    fin_cases b <;> decide

/-- A bank is searched before another: it is the home bank, or neither is and it has the lower number. -/
def SearchedBefore (who : Nat) (a b : BankNo) : Prop := a = homeBank who ∨ (b ≠ homeBank who ∧ a < b)

theorem searchOrder_pairwise (who : Nat) : (searchOrder who).Pairwise (SearchedBefore who) := by
  have hbanks : ([0, 1, 2, 3] : List BankNo).Pairwise (· < ·) := by decide
  refine List.pairwise_cons.mpr ⟨fun b _ => .inl rfl, List.Pairwise.imp_of_mem (fun _ hb h => ?_) (hbanks.filter _)⟩
  exact .inr ⟨by simpa using (List.mem_filter.mp hb).2, h⟩

/-- The slot that the search of the banks with a closed buffer comes to. -/
def openBankSlot (who : Nat) (d : Device) : Option SlotNo :=
  ((searchOrder who).filter fun b => (d.buffer b).isNone).findSome? (freeSlotIn d)

theorem allocate_eq (who : Nat) (d : Device) : allocate who d =
    match openBankSlot who d with
    | some i => .ok i
    | none => if anySlot (fun s => s.content.isFree) d then .error .bankBusy else .error .tableFull := rfl

theorem openBankSlot_eq_some {who : Nat} {i : SlotNo} (h : openBankSlot who d = some i) :
    freeSlotIn d (bankOf i) = some i ∧ d.buffer (bankOf i) = none ∧
      ∀ j : SlotNo, (d.slot j).content.isFree = true → d.buffer (bankOf j) = none → bankOf j ≠ bankOf i →
        SearchedBefore who (bankOf i) (bankOf j) := by
  obtain ⟨before, b, after, hsplit, hfound, hbefore⟩ := List.findSome?_eq_some_iff.mp h
  obtain ⟨rfl, -, -⟩ := freeSlotIn_eq_some hfound
  have hmem : bankOf i ∈ (searchOrder who).filter fun b => (d.buffer b).isNone := by rw [hsplit]; simp
  refine ⟨hfound, by simpa using (List.mem_filter.mp hmem).2, fun j hfree hclosed hother => ?_⟩
  have hmemj : bankOf j ∈ (searchOrder who).filter fun b => (d.buffer b).isNone :=
    List.mem_filter.mpr ⟨mem_searchOrder _ _, by simp [hclosed]⟩
  have hsorted := (searchOrder_pairwise who).filter fun b => (d.buffer b).isNone
  rw [hsplit] at hmemj hsorted
  obtain hj | hj | hj := by simpa using hmemj
  · rw [freeSlotIn_eq_none (hbefore _ hj) rfl] at hfree
    cases hfree
  · exact absurd hj hother
  · obtain ⟨-, htail, -⟩ := List.pairwise_append.mp hsorted
    exact (List.pairwise_cons.mp htail).1 _ hj

theorem openBankSlot_eq_none {who : Nat} :
    openBankSlot who d = none ↔ ∀ i : SlotNo, (d.slot i).content.isFree = true → d.buffer (bankOf i) ≠ none := by
  rw [openBankSlot, List.findSome?_eq_none_iff]
  refine ⟨fun h i hfree hclosed => ?_, fun h b hb => ?_⟩
  · have hnone := h (bankOf i) (List.mem_filter.mpr ⟨mem_searchOrder _ _, by simp [hclosed]⟩)
    rw [freeSlotIn_eq_none hnone rfl] at hfree
    cases hfree
  · cases hslot : freeSlotIn d b with
    | none => rfl
    | some i =>
      obtain ⟨rfl, hfree, -⟩ := freeSlotIn_eq_some hslot
      exact absurd (by simpa using (List.mem_filter.mp hb).2) (h i hfree)

/-- Settles O9: a search bank by bank in the order of R31. -/
theorem claimAllocatesLowestFreeSlot : Obligations.ClaimAllocatesLowestFreeSlot := by
  intro d who
  rw [allocate_eq]
  cases hfound : openBankSlot who d with
  | some i =>
    obtain ⟨hslot, hclosed, hbefore⟩ := openBankSlot_eq_some hfound
    obtain ⟨-, hfree, hlowest⟩ := freeSlotIn_eq_some hslot
    refine ⟨fun j hj => ?_, iff_of_false nofun fun h => ?_, iff_of_false nofun fun h => ?_⟩
    · cases hj
      exact ⟨hfree, hclosed, hlowest, hbefore⟩
    · exact h.2 i hfree hclosed
    · rw [h i] at hfree
      cases hfree
  | none =>
    have hbusy := openBankSlot_eq_none.mp hfound
    dsimp only
    cases hany : anySlot (fun s => s.content.isFree) d with
    | true =>
      obtain ⟨i, hi⟩ := anySlot_eq_true.mp hany
      refine ⟨nofun, iff_of_true rfl ⟨⟨i, hi⟩, hbusy⟩, iff_of_false nofun fun h => ?_⟩
      rw [h i] at hi
      cases hi
    | false =>
      have hnone : ∀ i : SlotNo, (d.slot i).content.isFree = false :=
        anySlot_eq_false (p := fun s => s.content.isFree) (by simp [hany])
      refine ⟨nofun, iff_of_false nofun fun ⟨⟨i, hi⟩, _⟩ => ?_, iff_of_true rfl hnone⟩
      rw [hnone i] at hi
      cases hi

/-! ## The DRAFT (R32) -/

theorem claimAct_opens {kind label extra : Byte} {c : RecordClass} {i : SlotNo} (hclass : RecordClass.ofClaim kind extra = some c)
    (hbus : ¬(c = .demand ∧ o.port = .bus))
    (hclash : ∀ j : SlotNo, clashes { cls := c, owner := o.who, label := label } (d.slot j) = false)
    (hpasses : d.mc.mode.noPasses = false) (hslot : allocate o.who d = .ok i) :
    (claimAct o kind label extra d).1 =
      openDraft { cls := c, owner := o.who, label := label } (if c = .load then min extra.toNat 3 else 0) i d := by
  have hnone : anySlot (clashes { cls := c, owner := o.who, label := label }) d = false :=
    Bool.eq_false_iff.mpr fun h => by
      obtain ⟨j, hj⟩ := anySlot_eq_true.mp h
      rw [hclash j] at hj
      cases hj
  have hbus' : (decide (c = .demand) && decide (o.port = .bus)) = false := by simpa using hbus
  simp only [claimAct, hclass, hbus', hnone, hpasses, hslot, Bool.false_eq_true, if_false]

/-- Settles O8: the allocation, then what the DRAFT is opened with. -/
theorem claimOpensDraft : Obligations.ClaimOpensDraft := by
  intro s o kind label extra c i hadmitted hrow hreq hclass hbus hclash hpasses hslot
  have htaken := takeRecord_of_admitted hadmitted hrow (by rw [hreq]; nofun)
  have hact : (RauRow.act .claim o (consume o s.dev)).1 = openDraft { cls := c, owner := o.who, label := label }
      (if c = .load then min extra.toNat 3 else 0) i (consume o s.dev) := by
    simp only [RauRow.act, hreq]
    exact claimAct_opens hclass hbus (by simpa using hclash) (by simpa using hpasses) (by simpa using hslot)
  refine ⟨takeRecord .claim (RauRow.act .claim) s.dev, exec_command .claim s, ?_, ?_, ?_, ⟨fun j hj => ⟨?_, ?_⟩, fun b hb => ?_⟩,
    takeRecord_keepsCore _ _⟩
  all_goals rw [htaken, hact]
  · simp
  · simp
  · simp
  · simp [openDraft_slot_other _ _ _ hj]
  · simp [openDraft_rtaOf_other _ _ _ hj]
  · simp [openDraft_buffer_other _ _ _ hb]

end Sys2Proof.Machine
end

section
/-! PROOFS. RENEW, RELEASE and PURGE: a record revived, and a record ended by its life state (R43, R44, R57 to R60). -/

namespace Sys2Proof.Machine

-- A default proof `by decide` waits for the kernel: side by side the proofs would ask for a thread each.
set_option Elab.async false

variable {d e : Device} {o : Offer} {named : SlotNo → Bool} {i : SlotNo}

/-! ## The handle checked once the frame is taken -/

@[simp] theorem checkHandle_consume (slot gen : Byte) (o : Offer) (d : Device) :
    checkHandle slot gen (consume o d) = checkHandle slot gen d := by
  simp only [checkHandle, consume_slot]

@[simp] theorem checkOwned_consume (who : Nat) (slot gen : Byte) (o : Offer) (d : Device) :
    checkOwned who slot gen (consume o d) = checkOwned who slot gen d := by
  simp only [checkOwned, checkHandle_consume, consume_slot]

/-! ## RENEW -/

/-- A RENEW writes the primary field alone, so the period and the tolerance stand. -/
theorem renewedImage_force (c : RecordClass) (img : Image) (v : Option Half) :
    (renewedImage c img v).period = img.period ∧ (renewedImage c img v).tolerance = img.tolerance := by
  cases v with
  | none => exact ⟨rfl, rfl⟩
  | some w => cases c <;> exact ⟨rfl, rfl⟩

theorem renewedValue_raised {c : RecordClass} {img : Image} {v f : Int} (hfloor : img.floor = some f) (hpos : 0 < v)
    (hbelow : v < f) : renewedValue c img v = f := by
  simp [renewedValue, hfloor, hpos, hbelow]

theorem renewedValue_clamped {c : RecordClass} {img : Image} {v : Int}
    (h : ∀ f : Int, img.floor = some f → ¬(0 < v ∧ v < f)) : renewedValue c img v = clampField c c.primary v := by
  unfold renewedValue
  split
  · next f hfloor => exact if_neg (by simpa using h f hfloor)
  · rfl

theorem renewAct_used {slot gen : Byte} {v : Option Half} {r : Record} (howned : checkOwned o.who slot gen d = .ok i)
    (hused : (d.slot i).content = .live r ∨ (d.slot i).content = .stale r) :
    (renewAct o slot gen v d).1 = renewRecord i r v d := by
  obtain h | h := hused <;> simp only [renewAct, howned, h]

/-- Settles O12: the record revived, then the value that is stored. -/
theorem renewRestartsAndRevives : Obligations.RenewRestartsAndRevives := by
  intro s o slot gen v i r hadmitted hrow hreq howned hused
  have htaken := takeRecord_of_admitted hadmitted rfl (by rw [hreq]; nofun)
  have hact : (o.row.act o (consume o s.dev)).1 = renewRecord i r v (consume o s.dev) := by
    have hrenew : (renewAct o slot gen v (consume o s.dev)).1 = renewRecord i r v (consume o s.dev) :=
      renewAct_used (by simpa using howned) (by simpa using hused)
    cases v <;> simp only [hrow, Option.isSome_some, Option.isSome_none, Bool.false_eq_true, if_true, if_false, RauRow.act, hreq] <;>
      exact hrenew
  obtain ⟨hperiod, htolerance⟩ := renewedImage_force r.ident.cls r.image v
  refine ⟨takeRecord o.row o.row.act s.dev, renewedImage r.ident.cls r.image v, exec_command o.row s, ?_, fun hv => ?_,
    fun w hw => ?_, ?_, fun b => ?_, ⟨fun j hj => ⟨?_, ?_⟩, fun b hb => ?_⟩, takeRecord_keepsCore _ _⟩
  case refine_2 => rw [hv]; rfl
  case refine_3 =>
    subst hw
    exact ⟨fun f hf hpos hbelow => by rw [renewedImage, renewedValue_raised hf hpos hbelow],
      fun h => by rw [renewedImage, renewedValue_clamped h]⟩
  all_goals rw [htaken, hact]
  · simp
  · simp [RenewalEntry.takeForce_eq, hperiod, htolerance]
  · simp
  · simp [renewRecord_slot_other _ _ _ hj]
  · simp [renewRecord_rtaOf_other _ _ _ hj]
  · simp

/-! ## Records ended by their life state (R43, R46, R47) -/

/-- What becomes of the content of a record that is ended. -/
def Content.ended (m : Mode) : Content → Content
  | .draft _ _ => .free
  | .live r | .stale r => if m.noPasses then .free else .retiring r false
  | c => c

theorem endRecords_slot_named (named : SlotNo → Bool) (d : Device) (i : SlotNo) : (endRecords named d).slot i =
    if named i then { d.slot i with content := (d.slot i).content.ended d.mc.mode } else d.slot i := by
  rw [endRecords_slot]
  cases hn : named i with
  | false => simp [endsFree, endsRetiring, hn]
  | true =>
    cases hpasses : d.mc.mode.noPasses <;> cases hc : (d.slot i).content <;>
      simp [endsFree, endsRetiring, hn, hpasses, hc, Content.isDraft, Content.isUsed, Content.ended, Content.retired] <;>
      exact (congrArg (Slot.mk (d.slot i).generation) hc.symm).symm

/-- A slot ended becomes FREE, or it enters RETIRING, and in both cases its content changes. -/
theorem endRecords_kept (h : (endRecords named d).slot i = d.slot i) :
    endsFree d named i = false ∧ endsRetiring d named i = false := by
  rw [endRecords_slot_named] at h
  cases hn : named i with
  | false => simp [endsFree, endsRetiring, hn]
  | true =>
    rw [hn, if_pos rfl] at h
    have hcontent : (d.slot i).content.ended d.mc.mode = (d.slot i).content := congrArg Slot.content h
    cases hc : (d.slot i).content <;> rw [hc] at hcontent <;>
      simp [endsFree, endsRetiring, hc, Content.isDraft, Content.isUsed, Content.ended] at hcontent ⊢ <;>
      split at hcontent <;> cases hcontent

theorem endRecords_rtaOf (named : SlotNo → Bool) (d : Device) (i : SlotNo) : (endRecords named d).rtaOf i =
    if endsRetiring d named i then { (freeSlots (endsFree d named) d).rtaOf i with timer := .stopped }
    else (freeSlots (endsFree d named) d).rtaOf i := by
  rw [endRecords, retireSlots_rtaOf]

theorem endRecords_buffer (named : SlotNo → Bool) (d : Device) (b : BankNo) : (endRecords named d).buffer b =
    (d.buffer b).filter fun e => !endsFree d named e.slot && !endsRetiring d named e.slot := by
  rw [endRecords, retireSlots_buffer, freeSlots_buffer, Option.filter_filter]

theorem endRecords_lastAward (named : SlotNo → Bool) (d : Device) (i : SlotNo) : (endRecords named d).vbp.lastAward[i] =
    if endsFree d named i then none else d.vbp.lastAward[i] := by
  simp [endRecords, freeSlots]

/-- A slot whose record is not ended keeps its renewal entry and its last sent award. -/
theorem endRecords_keeps (h : (endRecords named d).slot i = d.slot i) :
    (endRecords named d).rtaOf i = d.rtaOf i ∧ (endRecords named d).vbp.lastAward[i] = d.vbp.lastAward[i] := by
  obtain ⟨hfree, hretiring⟩ := endRecords_kept h
  rw [endRecords_rtaOf, endRecords_lastAward, freeSlots_rtaOf, hfree, hretiring]
  exact ⟨rfl, rfl⟩

theorem endRecords_buffer_kept {b : BankNo} (h : ∀ e ∈ d.buffer b, (endRecords named d).slot e.slot = d.slot e.slot) :
    (endRecords named d).buffer b = d.buffer b := by
  rw [endRecords_buffer]
  cases hb : d.buffer b with
  | none => rfl
  | some e =>
    obtain ⟨hfree, hretiring⟩ := endRecords_kept (h e hb)
    simp [hfree, hretiring]

/-- No edit stays open for a slot whose record is ended. -/
theorem endRecords_openFor (h : (endRecords named d).slot i ≠ d.slot i) : (endRecords named d).openFor i = none := by
  have hends : endsFree d named i = true ∨ endsRetiring d named i = true := by
    by_contra hnone
    rw [not_or, Bool.not_eq_true, Bool.not_eq_true] at hnone
    exact h (by rw [endRecords_slot, hnone.1, hnone.2]; rfl)
  rw [Device.openFor, endRecords_buffer, Option.filter_filter, Option.filter_eq_none_iff]
  intro e _ hopen
  obtain ⟨⟨hfree, hretiring⟩, rfl⟩ :
      (endsFree d named e.slot = false ∧ endsRetiring d named e.slot = false) ∧ e.slot = i := by simpa using hopen
  simp [hfree, hretiring] at hends

/-- A record that becomes FREE has its timer stopped, its lapse count 0 and no last sent award. -/
theorem endRecords_freed (hnamed : named i = true)
    (hends : (d.slot i).content.isDraft = true ∨ (d.slot i).content.isUsed = true ∧ d.mc.mode.noPasses = true) :
    (endRecords named d).rtaOf i = { d.rtaOf i with timer := .stopped, lapse := 0 } ∧
      (endRecords named d).vbp.lastAward[i] = none := by
  have hfree : endsFree d named i = true := by
    obtain h | ⟨h, h'⟩ := hends <;> simp [endsFree, *]
  rw [endRecords_rtaOf, endRecords_lastAward, freeSlots_rtaOf, hfree]
  exact ⟨by split <;> rfl, rfl⟩

/-- A record that enters RETIRING has its timer stopped with the lapse count held. -/
theorem endRecords_retired (hnamed : named i = true) (hused : (d.slot i).content.isUsed = true)
    (hpasses : d.mc.mode.noPasses = false) : (endRecords named d).rtaOf i = { d.rtaOf i with timer := .stopped } := by
  have hdraft : (d.slot i).content.isDraft = false := by
    cases hc : (d.slot i).content <;> simp_all [Content.isUsed, Content.isDraft]
  rw [endRecords_rtaOf, freeSlots_rtaOf]
  simp [endsFree, endsRetiring, hnamed, hused, hpasses, hdraft]

/-! ## RELEASE and PURGE -/

/-- Where every slot stands, so does the whole table. -/
theorem endRecords_sameTable (h : ∀ i, (endRecords named d).slot i = d.slot i) : SameTable d (endRecords named d) := by
  have hslots : (endRecords named d).tbl.slots = d.tbl.slots := Vector.ext fun k hk => h ⟨k, hk⟩
  have hbuffers : (endRecords named d).tbl.buffers = d.tbl.buffers :=
    Vector.ext fun k hk => endRecords_buffer_kept (b := ⟨k, hk⟩) fun e _ => h e.slot
  refine ⟨?_, Vector.ext fun k hk => (endRecords_keeps (h ⟨k, hk⟩)).1⟩
  cases hd : d.tbl
  cases hd' : (endRecords named d).tbl
  simp_all

theorem releaseAct_owned {slot gen : Byte} (h : checkOwned o.who slot gen d = .ok i) :
    (releaseAct o slot gen d).1 = endRecords (only i) d := by
  simp only [releaseAct, h]

theorem purgeAct_designated {slot gen : Byte} (hport : o.port = .link) (h : checkHandle slot gen d = .ok i) :
    (purgeAct o slot gen d).1 = endRecords (only i) d := by
  rw [purgeAct, if_neg (by rw [hport]; nofun), h]

@[simp] theorem only_self (i : SlotNo) : only i i = true := by simp [only]

theorem only_other {j : SlotNo} (h : j ≠ i) : only i j = false := by simpa [only] using h

/-- Settles O13: by the life state of the record. -/
theorem releaseAndPurgeEndRecord : Obligations.ReleaseAndPurgeEndRecord := by
  intro s o slot gen i hadmitted hrequest
  have hwhole : o.req ≠ .short := by
    obtain ⟨-, hreq, -⟩ | ⟨-, hreq, -⟩ := hrequest <;> rw [hreq] <;> nofun
  have hact : (o.row.act o (consume o s.dev)).1 = endRecords (only i) (consume o s.dev) := by
    obtain ⟨hrow, hreq, howned⟩ | ⟨hrow, hreq, hport, hhandle⟩ := hrequest <;> simp only [hrow, RauRow.act, hreq]
    · exact releaseAct_owned (by simpa using howned)
    · exact purgeAct_designated hport (by simpa using hhandle)
  obtain ⟨-, hgiven, -⟩ : slot.toNat = i.val ∧ (s.dev.slot i).content.isFree = false ∧ (s.dev.slot i).generation = gen := by
    obtain ⟨-, -, howned⟩ | ⟨-, -, -, hhandle⟩ := hrequest
    · exact checkHandle_ok (checkOwned_ok howned).1
    · exact checkHandle_ok hhandle
  have htaken := takeRecord_of_admitted hadmitted rfl hwhole
  have hslots (j : SlotNo) : (endRecords (only i) (consume o s.dev)).slot j =
      if only i j then { s.dev.slot j with content := (s.dev.slot j).content.ended s.dev.mc.mode } else s.dev.slot j := by
    rw [endRecords_slot_named, consume_slot, consume_mc]
  have hself : (endRecords (only i) (consume o s.dev)).slot i =
      { s.dev.slot i with content := (s.dev.slot i).content.ended s.dev.mc.mode } := by rw [hslots, only_self, if_pos rfl]
  have hother (j : SlotNo) (hj : j ≠ i) : (endRecords (only i) (consume o s.dev)).slot j = s.dev.slot j := by
    rw [hslots, only_other hj, if_neg Bool.false_ne_true]
  have haward (e : Device) (r : RauReply) : (answer o r e).vbp.lastAward = e.vbp.lastAward :=
    (answer_changes o r e).same .lastAward
  have hsent : (consume o s.dev).vbp.lastAward = s.dev.vbp.lastAward := (consume_changes o s.dev).same .lastAward
  refine ⟨takeRecord o.row o.row.act s.dev, (s.dev.slot i).content.ended s.dev.mc.mode, exec_command o.row s, ?_, fun hdraft => ?_,
    fun hused hpasses => ?_, fun r hr hpasses => ⟨?_, ?_⟩, fun hretiring => ?_, fun hfree => ?_, fun hchanged => ?_,
    fun j hj => ?_, fun b hb => ?_, takeRecord_keepsCore _ _⟩
  case refine_2 =>
    obtain ⟨x, t, h⟩ := Content.isDraft_iff.mp hdraft
    rw [h]
    rfl
  case refine_3 =>
    obtain ⟨r, h | h⟩ := Content.isUsed_iff.mp hused <;> rw [h] <;> exact if_pos hpasses
  case refine_4 =>
    obtain h | h := hr <;> rw [h] <;> exact if_neg (by rw [hpasses]; exact Bool.false_ne_true)
  all_goals rw [htaken, hact]
  · rw [answer_slot, hself]
  · have hused : ((consume o s.dev).slot i).content.isUsed = true := by
      rw [consume_slot]
      exact Content.isUsed_iff.mpr ⟨r, hr⟩
    rw [answer_rtaOf, endRecords_retired (only_self i) hused (by simpa using hpasses), consume_rtaOf]
  · have hended : (s.dev.slot i).content.ended s.dev.mc.mode = (s.dev.slot i).content := by
      cases hc : (s.dev.slot i).content <;> rw [hc] at hretiring <;> simp [Content.isRetiring] at hretiring
      rfl
    have hsame := endRecords_sameTable (named := only i) (d := consume o s.dev) fun j => by
      by_cases hj : j = i
      · rw [hj, hself, hended, consume_slot]
      · rw [hother j hj, consume_slot]
    exact ⟨hended, ((consume_sameTable o s.dev).trans (hsame.trans (answer_sameTable o _ _))).1,
      ((consume_sameTable o s.dev).trans (hsame.trans (answer_sameTable o _ _))).2⟩
  · have hends : ((consume o s.dev).slot i).content.isDraft = true ∨
        ((consume o s.dev).slot i).content.isUsed = true ∧ (consume o s.dev).mc.mode.noPasses = true := by
      rw [consume_slot, consume_mc]
      cases hc : (s.dev.slot i).content <;> rw [hc] at hgiven hfree <;>
        simp_all [Content.isFree, Content.isDraft, Content.isUsed, Content.ended]
    obtain ⟨hentry, hnone⟩ := endRecords_freed (only_self i) hends
    rw [answer_rtaOf, haward, hentry, hnone, consume_rtaOf]
    exact ⟨rfl, rfl⟩
  · have hopen := endRecords_openFor (named := only i) (d := consume o s.dev) (i := i) fun h => hchanged (by
      rw [hself, consume_slot] at h
      exact congrArg Slot.content h)
    rw [Device.openFor, answer_buffer]
    exact hopen
  · have hkept := endRecords_keeps (named := only i) (d := consume o s.dev) ((hother j hj).trans (consume_slot o _ j).symm)
    rw [answer_slot, hother j hj, answer_rtaOf, haward, hkept.1, hkept.2, consume_rtaOf, hsent]
    exact ⟨rfl, rfl, rfl⟩
  · have hkept := endRecords_buffer_kept (named := only i) (d := consume o s.dev) (b := b) fun e he =>
      (hother e.slot (hb e (consume_buffer o s.dev b ▸ he))).trans (consume_slot o _ _).symm
    rw [answer_buffer, hkept, consume_buffer]

end Sys2Proof.Machine
end

section
/-! PROOFS. LOOKUP and QUERY: requests that read the table and change nothing of it (R19 to R21). -/

namespace Sys2Proof.Machine

-- A default proof `by decide` waits for the kernel: side by side the proofs would ask for a thread each.
set_option Elab.async false

variable {d e : Device} {o : Offer} {i : SlotNo}

/-! ## The replies of requests that read -/

/-- A request that only reads leaves the records as they were, and its port carries its reply. -/
theorem takeRecord_reads {w : RauRow} (h : Admitted d o) (hrow : o.row = w) (hwhole : o.req ≠ .short) {r : RauReply}
    (hact : w.act o (consume o d) = (consume o d, r)) :
    (takeRecord w w.act d).tbl = d.tbl ∧ (takeRecord w w.act d).rta = d.rta ∧
      (o.port = .link → ∃ q, d.sl.requests.head? = some q ∧
        d.sl.repliedTo (takeRecord w w.act d).sl q r.result r.link d.now) ∧
      (o.port = .bus → (takeRecord w w.act d).vbp.tx.replies.getLast? =
        some { dest := .node o.who, body := .reply (busReplyData o r (consume o d)) }) := by
  have htaken := takeRecord_of_admitted h hrow hwhole
  rw [hact] at htaken
  rw [htaken]
  refine ⟨by simp, by simp, fun hport => ?_, fun hport => ?_⟩
  · obtain ⟨f, rest, hrest, hreplied, -⟩ := answer_link_replied h.1 hport (.refl _) r
    exact ⟨f, by rw [hrest]; rfl, hreplied⟩
  · obtain ⟨-, hvbp⟩ := answer_bus_replied h.1 hport (.refl _) r
    rw [hvbp]
    exact List.getLast?_concat

theorem row_parseCanWhole_eq_query {k : RauRow} {p : List Byte} (h : (parseCanWhole k p).row = .query) :
    k = .query ∨ k = .queryField := by
  cases k <;> simp only [parseCanWhole, RecordRequest.row] at h
  case query => exact .inl rfl
  case queryField => exact .inr rfl
  case amend | amendCommit | renew | renewWithValue => split at h <;> cases h
  all_goals cases h

theorem row_parseCanWhole_eq_lookup {k : RauRow} {p : List Byte} (h : (parseCanWhole k p).row = .lookup) : k = .lookup := by
  cases k <;> simp only [parseCanWhole, RecordRequest.row] at h
  case lookup => rfl
  case amend | amendCommit | renew | renewWithValue | query | queryField => split at h <;> cases h
  all_goals cases h

/-- The first byte of a CAN frame that names a kind. -/
theorem canKindRow_head {p : List Byte} :
    (canKindRow p = .query → p.head? = some 0x06) ∧ canKindRow p ≠ .queryField ∧ (canKindRow p = .lookup → p.head? = some 0x07) := by
  cases p with
  | nil => exact ⟨nofun, nofun, nofun⟩
  | cons k ks =>
    simp only [canKindRow, List.head?_cons]
    repeat' split
    all_goals simp_all

theorem canReplyKind_of_head {p : List Byte} {k : Byte} (h : p.head? = some k) (hk : k.toNat < 0x80) :
    canReplyKind p = some (k + 0x80) := by
  cases p with
  | nil => cases h
  | cons j js =>
    cases h
    exact if_pos hk

theorem busOffer_canKind (h : busOffer d = some o) :
    (o.row = .query → o.canKind = some 0x86) ∧ (o.row = .lookup → o.canKind = some 0x87) := by
  unfold busOffer at h
  split at h
  case isFalse => cases h
  obtain ⟨f, -, rfl⟩ := Option.map_eq_some_iff.mp h
  obtain ⟨hquery, hfield, hlookup⟩ := canKindRow_head (p := f.data)
  have hkind {w : RauRow} (hrow : canRow f.data = w) :
      canKindRow f.data = w ∨ (parseCanWhole (canKindRow f.data) f.data).row = w := by
    unfold canRow at hrow
    split at hrow
    · exact .inl hrow
    · exact .inr hrow
  refine ⟨fun hrow => canReplyKind_of_head (hquery ?_) (by decide), fun hrow => canReplyKind_of_head (hlookup ?_) (by decide)⟩
  · obtain h | h := hkind hrow
    · exact h
    · exact (row_parseCanWhole_eq_query h).resolve_right hfield
  · obtain h | h := hkind hrow
    · exact h
    · exact row_parseCanWhole_eq_lookup h

/-! ## LOOKUP -/

/-- A LOOKUP looks for this owner and label. -/
def Slot.answersTo (owner label : Byte) (s : Slot) : Bool :=
  s.content.ident?.any fun x => x.owner = owner.toNat && x.label = label

theorem Slot.answersTo_iff {owner label : Byte} {s : Slot} :
    s.answersTo owner label = true ↔ ∃ x, s.content.ident? = some x ∧ x.owner = owner.toNat ∧ x.label = label := by
  simp [answersTo, Option.any_eq_true]

/-- The reply to a LOOKUP that finds a record. -/
def foundReply (i : SlotNo) (d : Device) : RauReply :=
  { result := .ok, link := [natByte i.val, (d.slot i).generation, (d.slot i).content.lifeCode],
    handle := (natByte i.val, (d.slot i).generation), bus := [(d.slot i).content.lifeCode] }

/-- The reply to a LOOKUP. -/
def lookupReply (o : Offer) (owner label : Byte) (d : Device) : RauReply :=
  if 30 < owner.toNat then refusal o .badRequest d
  else
    match findSlot (fun _ s => s.answersTo owner label) d with
    | some i => foundReply i d
    | none => refusal o .noRecord d

theorem lookupAct_eq (o : Offer) (owner label : Byte) (d : Device) :
    lookupAct o owner label d = (d, lookupReply o owner label d) := by
  unfold lookupAct lookupReply
  split
  · rfl
  · change (match findSlot (fun _ s => s.answersTo owner label) d with
      | none => (d, refusal o .noRecord d)
      | some i => _) = _
    cases findSlot (fun _ s => s.answersTo owner label) d <;> rfl

/-- By uniqueness the record found is the one that has the owner and the label. -/
theorem lookupReply_of_answers {owner label : Byte} (hunique : UniqueSound d) (howner : ¬30 < owner.toNat)
    {x : Identity} (hx : (d.slot i).content.ident? = some x) (hmatch : x.owner = owner.toNat ∧ x.label = label) :
    lookupReply o owner label d = foundReply i d := by
  have hi : (d.slot i).answersTo owner label = true := Slot.answersTo_iff.mpr ⟨x, hx, hmatch⟩
  rw [lookupReply, if_neg howner]
  cases hfound : findSlot (fun _ s => s.answersTo owner label) d with
  | none => exact absurd (findSlot_eq_none hfound i) (by simp [hi])
  | some j =>
    obtain ⟨y, hy, hyowner, hylabel⟩ := Slot.answersTo_iff.mp (findSlot_some hfound)
    by_cases hj : i = j
    · rw [hj]
    · have hexcludes := hunique i j hj x hx y hy
      simp [Identity.excludes, hmatch, hyowner, hylabel] at hexcludes

theorem lookupReply_of_none {owner label : Byte} (howner : ¬30 < owner.toNat)
    (hnone : ∀ (i : SlotNo) (x : Identity), (d.slot i).content.ident? = some x → ¬(x.owner = owner.toNat ∧ x.label = label)) :
    lookupReply o owner label d = refusal o .noRecord d := by
  rw [lookupReply, if_neg howner]
  cases hfound : findSlot (fun _ s => s.answersTo owner label) d with
  | none => rfl
  | some j =>
    obtain ⟨y, hy, hmatch⟩ := Slot.answersTo_iff.mp (findSlot_some hfound)
    exact absurd hmatch (hnone j y hy)

/-- Settles O15: by what the search of the slots finds. -/
theorem lookupFindsRecord : Obligations.LookupFindsRecord := by
  intro s o owner label hadmitted hrow hreq hunique
  have hact : RauRow.act .lookup o (consume o s.dev) = (consume o s.dev, lookupReply o owner label (consume o s.dev)) := by
    simp only [RauRow.act, hreq, lookupAct_eq]
  have hunique' : UniqueSound (consume o s.dev) := hunique.congr (consume_sameTable o s.dev)
  obtain ⟨htbl, hrta, hlink, hbus⟩ := takeRecord_reads hadmitted hrow (by rw [hreq]; nofun) hact
  refine ⟨takeRecord .lookup (RauRow.act .lookup) s.dev, exec_command .lookup s, htbl, hrta, takeRecord_keepsCore _ _,
    fun hport => ?_, fun hport i x hx howner hknown hlabel => ?_⟩
  · obtain ⟨q, hq, hreplied⟩ := hlink hport
    refine ⟨q, _, _, hq, hreplied, fun h => ?_, fun h => ⟨fun i x hx howner hlabel => ?_, fun hnone => ?_⟩⟩
    · rw [lookupReply, if_pos h]
      exact (refusal_carries _ _ _).1
    · rw [lookupReply_of_answers (i := i) hunique' (Nat.not_lt.mpr h) (by simpa using hx) ⟨howner, hlabel⟩]
      simp [foundReply]
    · rw [lookupReply_of_none (Nat.not_lt.mpr h) (by simpa using hnone)]
      exact (refusal_carries _ _ _).1
  · obtain ⟨-, hkind⟩ := busOffer_canKind (rauOffer_of_bus hadmitted.1 hport)
    rw [hbus hport, lookupReply_of_answers (i := i) hunique' (Nat.not_lt.mpr hknown) (by simpa using hx) ⟨howner, hlabel⟩,
      busReplyData, hkind hrow]
    simp [foundReply, pad8, Result.code]

end Sys2Proof.Machine
end

section
/-! PROOFS. QUERY: what the reading of a slot, whole or of one field, carries on either port (R19, R20). -/

namespace Sys2Proof.Machine

-- A default proof `by decide` waits for the kernel: side by side the proofs would ask for a thread each.
set_option Elab.async false

variable {d e : Device} {o : Offer} {i : SlotNo}

/-! ## Reading between the frame taken and the reply placed -/

@[simp] theorem underEdit_consume (o : Offer) (d : Device) (i : SlotNo) : (consume o d).underEdit i = d.underEdit i := by
  simp only [Device.underEdit, Device.openFor, consume_buffer]

@[simp] theorem lapseOf_consume (o : Offer) (d : Device) (i : SlotNo) : (consume o d).lapseOf i = d.lapseOf i := by
  simp only [Device.lapseOf, consume_slot, consume_rtaOf]

theorem Content.ident?_of_record? {c : Content} {r : Record} (h : c.record? = some r) : c.ident? = some r.ident := by
  cases c <;> simp_all [record?, ident?]

theorem Content.isDraft_of_record? {c : Content} {r : Record} (h : c.record? = some r) : c.isDraft = false := by
  cases c <;> simp_all [record?, isDraft]

/-! ## The whole reading -/

/-- The first eight bytes of the whole reading of a record. -/
def readingHead (i : SlotNo) (x : Identity) (d : Device) : List Byte :=
  [(d.slot i).content.lifeCode, (d.slot i).generation, x.cls.kindCode, natByte x.owner, x.label,
   quantityOrTier (d.slot i) d, natByte (d.lapseOf i), flagByte (d.underEdit i)]

theorem length_readingHead (i : SlotNo) (x : Identity) (d : Device) : (readingHead i x d).length = 8 := rfl

theorem wholeReading_of_ident {x : Identity} (hx : (d.slot i).content.ident? = some x) :
    ∃ rest, wholeReading i d = readingHead i x d ++ rest := by
  rw [wholeReading, hx]
  exact ⟨_, rfl⟩

theorem wholeReading_take_two (i : SlotNo) (d : Device) :
    (wholeReading i d).take 2 = [(d.slot i).content.lifeCode, (d.slot i).generation] := by
  cases hx : (d.slot i).content.ident? with
  | none => rw [wholeReading, hx]; rfl
  | some x =>
    obtain ⟨rest, h⟩ := wholeReading_of_ident hx
    rw [h]
    rfl

/-- Past its head the reading of a committed record is its fields in field id order. -/
theorem wholeReading_drop_eight {r : Record} (hr : (d.slot i).content.record? = some r) :
    (wholeReading i d).drop 8 = valueBytes r.image.period ++ valueBytes r.image.tolerance ++
      r.ident.cls.fields.flatMap fun f => valueBytes (r.read (d.lapseOf i) f).2 := by
  have hwhole : wholeReading i d = readingHead i r.ident d ++
      (([.period, .tolerance] : List FieldId) ++ r.ident.cls.fields).flatMap fun f => valueBytes (r.read (d.lapseOf i) f).2 := by
    rw [wholeReading, Content.ident?_of_record? hr, hr]
    rfl
  rw [hwhole, List.drop_left' (length_readingHead i r.ident d), List.flatMap_append]
  rfl

theorem quantityOrTier_of_ident {x : Identity} (hx : (d.slot i).content.ident? = some x) :
    (∀ b, x.cls = .bound b → quantityOrTier (d.slot i) d = b.code) ∧
      (∀ m, x.cls = .measure m → quantityOrTier (d.slot i) d = m.code) ∧
      ∀ y t, (d.slot i).content = .draft y t → x.cls = .load → quantityOrTier (d.slot i) d = natByte t := by
  refine ⟨fun b hb => ?_, fun m hm => ?_, fun y t hdraft hload => ?_⟩
  · simp only [quantityOrTier, hx, hb]
  · simp only [quantityOrTier, hx, hm]
  · rw [hdraft] at hx
    cases hx
    simp only [quantityOrTier, hdraft, Content.ident?, hload]

theorem Image.HasKind.cls_of_body {c : RecordClass} {img : Image} (h : img.HasKind c) :
    (∀ v, img.body = .demand v → c = .demand) ∧ (∀ l, img.body = .load l → c = .load) ∧
      (∀ v f, img.body = .bound v f → ∃ q, c = .bound q) ∧ ∀ v, img.body = .measure v → ∃ q, c = .measure q := by
  obtain ⟨rfl, p, hb⟩ | ⟨rfl, l, hb⟩ | ⟨q, rfl, v, f, hb⟩ | ⟨q, rfl, v, hb⟩ := Image.hasKind_cases h <;> simp [hb]

theorem toList_places (p : Vector Power 6) : p.toList = [p[0], p[1], p[2], p[3], p[4], p[5]] := by
  have hlist : p.toList = (List.finRange 6).map fun n => p[n] := by
    apply List.ext_getElem <;> simp
  exact hlist

/-- The fields of a sound record as its whole reading carries them, by kind. -/
theorem fields_flatMap_read {r : Record} (hsound : r.Sound) (lapse : Nat) :
    (∀ v, r.image.body = .demand v →
      (r.ident.cls.fields.flatMap fun f => valueBytes (r.read lapse f).2) = valueBytes v) ∧
    (∀ v f, r.image.body = .bound (some v) f →
      (r.ident.cls.fields.flatMap fun f => valueBytes (r.read lapse f).2) = valueBytes v ++ valueBytes (f.getD (-32768))) ∧
    (∀ v, r.image.body = .measure (some v) →
      (r.ident.cls.fields.flatMap fun f => valueBytes (r.read lapse f).2) = valueBytes v) ∧
    ∀ l q a, r.image.body = .load l → l.request = some q → r.answer = some a →
      (r.ident.cls.fields.flatMap fun f => valueBytes (r.read lapse f).2) =
        valueBytes q ++ valueBytes (l.floor.getD (-32768)) ++ valueBytes l.tier ++
          valueBytes (if l.parkCapable then 1 else 0) ++ valueBytes l.steps.count ++
          l.steps.places.toList.flatMap valueBytes ++ valueBytes a.grant ++ valueBytes a.reason.code.toNat := by
  obtain ⟨hdemand, hload, hbound, hmeasure⟩ := (Image.hasKind_of_inRange hsound.1).cls_of_body
  refine ⟨fun v hv => ?_, fun v f hv => ?_, fun v hv => ?_, fun l q a hl hq ha => ?_⟩
  · simp [hdemand v hv, RecordClass.fields, Record.read, Image.primary, hv, optionalValue]
  · obtain ⟨b, hb⟩ := hbound _ _ hv
    simp [hb, RecordClass.fields, Record.read, Image.primary, hv, optionalValue]
  · obtain ⟨m, hm⟩ := hmeasure _ hv
    simp [hm, RecordClass.fields, Record.read, Image.primary, hv, optionalValue]
  · simp [hload l hl, RecordClass.fields, Record.read, Image.primary, Image.floor, hl, hq, ha, optionalValue, toList_places]

/-! ## The statement -/

/-- The reply to a QUERY without a field id. -/
def wholeReply (slot : Byte) (i : SlotNo) (d : Device) : RauReply :=
  { result := .ok, link := wholeReading i d, handle := (slot, (d.slot i).generation), bus := canReading i d }

theorem queryAct_eq {slot : Byte} (hslot : slot.toNat = i.val) (o : Offer) (d : Device) :
    queryAct o slot d = (d, wholeReply slot i d) := by
  obtain ⟨n, hn⟩ := i
  subst hslot
  rw [queryAct, dif_pos hn]
  rfl

/-- The reply to a QUERY of a field that the record has. -/
def fieldReply (slot : Byte) (i : SlotNo) (r : Record) (f : FieldId) (d : Device) : RauReply :=
  { result := .ok,
    link := [(d.slot i).content.lifeCode, (d.slot i).generation, flagByte (d.underEdit i),
      flagByte (r.read (d.lapseOf i) f).1, stepCountOf r d] ++ valueBytes (r.read (d.lapseOf i) f).2,
    handle := (slot, (d.slot i).generation),
    bus := [readingByte i d, flagByte (r.read (d.lapseOf i) f).1 ||| (stepCountOf r d <<< 4)] ++
      valueBytes (r.read (d.lapseOf i) f).2 }

theorem queryFieldAct_eq {slot fb : Byte} {r : Record} {f : FieldId} (hslot : slot.toNat = i.val)
    (hf : FieldId.ofByte fb = some f) (hr : (d.slot i).content.record? = some r) (hclass : f.ofClass r.ident.cls = true)
    (o : Offer) : queryFieldAct o slot fb d = (d, fieldReply slot i r f d) := by
  obtain ⟨n, hn⟩ := i
  subst hslot
  simp only [queryFieldAct, dif_pos hn, hf, hr, hclass, if_true]
  rfl

theorem canReading_of_ident {x : Identity} (hx : (d.slot i).content.ident? = some x) : ∃ b7, canReading i d =
    [(d.slot i).content.lifeCode ||| bit (d.underEdit i) 3 ||| (x.cls.kindCode <<< 4), natByte x.owner, x.label, b7] := by
  simp only [canReading, readingByte, hx]
  exact ⟨_, rfl⟩

/-- Settles O14: the reply read part by part, no act beside it. -/
theorem queryReadsWithoutChange : Obligations.QueryReadsWithoutChange := by
  intro s o slot i hadmitted hslot
  refine ⟨fun fb hrow hreq => ?_, fun hrow hreq => ?_⟩
  · have hdev : (RauRow.act .queryField o (consume o s.dev)).1 = consume o s.dev := by
      simp only [RauRow.act, hreq, queryFieldAct_dev]
    obtain ⟨htbl, hrta, -, -⟩ := takeRecord_reads hadmitted hrow (by rw [hreq]; nofun) (Prod.ext hdev rfl)
    refine ⟨takeRecord .queryField (RauRow.act .queryField) s.dev, exec_command .queryField s, htbl, hrta,
      takeRecord_keepsCore _ _, fun f r hf hr hclass hport => ?_⟩
    have hact : RauRow.act .queryField o (consume o s.dev) = (consume o s.dev, fieldReply slot i r f (consume o s.dev)) := by
      simp only [RauRow.act, hreq]
      exact queryFieldAct_eq hslot hf (by simpa using hr) hclass o
    obtain ⟨-, -, hlink, -⟩ := takeRecord_reads hadmitted hrow (by rw [hreq]; nofun) hact
    obtain ⟨q, hq, hreplied⟩ := hlink hport
    have hlapse : s.dev.lapseOf i = (s.dev.rtaOf i).lapse := by
      rw [Device.lapseOf, Content.isDraft_of_record? hr]
      rfl
    refine ⟨q, stepCountOf r (consume o s.dev), hq, ?_, fun l hl => by simp only [stepCountOf, hl]⟩
    simpa only [fieldReply, consume_slot, underEdit_consume, lapseOf_consume, hlapse] using hreplied
  · have hact : RauRow.act .query o (consume o s.dev) = (consume o s.dev, wholeReply slot i (consume o s.dev)) := by
      simp only [RauRow.act, hreq]
      exact queryAct_eq hslot o _
    obtain ⟨htbl, hrta, hlink, hbus⟩ := takeRecord_reads hadmitted hrow (by rw [hreq]; nofun) hact
    refine ⟨takeRecord .query (RauRow.act .query) s.dev, exec_command .query s, htbl, hrta, takeRecord_keepsCore _ _,
      fun hport => ?_, fun hport x hx => ?_⟩
    · obtain ⟨q, hq, hreplied⟩ := hlink hport
      refine ⟨q, wholeReading i (consume o s.dev), hq, hreplied, ?_, fun x hx => ?_, fun r hr hsound => ?_⟩
      · rw [wholeReading_take_two, consume_slot]
      · have hx' : ((consume o s.dev).slot i).content.ident? = some x := by simpa using hx
        obtain ⟨rest, hwhole⟩ := wholeReading_of_ident hx'
        obtain ⟨hqt, hqt', hqt''⟩ := quantityOrTier_of_ident hx'
        refine ⟨quantityOrTier ((consume o s.dev).slot i) (consume o s.dev), ?_, hqt, hqt', fun y t h => hqt'' y t (by simpa using h)⟩
        rw [hwhole, List.take_left' (length_readingHead i x _)]
        simp [readingHead, Device.lapseOf]
      · rw [wholeReading_drop_eight (by simpa using hr)]
        obtain ⟨hdemand, hbound, hmeasure, hload⟩ := fields_flatMap_read hsound ((consume o s.dev).lapseOf i)
        refine ⟨fun v hv => by rw [hdemand v hv], fun v f hv => by rw [hbound v f hv, ← List.append_assoc],
          fun v hv => by rw [hmeasure v hv], fun l p a hl hp ha => by rw [hload l p a hl hp ha]; simp⟩
    · obtain ⟨b7, hreading⟩ := canReading_of_ident (d := consume o s.dev) (i := i) (by simpa using hx)
      obtain ⟨hkind, -⟩ := busOffer_canKind (rauOffer_of_bus hadmitted.1 hport)
      refine ⟨b7, ?_⟩
      rw [hbus hport, busReplyData, hkind hrow]
      simp [wholeReply, hreading, pad8, Result.code]

end Sys2Proof.Machine
end

section
/-! PROOFS. AMEND and COMMIT: the writes of an edit, and the edit ended by a resulting image that passes every check or kept open
(R33 to R39). -/

namespace Sys2Proof.Machine

-- A default proof `by decide` waits for the kernel: side by side the proofs would ask for a thread each.
set_option Elab.async false

variable {d e : Device} {o : Offer} {i : SlotNo}

/-! ## The Edit Buffer that an AMEND writes into (R33) -/

@[simp] theorem openFor_consume (o : Offer) (d : Device) (i : SlotNo) : (consume o d).openFor i = d.openFor i := by
  simp only [Device.openFor, consume_buffer]

@[simp] theorem amendBuffer_consume (o : Offer) (d : Device) (i : SlotNo) : amendBuffer i (consume o d) = amendBuffer i d := by
  simp only [amendBuffer, consume_slot, openFor_consume, consume_buffer]

theorem amendBuffer_of_draft {b : EditBuffer} (hdraft : (d.slot i).content.isDraft = true) (hopen : d.openFor i = some b) :
    amendBuffer i d = .ok b := by
  obtain ⟨x, t, h⟩ := Content.isDraft_iff.mp hdraft
  simp only [amendBuffer, h, hopen]

/-- An edit of a committed record goes on in the buffer open for it, opens a closed one, or finds the bank busy. -/
theorem amendBuffer_of_used {r : Record} (hused : (d.slot i).content = .live r ∨ (d.slot i).content = .stale r) :
    amendBuffer i d =
      match d.buffer (bankOf i) with
      | none => .ok { slot := i, image := r.image, marks := .clear, timer := 100 }
      | some b => if b.slot = i then .ok b else .error .bankBusy := by
  obtain h | h := hused <;> simp only [amendBuffer, h] <;> rfl

theorem amendBuffer_of_retiring (h : (d.slot i).content.isRetiring = true) : amendBuffer i d = .error .badState := by
  cases hc : (d.slot i).content with
  | retiring r k => simp only [amendBuffer, hc]
  | _ =>
    rw [hc] at h
    cases h

/-! ## The writes (R34) -/

theorem FieldWrite.malformed_of_not_refusedFor {c : RecordClass} {w : FieldWrite} (h : w.refusedFor c = false) :
    w.malformed = false := by
  obtain ⟨f, hf, hwritable, -, -⟩ := of_not_refusedFor h
  simp only [malformed, hf, hwritable]

/-- The Edit Buffer with the writes of an AMEND applied and its timer restarted. -/
def EditBuffer.written (c : RecordClass) (ws : List FieldWrite) (b : EditBuffer) : EditBuffer :=
  { b with
    image := (applyWrites c ws b.image b.marks).1, marks := (applyWrites c ws b.image b.marks).2.1, timer := 100 }

/-- The AMEND of an owner whose writes are all acceptable goes by the Edit Buffer. -/
theorem amendCore_of_owned {slot gen : Byte} {ws : List FieldWrite} {x : Identity} (howned : checkOwned o.who slot gen d = .ok i)
    (hx : (d.slot i).content.ident? = some x) (hne : ws ≠ []) (hws : ∀ w ∈ ws, w.refusedFor x.cls = false) :
    (∀ b, amendBuffer i d = .ok b → amendCore o slot gen ws d =
      .taken i (d.setBuffer (bankOf i) (some (b.written x.cls ws))) (applyWrites x.cls ws b.image b.marks).2.2) ∧
    ∀ c, amendBuffer i d = .error c → amendCore o slot gen ws d = .refused (refusal o c d) := by
  obtain ⟨hhandle, howner⟩ := checkOwned_ok howned
  obtain ⟨hslot, -, -⟩ := checkHandle_ok hhandle
  have hwho : x.owner = o.who := by simpa [Content.owner?, hx] using howner
  have hform : (decide (48 ≤ slot.toNat) || ws.isEmpty || ws.any (·.malformed)) = false := by
    have hbelow := i.isLt
    simp only [Bool.or_eq_false_iff, decide_eq_false_iff_not, List.isEmpty_eq_false_iff, List.any_eq_false, Bool.not_eq_true]
    exact ⟨⟨by omega, hne⟩, fun w hw => FieldWrite.malformed_of_not_refusedFor (hws w hw)⟩
  have haccepted : ws.any (·.refusedFor x.cls) = false := by simpa using hws
  refine ⟨fun b hb => ?_, fun c hc => ?_⟩
  · simp only [amendCore, hform, hhandle, hx, haccepted, hwho, hb, Bool.false_eq_true, if_false, ne_eq, not_true_eq_false]
    rfl
  · simp only [amendCore, hform, hhandle, hx, haccepted, hwho, hc, Bool.false_eq_true, if_false, ne_eq, not_true_eq_false]

theorem Marks.clear_has (f : FieldId) : Marks.clear.has f = false := by
  cases f <;> rfl

/-- The mark of a written field is set, and with it those that share it. -/
theorem Marks.mark_has {f : FieldId} (hwritable : f.readOnly = false) (m : Marks) (g : FieldId) :
    (m.mark f).has g = (m.has g || g.sharesMark f) := by
  cases f <;> cases g <;> simp_all [mark, has, FieldId.sharesMark, clear, FieldId.readOnly]

/-- One acceptable write: what it makes of the image, the marks, and what its reply tells. -/
theorem applyWrite_turns {c : RecordClass} {w : FieldWrite} {f : FieldId} {img : Image} {m : Marks}
    (hf : FieldId.ofByte w.id = some f) (hw : w.refusedFor c = false) (hin : img.InRange c) :
    w.Turns c f img (applyWrite c img m w).1 ∧ (applyWrite c img m w).2.1 = m.mark f ∧ f.readOnly = false ∧
      (applyWrite c img m w).2.2 =
        decide (¬(w.value = 0x8000 ∧ f ≠ .demand) ∧ ¬within (f.range c).1 (f.range c).2 w.value.toInt) := by
  obtain ⟨f', hf', hwritable, hclass, hopt⟩ := FieldWrite.of_not_refusedFor hw
  obtain rfl : f = f' := Option.some.inj (hf.symm.trans hf')
  have hkind := Image.hasKind_of_inRange hin
  cases hm : isMarker f w.value with
  | true =>
    obtain ⟨hvalue, hnot⟩ := isMarker_iff.mp hm
    rw [applyWrite_marker hf hm]
    refine ⟨⟨fun _ _ => Image.fieldOf_write_none hkind hclass (hopt hm), fun h => absurd ⟨hvalue, hnot⟩ h,
      fun g hg => Image.fieldOf_write_other img none hg⟩, rfl, hwritable, ?_⟩
    exact (decide_eq_false fun h => h.1 ⟨hvalue, hnot⟩).symm
  | false =>
    have hvalue : ¬(w.value = 0x8000 ∧ f ≠ .demand) := fun h => by rw [isMarker_iff.mpr h] at hm; cases hm
    rw [applyWrite_value hf hm]
    refine ⟨⟨fun h h' => absurd ⟨h, h'⟩ hvalue, fun _ => ⟨clampField c f w.value.toInt,
      Image.fieldOf_write_some hkind hclass hwritable (clampField_within c f _), clamp_brought _ _ _ (f.range_le c)⟩,
      fun g hg => Image.fieldOf_write_other img _ hg⟩, rfl, hwritable, ?_⟩
    refine decide_eq_decide.mpr ⟨fun h => ⟨hvalue, fun hwithin => h ((clamp_eq_self_iff _ _ _).mpr hwithin)⟩, fun h heq => ?_⟩
    exact h.2 ((clamp_eq_self_iff _ _ _).mp heq)

theorem applyWrites_singleton (c : RecordClass) (w : FieldWrite) (img : Image) (m : Marks) :
    applyWrites c [w] img m = ((applyWrite c img m w).1, (applyWrite c img m w).2.1, [(applyWrite c img m w).2.2]) := rfl

/-! ## The statement on AMEND -/

theorem amendReply_result (slot gen : Byte) (ks : List Bool) :
    (amendReply slot gen ks).result = if true ∈ ks then .clamped else .ok := by
  have hany : ks.any id = decide (true ∈ ks) := by
    rw [Bool.eq_iff_iff]
    simp
  simp [amendReply, hany]

/-- Settles O10: by life state and buffer, then write by write. -/
theorem amendWritesIntoEditBuffer : Obligations.AmendWritesIntoEditBuffer := by
  refine ⟨fun s o slot gen ws i x hadmitted hrow hreq howned hx hne hws => ?_, fun d i r b => ⟨amendBuffer_of_draft, fun hused => ?_,
    amendBuffer_of_retiring⟩, Marks.clear_has, fun c w f img m hf hw hin one hone => ?_, applyWrites_nil, rfl, rfl,
    fun q => ⟨rfl, rfl⟩, rfl, rfl, rfl, rfl, rfl⟩
  · have htaken := takeRecord_of_admitted hadmitted hrow (by rw [hreq]; nofun)
    have hact : RauRow.act .amend o (consume o s.dev) = amendAct o slot gen ws (consume o s.dev) := by
      simp only [RauRow.act, hreq]
    obtain ⟨hok, herror⟩ := amendCore_of_owned (o := o) (d := consume o s.dev) (by simpa using howned) (by simpa using hx) hne hws
    rw [amendBuffer_consume] at hok herror
    have hport (hport : o.port = .link) : ∃ q, s.dev.sl.requests.head? = some q ∧
        s.dev.sl.repliedTo (takeRecord .amend (RauRow.act .amend) s.dev).sl q (amendAct o slot gen ws (consume o s.dev)).2.result
          (amendAct o slot gen ws (consume o s.dev)).2.link s.dev.now := by
      obtain ⟨f, rest, hrest, hreplied, -⟩ := answer_link_replied hadmitted.1 hport
        (RauRow.act_changesRecordsOnly .amend o (consume o s.dev)) (RauRow.act .amend o (consume o s.dev)).2
      rw [← htaken, hact] at hreplied
      exact ⟨f, by rw [hrest]; rfl, hreplied⟩
    refine ⟨takeRecord .amend (RauRow.act .amend) s.dev, exec_command .amend s, takeRecord_keepsCore _ _, fun j => ?_,
      fun b r hb hr => ?_, fun c hc => ?_⟩
    · rw [htaken, hact]
      cases hbuffer : amendBuffer i s.dev with
      | ok b => simp [amendAct, hok b hbuffer]
      | error c => simp [amendAct, herror c hbuffer]
    · subst hr
      have hdone : amendAct o slot gen ws (consume o s.dev) =
          ((consume o s.dev).setBuffer (bankOf i) (some (b.written x.cls ws)),
            amendReply slot gen (applyWrites x.cls ws b.image b.marks).2.2) := by
        simp only [amendAct, hok b hb]
      refine ⟨?_, ⟨fun j _ => ?_, fun c hc => ?_⟩, fun h => ?_⟩
      · rw [htaken, hact, hdone]
        simp [EditBuffer.written]
      · rw [htaken, hact, hdone]
        simp
      · rw [htaken, hact, hdone]
        simp [Device.buffer_setBuffer_other _ _ hc]
      · obtain ⟨q, hq, hreplied⟩ := hport h
        rw [hdone, amendReply_result] at hreplied
        exact ⟨q, hq, hreplied⟩
    · have hrefused : amendAct o slot gen ws (consume o s.dev) = (consume o s.dev, refusal o c (consume o s.dev)) := by
        simp only [amendAct, herror c hc]
      refine ⟨by rw [htaken, hact, hrefused]; simp, fun h => ?_⟩
      obtain ⟨q, hq, hreplied⟩ := hport h
      rw [hrefused, (refusal_carries o c _).1] at hreplied
      exact ⟨q, _, hq, hreplied⟩
  · rw [amendBuffer_of_used hused]
    refine ⟨fun hnone => by rw [hnone], fun hb hslot => ?_, fun hb hslot => ?_⟩ <;> rw [hb]
    · exact if_pos hslot
    · exact if_neg hslot
  · subst hone
    obtain ⟨hturns, hmarks, hwritable, hclamped⟩ := applyWrite_turns (m := m) hf hw hin
    refine ⟨applyWrite_inRange hin m hw, hturns, fun g => ?_, ?_, fun ws rest hrest => ?_⟩
    · rw [applyWrites_singleton, hmarks, Marks.mark_has hwritable]
    · rw [applyWrites_singleton, hclamped]
    · subst hrest
      rfl

/-! ## The checks of a resulting image (R36) -/

theorem ascending_iff (l : List Int) : ascending l = true ↔ l.Pairwise (· < ·) := by
  rw [← List.isChain_iff_pairwise]
  induction l with
  | nil => simp [ascending]
  | cons a l ih =>
    cases l with
    | nil => simp [ascending]
    | cons b l => simp [ascending, ih]

/-- The checks of a LOAD with a request, in their order. -/
theorem loadFailing_of_request {l : LoadFields} {q : Int} (hq : l.request = some q) :
    ((∃ f ∈ l.floor, 0 < q ∧ q < f) → loadFailing l = some .floor) ∧
      ((¬∃ f ∈ l.floor, 0 < q ∧ q < f) →
        (¬l.steps.listed.Pairwise (· < ·) → loadFailing l = some .stepCount) ∧
        (l.steps.listed.Pairwise (· < ·) →
          ((l.steps.listed ≠ [] ∧ ∃ f ∈ l.floor, f ∉ l.steps.listed) → loadFailing l = some .floor) ∧
          (¬(l.steps.listed ≠ [] ∧ ∃ f ∈ l.floor, f ∉ l.steps.listed) → loadFailing l = none))) := by
  have hbelow : (l.floor.any fun f => 0 < q && q < f) = true ↔ ∃ f ∈ l.floor, 0 < q ∧ q < f := by
    simp [Option.any_eq_true]
  have hlist : (decide (l.steps.listed ≠ []) && l.floor.any fun f => decide (f ∉ l.steps.listed)) = true ↔
      l.steps.listed ≠ [] ∧ ∃ f ∈ l.floor, f ∉ l.steps.listed := by
    simp [Option.any_eq_true]
  simp only [← hbelow, ← hlist, ← ascending_iff, loadFailing, hq]
  refine ⟨fun h => by rw [if_pos h], fun h => ⟨fun h' => by rw [if_neg h, if_pos (by simpa using h')], fun h' => ?_⟩⟩
  rw [if_neg h, if_neg (by simp [h'])]
  exact ⟨fun h'' => by rw [if_pos h''], fun h'' => by rw [if_neg h'']⟩

/-- The first failing check of an image names the field of the first failure. -/
theorem firstFailing_firstOf (owner : Nat) (img : Image) : FirstOf (img.failures owner) (firstFailing owner img) := by
  obtain ⟨period, tolerance, body⟩ := img
  have hlast : FirstOf [(owner ≠ 0 ∧ period = 0, FieldId.period)]
      (if owner ≠ 0 && period = 0 then some FieldId.period else none) := by
    simp only [FirstOf, ne_eq, Bool.and_eq_true, decide_eq_true_eq]
    exact ⟨fun h => if_pos (by simpa using h), fun h => if_neg (by simpa using h)⟩
  cases body with
  | demand p => simp [Image.failures, FirstOf, firstFailing, Image.fieldOf, Image.steps]
  | bound v f => cases v <;> simp [Image.failures, FirstOf, firstFailing, Image.fieldOf, Image.steps]
  | measure v => cases v <;> simp [Image.failures, FirstOf, firstFailing, Image.fieldOf, Image.steps]
  | load l =>
    cases hrequest : l.request with
    | none => simp [Image.failures, FirstOf, firstFailing, loadFailing, hrequest]
    | some q =>
      obtain ⟨hbelow, hrest⟩ := loadFailing_of_request hrequest
      have hrequest' : ¬∃ l', Body.load l = .load l' ∧ l'.request = none := by simp [hrequest]
      have hfloor : (∃ q' ∈ some q, ∃ f ∈ l.floor, 0 < q' ∧ q' < f) ↔ ∃ f ∈ l.floor, 0 < q ∧ q < f := by simp
      simp only [Image.failures, FirstOf, firstFailing, Image.fieldOf, Image.steps, hrequest', hrequest, hfloor, not_false_eq_true,
        reduceCtorEq, exists_false, false_implies, true_implies, true_and]
      refine ⟨fun h => by rw [hbelow h]; rfl, fun h => ⟨fun h' => by rw [(hrest h).1 h']; rfl, fun h' => ?_⟩⟩
      obtain ⟨hlisted, hnone⟩ := (hrest h).2 (not_not.mp h')
      exact ⟨fun h'' => by rw [hlisted h'']; rfl, fun h'' => by rw [hnone h'']; exact hlast⟩

/-! ## A COMMIT ends the edit or keeps it (R37 to R39) -/

/-- The device that a COMMIT of the edit `b` leaves: the record committed, or the edit kept with its timer restarted. -/
def committed (owner : Nat) (i : SlotNo) (b : EditBuffer) (d : Device) : Device :=
  match firstFailing owner (resultingImage (d.slot i).content b) with
  | some _ => d.setBuffer (bankOf i) (some { b with timer := 100 })
  | none => commitImage i (resultingImage (d.slot i).content b) d

/-- The device of what a COMMIT comes to. -/
def CommitOutcome.dev (d : Device) : CommitOutcome → Device
  | .refused _ => d
  | .badFields _ d' | .done d' => d'

theorem commitCore_of_open {b : EditBuffer} (owner : Nat) (hnot : (d.slot i).content.isRetiring = false)
    (hopen : d.openFor i = some b) :
    (∀ c, commitCore owner i d ≠ .refused c) ∧ ∀ d₀, (commitCore owner i d).dev d₀ = committed owner i b d := by
  simp only [commitCore, hnot, hopen, Bool.false_eq_true, if_false, committed]
  cases firstFailing owner (resultingImage (d.slot i).content b) <;> exact ⟨nofun, fun _ => rfl⟩

theorem commitAct_of_open {slot gen : Byte} {b : EditBuffer} (howned : checkOwned o.who slot gen d = .ok i)
    (hnot : (d.slot i).content.isRetiring = false) (hopen : d.openFor i = some b) :
    (commitAct o slot gen d).1 = committed o.who i b d := by
  obtain ⟨-, hdev⟩ := commitCore_of_open o.who hnot hopen
  rw [← hdev d]
  simp only [commitAct, howned]
  cases commitCore o.who i d <;> rfl

theorem amendCommitAct_of_taken {slot gen : Byte} {ws : List FieldWrite} {b : EditBuffer} {ks : List Bool}
    (htaken : amendCore o slot gen ws d = .taken i e ks) (hnot : (e.slot i).content.isRetiring = false)
    (hopen : e.openFor i = some b) : (amendCommitAct o slot gen ws d).1 = committed o.who i b e := by
  obtain ⟨-, hdev⟩ := commitCore_of_open o.who hnot hopen
  rw [← hdev e]
  simp only [amendCommitAct, htaken]
  cases commitCore o.who i e <;> rfl

/-- What a COMMIT leaves, where the device before it has the records of `d` and the edit `b` open for the slot. -/
theorem committed_outcome {b : EditBuffer} (owner : Nat) (hslot : ∀ j, e.slot j = d.slot j) (hrta : ∀ j, e.rtaOf j = d.rtaOf j)
    (hbuffer : ∀ c ≠ bankOf i, e.buffer c = d.buffer c) :
    d.keepsOtherRecords (committed owner i b e) i ∧
      (firstFailing owner (resultingImage (d.slot i).content b) = none →
        (committed owner i b e).slot i =
            { d.slot i with content := (d.slot i).content.committedAs (resultingImage (d.slot i).content b) } ∧
          (committed owner i b e).buffer (bankOf i) = none ∧
          (committed owner i b e).rtaOf i =
            (d.rtaOf i).committedAs (resultingImage (d.slot i).content b) (d.slot i).content.isDraft) ∧
      ∀ f, firstFailing owner (resultingImage (d.slot i).content b) = some f →
        (committed owner i b e).slot i = d.slot i ∧
          (committed owner i b e).buffer (bankOf i) = some { b with timer := 100 } ∧
          (committed owner i b e).rtaOf i = d.rtaOf i := by
  cases hchecks : firstFailing owner (resultingImage (d.slot i).content b) with
  | none =>
    have heq : committed owner i b e = commitImage i (resultingImage (d.slot i).content b) e := by
      rw [committed, hslot, hchecks]
    rw [heq]
    refine ⟨⟨fun j hj => ⟨?_, ?_⟩, fun c hc => ?_⟩, fun _ => ⟨?_, commitImage_buffer_same _ _ _, ?_⟩, nofun⟩
    · rw [commitImage_slot_other _ _ hj, hslot]
    · rw [commitImage_rtaOf_other _ _ hj, hrta]
    · rw [commitImage_buffer_other _ _ hc, hbuffer c hc]
    · rw [commitImage_slot_same, hslot]
    · rw [commitImage_rtaOf_same, hslot, hrta]
  | some f =>
    have heq : committed owner i b e = e.setBuffer (bankOf i) (some { b with timer := 100 }) := by
      rw [committed, hslot, hchecks]
    rw [heq]
    refine ⟨⟨fun j _ => ⟨hslot j, hrta j⟩, fun c hc => ?_⟩, nofun, fun _ _ => ⟨hslot i, ?_, hrta i⟩⟩
    · rw [Device.buffer_setBuffer_other _ _ hc, hbuffer c hc]
    · rw [Device.buffer_setBuffer_same]

theorem openFor_setBuffer {b : EditBuffer} (h : b.slot = i) (d : Device) :
    (d.setBuffer (bankOf i) (some b)).openFor i = some b := by
  simp [Device.openFor, h]

/-- Settles O11: by the first check that fails. -/
theorem commitEndsEditOrKeepsIt : Obligations.CommitEndsEditOrKeepsIt := by
  refine ⟨fun s o slot gen i x b hadmitted howned hx hnot hrequest => ?_, fun x t b => rfl, fun r b c hc hold hwork => ?_,
    firstFailing_firstOf⟩
  · have hwho : x.owner = o.who := by simpa [Content.owner?, hx] using (checkOwned_ok howned).2
    have hwhole : o.req ≠ .short := by
      obtain ⟨-, hreq, -⟩ | ⟨-, ws, b₀, hreq, -⟩ := hrequest <;> rw [hreq] <;> nofun
    have htaken := takeRecord_of_admitted hadmitted rfl hwhole
    have hact : ∃ e, (o.row.act o (consume o s.dev)).1 = committed o.who i b e ∧ (∀ j, e.slot j = s.dev.slot j) ∧
        (∀ j, e.rtaOf j = s.dev.rtaOf j) ∧ ∀ c ≠ bankOf i, e.buffer c = s.dev.buffer c := by
      obtain ⟨hrow, hreq, hopen⟩ | ⟨hrow, ws, b₀, hreq, hne, hws, hb₀, hb⟩ := hrequest <;> simp only [hrow, RauRow.act, hreq]
      · exact ⟨consume o s.dev, commitAct_of_open (by simpa using howned) (by simpa using hnot) (by simpa using hopen),
          consume_slot o s.dev, consume_rtaOf o s.dev, fun c _ => consume_buffer o s.dev c⟩
      · obtain ⟨hok, -⟩ := amendCore_of_owned (o := o) (d := consume o s.dev) (by simpa using howned) (by simpa using hx) hne hws
        obtain ⟨-, hslot, -⟩ := amendBuffer_ok hb₀
        have hopen : ((consume o s.dev).setBuffer (bankOf i) (some (b₀.written x.cls ws))).openFor i = some b := by
          rw [openFor_setBuffer (b := b₀.written x.cls ws) hslot, hb]
          rfl
        exact ⟨_, amendCommitAct_of_taken (hok b₀ (by simpa using hb₀)) (by simpa using hnot) hopen, fun j => by simp,
          fun j => by simp, fun c hc => by simp [Device.buffer_setBuffer_other _ _ hc]⟩
    obtain ⟨e, hdev, hslot, hrta, hbuffer⟩ := hact
    obtain ⟨hothers, hdone, hkept⟩ := committed_outcome (b := b) o.who hslot hrta hbuffer
    refine ⟨takeRecord o.row o.row.act s.dev, exec_command o.row s, ?_, takeRecord_keepsCore _ _, ?_, ?_⟩
    all_goals rw [htaken, hdev]
    · obtain ⟨hrecords, hbuffers⟩ := hothers
      exact ⟨fun j hj => by simpa using hrecords j hj, fun c hc => by simpa using hbuffers c hc⟩
    · simpa [hwho] using hdone
    · simpa [hwho] using hkept
  · have himage : resultingImage c b = mergeMarked r.image b.image b.marks := by
      obtain rfl | rfl := hc <;> rfl
    rw [himage]
    exact ⟨mergeMarked_inRange hold hwork _,
      fieldOf_mergeMarked (Image.hasKind_of_inRange hold) (Image.hasKind_of_inRange hwork) _⟩

end Sys2Proof.Machine
end

section
/-! PROOFS. The purge sets and the edit expiry: records ended by a set, and an edit abandoned (R40 to R42, R45 to R47, R135, R152). -/

namespace Sys2Proof.Machine

-- A default proof `by decide` waits for the kernel: side by side the proofs would ask for a thread each.
set_option Elab.async false

variable {d e : Device} {i : SlotNo}

/-! ## A record ended, by its life state -/

/-- What a purge set makes of a slot that it names. -/
theorem ended_outcome (m : Mode) (s : Slot) {t : Slot} (ht : t = { s with content := s.content.ended m }) :
    (s.content.isDraft → t = { s with content := .free }) ∧
      (∀ r, (s.content = .live r ∨ s.content = .stale r) →
        t = { s with content := if m.noPasses then .free else .retiring r false }) ∧
      (s.content.isRetiring → t = s) := by
  subst ht
  obtain ⟨g, c⟩ := s
  refine ⟨fun h => ?_, fun r h => ?_, fun h => ?_⟩
  · obtain ⟨x, k, rfl⟩ := Content.isDraft_iff.mp h
    rfl
  · obtain rfl | rfl := h <;> rfl
  · cases c with
    | retiring r k => rfl
    | _ => cases h

/-! ## The peer-loss set (R45, R152) -/

theorem ownedBy_iff {n : Nat} : ownedBy d n i = true ↔ (d.slot i).content.owner? = some n := by
  simp [ownedBy]

theorem dropPeer_slot (n : Nat) (d : Device) (i : SlotNo) : (dropPeer n d).slot i =
    if ownedBy d n i then { d.slot i with content := (d.slot i).content.ended d.mc.mode } else d.slot i := by
  rw [(dropPeer_sameTable n d).slot, endPeer, endRecords_slot_named]
  rfl

/-- The device with the set of a node no longer waiting. -/
def withoutSet (n : Nat) (d : Device) : Device := d.withRau { d.rau with peerLossSets := d.rau.peerLossSets.erase n }

theorem endPeer_eq (n : Nat) (d : Device) : endPeer n d = endRecords (ownedBy d n) (withoutSet n d) := rfl

theorem endPeer_gs (n : Nat) (d : Device) : (endPeer n d).gs = d.gs := by
  rw [endPeer_eq, endRecords_gs]
  rfl

theorem dropPeer_gs (n : Nat) (d : Device) : (dropPeer n d).gs = d.gs := by
  simp only [dropPeer, raiseRoster, raise_gs, Device.withVbp_gs, endPeer_gs]

theorem dropPeer_rau (n : Nat) (d : Device) :
    (dropPeer n d).rau = { d.rau with peerLossSets := d.rau.peerLossSets.erase n } := by
  simp only [dropPeer, raiseRoster, raise_rau, Device.withVbp_rau, endPeer_eq, endRecords_rau]
  rfl

theorem dropPeer_notice (n : Nat) (d : Device) :
    (dropPeer n d).sl.notices.roster = some (NoticeEntry.raised d.sl.notices.roster (BitVec.ofNat 16 n)) := by
  have hsl : (endPeer n d).sl = d.sl := by
    rw [endPeer_eq, endRecords_sl]
    rfl
  have hraised := raise_get .roster .roster (BitVec.ofNat 16 n) ((endPeer n d).withVbp
    { (endPeer n d).vbp with
      roster := (endPeer n d).vbp.roster.filter (fun g => g.node ≠ n),
      awardQueue := (endPeer n d).vbp.awardQueue.filter (fun a => !ownedBy d n a.slot) })
  rw [if_pos rfl, Device.withVbp_sl, hsl] at hraised
  exact hraised

theorem dropPeer_vbp (n : Nat) (d : Device) : (dropPeer n d).vbp =
    { d.vbp with
      roster := d.vbp.roster.filter (fun g => g.node ≠ n),
      awardQueue := (endPeer n d).vbp.awardQueue.filter (fun a => !ownedBy d n a.slot),
      lastAward := (endPeer n d).vbp.lastAward } := by
  obtain ⟨-, -, -, hended⟩ := (ChangesRecordsOnly.endRecords (ownedBy d n) (withoutSet n d)).eqs
  rw [← endPeer_eq] at hended
  have hdropped : (dropPeer n d).vbp =
      { (endPeer n d).vbp with
        roster := (endPeer n d).vbp.roster.filter (fun g => g.node ≠ n),
        awardQueue := (endPeer n d).vbp.awardQueue.filter (fun a => !ownedBy d n a.slot) } := rfl
  rw [hdropped, hended]
  rfl

/-- A slot that the set does not name keeps its renewal entry and its last sent award. -/
theorem dropPeer_keeps {n : Nat} (h : (d.slot i).content.owner? ≠ some n) :
    (dropPeer n d).rtaOf i = d.rtaOf i ∧ (dropPeer n d).vbp.lastAward[i] = d.vbp.lastAward[i] := by
  have hnot : ownedBy d n i = false := Bool.eq_false_iff.mpr fun hn => h (ownedBy_iff.mp hn)
  have hkept : (endPeer n d).slot i = d.slot i := by rw [← (dropPeer_sameTable n d).slot, dropPeer_slot, hnot]; rfl
  obtain ⟨hentry, haward⟩ := endRecords_keeps (named := ownedBy d n) (i := i) (d := withoutSet n d) hkept
  rw [(dropPeer_sameTable n d).rtaOf, dropPeer_vbp]
  exact ⟨hentry, haward⟩

theorem dropPeer_buffer {n : Nat} {b : BankNo} (h : ∀ e ∈ d.buffer b, (d.slot e.slot).content.owner? ≠ some n) :
    (dropPeer n d).buffer b = d.buffer b := by
  refine ((dropPeer_sameTable n d).buffer b).trans (endRecords_buffer_kept (named := ownedBy d n)
    (d := withoutSet n d) fun e he => ?_)
  have hnot : ownedBy d n e.slot = false := Bool.eq_false_iff.mpr fun hn => h e he (ownedBy_iff.mp hn)
  rw [endRecords_slot_named]
  exact if_neg (by rw [hnot]; exact Bool.false_ne_true)

theorem loseEnginePeer_counts (d : Device) : (loseEnginePeer d).gs.crankCount = d.gs.crankCount ∧
    (d.gs.state.atRest = false → (loseEnginePeer d).gs.setpoint = 0) := by
  cases hstate : d.gs.state <;> simp [loseEnginePeer, hstate, GensetState.atRest, enterOff, raiseGensetFault, raise]

/-- The device after the peer-loss set of `n`, the engine peer lost where `n` was it. -/
theorem peerLossPurge_blocks {n : Nat} (h : n ∈ d.rau.peerLossSets) : SameTable (dropPeer n d) (peerLossPurge n d) ∧
    (peerLossPurge n d).vbp = (dropPeer n d).vbp ∧
    (peerLossPurge n d).sl.notices.roster = (dropPeer n d).sl.notices.roster ∧
    Changes Part.sequencer (dropPeer n d) (peerLossPurge n d) ∧
    (d.isEngine n = false → (peerLossPurge n d).gs = d.gs) ∧
    (d.isEngine n = true → (peerLossPurge n d).gs = (loseEnginePeer (dropPeer n d)).gs) := by
  rw [peerLossPurge_of_waiting (List.contains_iff_mem.mpr h)]
  have hsequenced := (loseEnginePeer_sequenced (dropPeer n d)).changes
  cases hengine : d.isEngine n with
  | true => exact ⟨hsequenced.sameTable, loseEnginePeer_vbp _, hsequenced.same (.notice .roster), hsequenced, nofun, fun _ => rfl⟩
  | false =>
    exact ⟨⟨rfl, rfl⟩, rfl, rfl, .refl _, fun _ => dropPeer_gs n d, nofun⟩

/-! ## The park-entry set (R135) -/

theorem parkEntryPurge_of_waiting (h : d.rau.parkEntrySet = true) :
    parkEntryPurge d = endRecords (parkNamed d) (d.withRau { d.rau with parkEntrySet := false }) := if_pos h

theorem parkNamed_of_ident {x : Identity} (hx : (d.slot i).content.ident? = some x) :
    parkNamed d i = (decide (x.cls = .demand) || !d.cs.retainMask.getLsbD (bankOf i).val) := by
  rw [parkNamed, hx]

/-- The frame around the two sets: what neither writes. -/
theorem dropPeer_changes (n : Nat) (d : Device) :
    Changes (.rau :: .roster :: .notice .roster :: Part.records) d (dropPeer n d) := by
  have hended : Changes (.rau :: .roster :: .notice .roster :: Part.records) d (endPeer n d) :=
    (withRau_changes _ d).mono.trans (endRecords_changes _ _).mono
  refine hended.trans (.trans ?_ (.raise .roster _ _))
  intro p hp
  cases p <;> simp_all [Part.Same, Part.records]

/-- Settles O17: each set ends the records that it names, by life state. -/
theorem purgeSetsEndNamedRecords : Obligations.PurgeSetsEndNamedRecords := by
  refine ⟨fun s n hn => ?_, fun s hset => ?_⟩
  · obtain ⟨hsame, hvbp, hnotice, hchanges, hgs, hgs'⟩ := peerLossPurge_blocks hn
    have hdropped := dropPeer_changes n s.dev
    have hvbp' : (actOf (.peerLossPurgeSet n) s.dev).vbp = _ := hvbp.trans (dropPeer_vbp n s.dev)
    have hslot (i : SlotNo) : (actOf (.peerLossPurgeSet n) s.dev).slot i = (dropPeer n s.dev).slot i := hsame.slot i
    refine ⟨actOf (.peerLossPurgeSet n) s.dev, exec_eq _ s, fun i => ⟨fun hother => ?_, fun howner => ?_⟩, ?_, ?_, ?_,
      fun i hother => ⟨?_, ?_⟩, fun b hb => (hsame.buffer b).trans (dropPeer_buffer hb), hgs, fun hengine => ?_, ?_, ?_, ?_, ?_, ?_, ?_⟩
    · rw [hslot, dropPeer_slot, if_neg fun h => hother (ownedBy_iff.mp h)]
    · have hnamed : ownedBy s.dev n i = true := ownedBy_iff.mpr howner
      obtain ⟨hdraft, hused, hretiring⟩ := ended_outcome s.dev.mc.mode (s.dev.slot i)
        ((hslot i).trans ((dropPeer_slot n s.dev i).trans (if_pos hnamed)))
      refine ⟨hdraft, hused, hretiring, fun a ha hai => ?_⟩
      rw [hvbp'] at ha
      have hkept := (List.mem_filter.mp ha).2
      rw [hai, hnamed] at hkept
      cases hkept
    · rw [hvbp']
    · exact Eq.trans (hchanges.same .rau) (dropPeer_rau n s.dev)
    · exact hnotice.trans (dropPeer_notice n s.dev)
    · exact (hsame.rtaOf i).trans (dropPeer_keeps hother).1
    · have hlast : (actOf (.peerLossPurgeSet n) s.dev).vbp.lastAward = (dropPeer n s.dev).vbp.lastAward :=
        congrArg BusPort.lastAward hvbp
      rw [hlast]
      exact (dropPeer_keeps hother).2
    · have hlost : (actOf (.peerLossPurgeSet n) s.dev).gs = (loseEnginePeer (dropPeer n s.dev)).gs := hgs' hengine
      have hstate : (dropPeer n s.dev).gs.state.atRest = s.dev.gs.state.atRest := by rw [dropPeer_gs]
      obtain ⟨hcount, hset⟩ := loseEnginePeer_counts (dropPeer n s.dev)
      rw [hlost, hcount, dropPeer_gs]
      refine ⟨?_, rfl, fun hrest => ?_, fun hbusy => ?_⟩
      · cases hrest : s.dev.gs.state.atRest with
        | true => rw [loseEnginePeer_gs_of_rest (hstate.trans hrest)]
        | false => exact (loseEnginePeer_gs_of_busy (hstate.trans hrest)).1
      · rw [loseEnginePeer_gs_of_rest (hstate.trans hrest), dropPeer_gs]
        exact ⟨rfl, rfl⟩
      · obtain ⟨-, hoff, hmark⟩ := loseEnginePeer_gs_of_busy (hstate.trans hbusy)
        exact ⟨hoff, hmark, hset (hstate.trans hbusy)⟩
    · exact hchanges.mc.trans hdropped.mc
    · exact Eq.trans (hchanges.same .config) (hdropped.same .config)
    · exact hchanges.se.trans hdropped.se
    · exact Eq.trans (hchanges.same .combiner) (hdropped.same .combiner)
    · rw [hvbp']
    · rw [hvbp']
  · have hact : actOf .parkEntryPurgeSet s.dev =
        endRecords (parkNamed s.dev) (s.dev.withRau { s.dev.rau with parkEntrySet := false }) := parkEntryPurge_of_waiting hset
    have hslot (i : SlotNo) : (actOf .parkEntryPurgeSet s.dev).slot i =
        if parkNamed s.dev i then { s.dev.slot i with content := (s.dev.slot i).content.ended s.dev.mc.mode }
        else s.dev.slot i := by
      rw [hact, endRecords_slot_named]
      rfl
    have hchanges := parkEntryPurge_changes s.dev
    obtain ⟨-, -, hsl, hvbp⟩ := (ChangesRecordsOnly.endRecords (parkNamed s.dev)
      (s.dev.withRau { s.dev.rau with parkEntrySet := false })).eqs
    refine ⟨actOf .parkEntryPurgeSet s.dev, exec_eq _ s, fun i x hx => ⟨fun hclass hretained => ?_, fun hnamed => ?_⟩,
      fun i hfree => ?_, fun i hkept => ?_, fun b hb => ?_, ?_, ⟨hchanges.same .now, hchanges.same .combiner, hchanges.se,
      hchanges.same .genset, hchanges.mc, hchanges.same .config⟩, by rw [hact, hsl]; rfl, by rw [hact, hvbp]; rfl,
      by rw [hact, hvbp]; rfl, by rw [hact, hvbp]; rfl⟩
    · rw [hslot, parkNamed_of_ident hx, if_neg (by simp [hclass, hretained])]
    · have hnamed' : parkNamed s.dev i = true := by
        rw [parkNamed_of_ident hx]
        obtain h | h := hnamed
        · rw [decide_eq_true h, Bool.true_or]
        · rw [h, Bool.not_false, Bool.or_true]
      exact ended_outcome s.dev.mc.mode (s.dev.slot i) ((hslot i).trans (if_pos hnamed'))
    · have hnot : parkNamed s.dev i = false := by
        cases hc : (s.dev.slot i).content <;> rw [hc] at hfree <;> simp [Content.isFree] at hfree
        simp [parkNamed, hc, Content.ident?]
      rw [hslot, hnot]
      rfl
    · rw [hact] at hkept ⊢
      exact endRecords_keeps hkept
    · rw [hact] at hb ⊢
      exact endRecords_buffer_kept hb
    · rw [hact, endRecords_rau]
      rfl

/-! ## The edit expiry (R40 to R42) -/

/-- The open edit of a bank abandoned: a DRAFT becomes FREE, else the buffer closes. -/
def abandon (b : BankNo) (e : EditBuffer) (d : Device) : Device :=
  if (d.slot e.slot).content.isDraft then freeSlots (only e.slot) d else d.setBuffer b none

theorem editExpiry_of_open {b : BankNo} {e : EditBuffer} {x : Identity} (he : d.buffer b = some e)
    (hx : (d.slot e.slot).content.ident? = some x) : editExpiry b d =
      tellAbandoned x e.slot (d.slot e.slot).generation (d.slot e.slot).content.isDraft (abandon b e d) := by
  simp only [editExpiry, he, hx, abandon]

theorem editExpiryOf_val (b : BankNo) (d : Device) : editExpiryOf b.val d = editExpiry b d := dif_pos b.isLt

/-- What an edit abandoned changes of the table. -/
theorem abandon_table {b : BankNo} {e : EditBuffer} (he : d.buffer b = some e) :
    (abandon b e d).buffer b = none ∧
      ((d.slot e.slot).content.isDraft → (abandon b e d).slot e.slot = { d.slot e.slot with content := .free }) ∧
      ((d.slot e.slot).content.isDraft = false →
        (abandon b e d).slot e.slot = d.slot e.slot ∧ (abandon b e d).rtaOf e.slot = d.rtaOf e.slot) ∧
      (∀ j ≠ e.slot, (abandon b e d).slot j = d.slot j ∧ (abandon b e d).rtaOf j = d.rtaOf j) ∧
      ∀ c ≠ b, (∀ g ∈ d.buffer c, g.slot ≠ e.slot) → (abandon b e d).buffer c = d.buffer c := by
  unfold abandon
  cases hdraft : (d.slot e.slot).content.isDraft with
  | true =>
    rw [if_pos rfl]
    refine ⟨?_, fun _ => ?_, nofun, fun j hj => ⟨?_, ?_⟩, fun c _ hc => ?_⟩
    · simp [freeSlots_buffer, he]
    · simp [freeSlots_slot]
    · simp [freeSlots_slot, only_other hj]
    · simp [freeSlots_rtaOf, only_other hj]
    · rw [freeSlots_buffer]
      cases hg : d.buffer c with
      | none => rfl
      | some g => simp [only_other (hc g hg)]
  | false =>
    rw [if_neg Bool.false_ne_true]
    exact ⟨by simp, nofun, fun _ => ⟨by simp, by simp⟩, fun j _ => ⟨by simp, by simp⟩,
      fun c hc _ => by simp [Device.buffer_setBuffer_other _ _ hc]⟩

theorem abandon_changesRecordsOnly (b : BankNo) (e : EditBuffer) (d : Device) : ChangesRecordsOnly d (abandon b e d) := by
  unfold abandon
  split
  · exact .freeSlots _ d
  · exact .setBuffer d b none

/-- The frame that tells a peer of an edit abandoned in a slot. -/
def abandonedFrame (x : Identity) (i : SlotNo) (t : Slot) : TxFrame :=
  { dest := .node x.owner, body := .abandoned i t.generation t.content.isDraft }

theorem tellAbandoned_peer {x : Identity} {t : Slot} (h : x.owner ≠ 0) :
    tellAbandoned x i t.generation t.content.isDraft d = handFrame .reply (abandonedFrame x i t) d := if_neg h

/-- Settles O18: by the life state of the slot and the owner. -/
theorem editExpiryAbandonsEdit : Obligations.EditExpiryAbandonsEdit := by
  intro s b e x he hx
  have hact : actOf (.editTimerExpiry b.val) s.dev =
      tellAbandoned x e.slot (s.dev.slot e.slot).generation (s.dev.slot e.slot).content.isDraft (abandon b e s.dev) :=
    (editExpiryOf_val b s.dev).trans (editExpiry_of_open he hx)
  have htold := tellAbandoned_changes x e.slot (s.dev.slot e.slot).generation (s.dev.slot e.slot).content.isDraft
    (abandon b e s.dev)
  have hsame := htold.sameTable
  obtain ⟨hbuffer, hdraft, hused, hothers, hbuffers⟩ := abandon_table he
  have hchanges : Changes Part.editExpiry s.dev (actOf (.editTimerExpiry b.val) s.dev) := editExpiryOf_changes b.val s.dev
  obtain ⟨-, -, hsl, hvbp⟩ := (abandon_changesRecordsOnly b e s.dev).eqs
  have htx : (abandon b e s.dev).vbp.tx = s.dev.vbp.tx := by rw [hvbp]
  obtain ⟨hbase, hrate⟩ := hchanges.same .force
  obtain ⟨hctrl, herrors, hsilence⟩ := hchanges.same .controller
  refine ⟨actOf (.editTimerExpiry b.val) s.dev, exec_eq _ s, ?_, fun h => ?_, fun h => ⟨?_, ?_⟩, fun j hj => ⟨?_, ?_⟩,
    fun c hc hg => ?_, ⟨hchanges.same .now, hchanges.same .combiner, hchanges.se, hchanges.same .genset, hchanges.mc,
    hchanges.same .config⟩, hchanges.same .rau, ⟨hbase, hrate, hchanges.same .roster, hctrl, herrors, hsilence⟩, fun howner => ?_,
    fun howner hroom => ?_, fun howner hfull => ?_⟩
  all_goals rw [hact]
  · exact (hsame.buffer b).trans hbuffer
  · exact (hsame.slot _).trans (hdraft h)
  · exact (hsame.slot _).trans (hused h).1
  · exact (hsame.rtaOf _).trans (hused h).2
  · exact (hsame.slot _).trans (hothers j hj).1
  · exact (hsame.rtaOf _).trans (hothers j hj).2
  · exact (hsame.buffer c).trans (hbuffers c hc hg)
  · have hraised := raise_get .editAbandoned .editAbandoned (BitVec.ofNat 16 e.slot.val) (abandon b e s.dev)
    rw [if_pos rfl, hsl] at hraised
    rw [tellAbandoned, if_pos howner]
    exact ⟨by rw [raise_vbp, htx], hraised⟩
  · have hroom' : (abandon b e s.dev).txRoom = true := by
      rw [Device.txRoom, hvbp]
      exact hroom
    obtain ⟨-, hhanded⟩ | ⟨hnot, -⟩ := handFrame_cases .reply (abandonedFrame x e.slot (s.dev.slot e.slot)) (abandon b e s.dev)
    · rw [tellAbandoned_peer howner, hhanded, htx]
      exact ⟨hsl, rfl⟩
    · rw [hroom'] at hnot
      cases hnot
  · have hfull' : (abandon b e s.dev).txRoom = false := by
      rw [Device.txRoom, hvbp]
      exact hfull
    obtain ⟨hroom, -⟩ | ⟨-, hdropped⟩ := handFrame_cases .reply (abandonedFrame x e.slot (s.dev.slot e.slot)) (abandon b e s.dev)
    · rw [hfull'] at hroom
      cases hroom
    · have hraised := raise_get .link .link (BitVec.ofNat 16 (0x200 + x.owner)) (abandon b e s.dev)
      rw [if_pos rfl, hsl] at hraised
      rw [tellAbandoned_peer howner, hdropped]
      exact ⟨by rw [raiseTxDropped, raise_vbp, htx], hraised⟩

end Sys2Proof.Machine
end

section
/-! PROOFS. The allotment: a tier served from what is left, and the tiers and traction in their order (R90 to R96). -/

namespace Sys2Proof.Machine

-- A default proof `by decide` waits for the kernel: side by side the proofs would ask for a thread each.
set_option Elab.async false

/-! ## Snapping to a step list (R94) -/

theorem foldl_max_mem (l : List Int) (a : Int) : l.foldl max a ∈ a :: l := by
  induction l generalizing a with
  | nil => simp
  | cons b l ih =>
    obtain h | h := List.mem_cons.mp (ih (max a b))
    · rw [List.foldl_cons, h]
      obtain h' | h' := max_choice a b <;> simp [h']
    · exact List.mem_cons_of_mem _ (List.mem_cons_of_mem _ h)

theorem le_foldl_max (l : List Int) (a : Int) : ∀ y ∈ a :: l, y ≤ l.foldl max a := by
  induction l generalizing a with
  | nil => simp
  | cons b l ih =>
    have hhead : max a b ≤ l.foldl max (max a b) := ih _ _ List.mem_cons_self
    intro y hy
    obtain rfl | hy := List.mem_cons.mp hy
    · exact (le_max_left _ _).trans hhead
    obtain rfl | hy := List.mem_cons.mp hy
    · exact (le_max_right _ _).trans hhead
    · exact ih _ y (List.mem_cons_of_mem _ hy)

theorem largestStep_cases {steps : List Power} (hpos : ∀ y ∈ steps, 0 < y) (x : Power) :
    (largestStep steps x ∈ steps ∧ largestStep steps x ≤ x ∧ ∀ y ∈ steps, y ≤ x → y ≤ largestStep steps x) ∨
      (largestStep steps x = 0 ∧ ∀ y ∈ steps, x < y) := by
  have hle : ∀ y ∈ steps, y ≤ x → y ≤ largestStep steps x := fun y hy hyx =>
    le_foldl_max _ 0 y (List.mem_cons_of_mem _ (List.mem_filter.mpr ⟨hy, by simpa using hyx⟩))
  obtain hzero | hmem := List.mem_cons.mp (foldl_max_mem (steps.filter (· ≤ x)) 0)
  · refine .inr ⟨hzero, fun y hy => ?_⟩
    by_contra hnot
    have hbelow := hle y hy (not_lt.mp hnot)
    rw [show largestStep steps x = 0 from hzero] at hbelow
    exact absurd hbelow (not_le.mpr (hpos y hy))
  · obtain ⟨hstep, hx⟩ := List.mem_filter.mp hmem
    exact .inl ⟨hstep, of_decide_eq_true hx, hle⟩

theorem snapTo_snapsTo {steps : List Power} (hpos : ∀ y ∈ steps, 0 < y) (x : Power) : SnapsTo steps x (snapTo steps x) := by
  refine ⟨fun h => by simp [snapTo, h], fun h => ?_⟩
  have hsnap : snapTo steps x = largestStep steps x := by simp [snapTo, h]
  rw [hsnap]
  exact largestStep_cases hpos x

/-- A snapped grant keeps between 0 and what was granted. -/
theorem SnapsTo.bounds {steps : List Power} {x g : Power} (h : SnapsTo steps x g) (hpos : ∀ y ∈ steps, 0 < y) (hx : 0 ≤ x) :
    0 ≤ g ∧ g ≤ x := by
  by_cases hempty : steps = []
  · rw [h.1 hempty]
    exact ⟨hx, le_rfl⟩
  · obtain ⟨hmem, hle, -⟩ | ⟨rfl, -⟩ := h.2 hempty
    · exact ⟨(hpos g hmem).le, hle⟩
    · exact ⟨le_rfl, hx⟩

theorem snapTo_zero {steps : List Power} (hpos : ∀ y ∈ steps, 0 < y) : snapTo steps 0 = 0 :=
  have h := (snapTo_snapsTo hpos 0).bounds hpos le_rfl
  le_antisymm h.2 h.1

/-! ## Step (a): the floors (R92) -/

/-- The floor of a load fits a remainder. -/
def LoadClaim.fits (c : LoadClaim) (x : Power) : Prop := c.request ≠ 0 ∧ c.floor ≤ x

/-- What step (a) makes of a load that meets a remainder. -/
theorem serveFloors_cons (x : Power) (c : LoadClaim) (cs : List LoadClaim) :
    (c.fits x → serveFloors x (c :: cs) =
      ((c, .floored) :: (serveFloors (x - c.floor) cs).1, (serveFloors (x - c.floor) cs).2)) ∧
    (¬c.fits x → ∃ k, k ≠ .floored ∧
      serveFloors x (c :: cs) = ((c, k) :: (serveFloors x cs).1, (serveFloors x cs).2)) := by
  refine ⟨fun ⟨hrequest, hfloor⟩ => by rw [serveFloors, if_neg hrequest, if_pos hfloor], fun h => ?_⟩
  by_cases hrequest : c.request = 0
  · exact ⟨.idle, nofun, by rw [serveFloors, if_pos hrequest]⟩
  · exact ⟨.shed, nofun, by rw [serveFloors, if_neg hrequest, if_neg fun hfloor => h ⟨hrequest, hfloor⟩]⟩

theorem serveFloors_claims (x : Power) (cs : List LoadClaim) : (serveFloors x cs).1.map (·.1) = cs := by
  induction cs generalizing x with
  | nil => rfl
  | cons c cs ih =>
    by_cases hfits : c.fits x
    · rw [(serveFloors_cons x c cs).1 hfits]
      exact congrArg (c :: ·) (ih _)
    · obtain ⟨k, -, h⟩ := (serveFloors_cons x c cs).2 hfits
      rw [h]
      exact congrArg (c :: ·) (ih _)

/-- The excess that a load adds. -/
def excessOf (p : LoadClaim × Served) : Power := if p.2 = .floored then p.1.request - p.1.floor else 0

theorem totalExcess_cons (p : LoadClaim × Served) (l : List (LoadClaim × Served)) :
    totalExcess (p :: l) = excessOf p + totalExcess l := rfl

/-- The remainders and the excesses of step (a), place by place, from a remainder and an excess so far. -/
structure FloorsServed (x e : Power) (cs : List LoadClaim) (rem exc : Nat → Power) : Prop where
  first : rem 0 = x ∧ exc 0 = e
  next : ∀ n c, cs[n]? = some c →
    (c.fits (rem n) → rem (n + 1) = rem n - c.floor ∧ exc (n + 1) = exc n + (c.request - c.floor)) ∧
      (¬c.fits (rem n) → rem (n + 1) = rem n ∧ exc (n + 1) = exc n)
  last : rem cs.length = (serveFloors x cs).2 ∧ exc cs.length = e + totalExcess (serveFloors x cs).1
  served : ∀ (n : Nat) (p : LoadClaim × Served), (serveFloors x cs).1[n]? = some p → (p.2 = .floored ↔ p.1.fits (rem n))

/-- The sequence with a term before it. -/
def before (a : Power) (f : Nat → Power) : Nat → Power
  | 0 => a
  | n + 1 => f n

theorem serveFloors_served (x e : Power) (cs : List LoadClaim) : ∃ rem exc, FloorsServed x e cs rem exc := by
  induction cs generalizing x e with
  | nil => exact ⟨fun _ => x, fun _ => e, ⟨rfl, rfl⟩, nofun, ⟨rfl, (Int.add_zero e).symm⟩, nofun⟩
  | cons c cs ih =>
    by_cases hfits : c.fits x
    · obtain ⟨rem, exc, ⟨hrem, hexc⟩, hnext, ⟨hlast, hlast'⟩, hserved⟩ := ih (x - c.floor) (e + (c.request - c.floor))
      refine ⟨before x rem, before e exc, ⟨rfl, rfl⟩, fun n k hk => ?_, ?_, fun n p hp => ?_⟩
      · cases n with
        | zero =>
          obtain rfl : c = k := by simpa using hk
          exact ⟨fun _ => ⟨hrem, hexc⟩, fun h => absurd hfits h⟩
        | succ n => exact hnext n k hk
      · rw [(serveFloors_cons x c cs).1 hfits, totalExcess_cons]
        refine ⟨hlast, hlast'.trans ?_⟩
        rw [excessOf, if_pos rfl, Int.add_assoc]
      · rw [(serveFloors_cons x c cs).1 hfits] at hp
        cases n with
        | zero =>
          obtain rfl : (c, Served.floored) = p := by simpa using hp
          exact iff_of_true rfl hfits
        | succ n => exact hserved n p hp
    · obtain ⟨k, hk, heq⟩ := (serveFloors_cons x c cs).2 hfits
      obtain ⟨rem, exc, ⟨hrem, hexc⟩, hnext, ⟨hlast, hlast'⟩, hserved⟩ := ih x e
      refine ⟨before x rem, before e exc, ⟨rfl, rfl⟩, fun n j hj => ?_, ?_, fun n p hp => ?_⟩
      · cases n with
        | zero =>
          obtain rfl : c = j := by simpa using hj
          exact ⟨fun h => absurd h hfits, fun _ => ⟨hrem, hexc⟩⟩
        | succ n => exact hnext n j hj
      · rw [heq, totalExcess_cons, excessOf, if_neg hk, Int.zero_add]
        exact ⟨hlast, hlast'⟩
      · rw [heq] at hp
        cases n with
        | zero =>
          obtain rfl : (c, k) = p := by simpa using hp
          exact iff_of_false hk hfits
        | succ n => exact hserved n p hp

/-! ## A tier (R92 to R94) -/

theorem tierGrants_claims (x : Power) (cs : List LoadClaim) : (tierGrants x cs).map (·.1) = cs := by
  rw [tierGrants, List.map_map]
  exact serveFloors_claims x cs

theorem shareOf_floored (x e : Power) {p : LoadClaim × Served} (h : p.2 = .floored) :
    shareOf x e p = if e ≤ x then p.1.request else p.1.floor + (p.1.request - p.1.floor) * x / e := by
  unfold shareOf
  rw [h]

theorem shareOf_not_floored (x e : Power) {p : LoadClaim × Served} (h : p.2 ≠ .floored) : shareOf x e p = 0 := by
  obtain ⟨c, k⟩ := p
  cases k with
  | floored => exact absurd rfl h
  | idle | shed => rfl

theorem tierGrants_served (x : Power) {cs : List LoadClaim} (hpos : ∀ c ∈ cs, ∀ y ∈ c.steps, 0 < y) :
    TierServed x cs (tierGrants x cs) := by
  obtain ⟨rem, exc, ⟨hrem, hexc⟩, hnext, ⟨hlast, hlast'⟩, hserved⟩ := serveFloors_served x 0 cs
  refine ⟨tierGrants_claims x cs, rem, exc, hrem, hexc, hnext, fun n c g hg => ?_⟩
  rw [Int.zero_add] at hlast'
  rw [tierGrants, List.getElem?_map] at hg
  obtain ⟨p, hp, heq⟩ := Option.map_eq_some_iff.mp hg
  obtain ⟨rfl, rfl⟩ : p.1 = c ∧ snapTo p.1.steps (shareOf (serveFloors x cs).2 (totalExcess (serveFloors x cs).1) p) = g :=
    Prod.mk.inj heq
  have hclaim : p.1 ∈ cs := by
    rw [← serveFloors_claims x cs]
    exact List.mem_map_of_mem (List.mem_of_getElem? hp)
  have hfloored := hserved n p hp
  rw [← hlast, ← hlast']
  refine ⟨fun hnot => ?_, fun hfits => ?_⟩
  · rw [shareOf_not_floored _ _ fun h => hnot (hfloored.mp h), snapTo_zero (hpos _ hclaim)]
  · rw [shareOf_floored _ _ (hfloored.mpr hfits)]
    refine ⟨fun h => ?_, fun h => ?_⟩
    · rw [if_pos h]
      exact snapTo_snapsTo (hpos _ hclaim) _
    · rw [if_neg (not_le.mpr h)]
      exact snapTo_snapsTo (hpos _ hclaim) _

/-! ## What a tier takes (R92, R93) -/

/-- A claim that a sound LOAD makes. -/
structure LoadClaim.Proper (c : LoadClaim) : Prop where
  request : 0 ≤ c.request
  floor : 0 ≤ c.floor
  reaches : c.request ≠ 0 → c.floor ≤ c.request
  steps : ∀ y ∈ c.steps, 0 < y

/-- The floor that step (a) gave a load. -/
def floorOf (p : LoadClaim × Served) : Power := if p.2 = .floored then p.1.floor else 0

/-- The sum of the floors given. -/
def floorsGiven (l : List (LoadClaim × Served)) : Power := (l.map floorOf).sum

theorem floorsGiven_cons (p : LoadClaim × Served) (l : List (LoadClaim × Served)) :
    floorsGiven (p :: l) = floorOf p + floorsGiven l := rfl

theorem serveFloors_rest (x : Power) (cs : List LoadClaim) :
    (serveFloors x cs).2 = x - floorsGiven (serveFloors x cs).1 ∧ (0 ≤ x → 0 ≤ (serveFloors x cs).2) := by
  induction cs generalizing x with
  | nil => exact ⟨(Int.sub_zero x).symm, id⟩
  | cons c cs ih =>
    by_cases hfits : c.fits x
    · obtain ⟨hrest, hnonneg⟩ := ih (x - c.floor)
      rw [(serveFloors_cons x c cs).1 hfits, floorsGiven_cons, floorOf, if_pos rfl, hrest]
      exact ⟨by simp only; linarith, fun _ => hrest ▸ hnonneg (Int.sub_nonneg_of_le hfits.2)⟩
    · obtain ⟨k, hk, heq⟩ := (serveFloors_cons x c cs).2 hfits
      rw [heq, floorsGiven_cons, floorOf, if_neg hk, Int.zero_add]
      exact ih x

/-- A load that is given its floor asks for no less. -/
theorem serveFloors_proper {x : Power} {cs : List LoadClaim} (hcs : ∀ c ∈ cs, c.Proper) {p : LoadClaim × Served}
    (hp : p ∈ (serveFloors x cs).1) : p.1.Proper ∧ (p.2 = .floored → p.1.floor ≤ p.1.request) := by
  have hclaim : p.1 ∈ cs := by
    rw [← serveFloors_claims x cs]
    exact List.mem_map_of_mem hp
  refine ⟨hcs _ hclaim, fun hfloored => (hcs _ hclaim).reaches ?_⟩
  obtain ⟨n, hn⟩ := List.mem_iff_getElem?.mp hp
  obtain ⟨rem, exc, hserved⟩ := serveFloors_served x 0 cs
  exact ((hserved.served n p hn).mp hfloored).1

/-- A load's share lies between its floor and its request, and where shares are cut it has its part of the remainder. -/
theorem shareOf_bounds {x e : Power} {p : LoadClaim × Served} (hx : 0 ≤ x) (hp : p.1.Proper)
    (hfloor : p.2 = .floored → p.1.floor ≤ p.1.request) :
    0 ≤ shareOf x e p ∧ shareOf x e p ≤ p.1.request ∧ floorOf p ≤ shareOf x e p ∧
      (e ≤ x → shareOf x e p = floorOf p + excessOf p) ∧ (x < e → e * shareOf x e p ≤ e * floorOf p + excessOf p * x) := by
  by_cases h : p.2 = .floored
  · have hle := hfloor h
    have hnonneg := hp.floor
    rw [shareOf_floored x e h, floorOf, if_pos h, excessOf, if_pos h]
    by_cases hall : e ≤ x
    · rw [if_pos hall]
      exact ⟨hp.request, le_rfl, hle, fun _ => by linarith, fun hlt => absurd hall (not_le.mpr hlt)⟩
    · have he : x < e := not_le.mp hall
      have hexcess : 0 ≤ p.1.request - p.1.floor := Int.sub_nonneg_of_le hle
      have hpart : 0 ≤ (p.1.request - p.1.floor) * x / e :=
        Int.ediv_nonneg (Int.mul_nonneg hexcess hx) (hx.trans he.le)
      have hcut : (p.1.request - p.1.floor) * x / e ≤ p.1.request - p.1.floor :=
        Int.ediv_le_of_le_mul (hx.trans_lt he) (Int.mul_le_mul_of_nonneg_left he.le hexcess)
      have hmul : e * ((p.1.request - p.1.floor) * x / e) ≤ (p.1.request - p.1.floor) * x := Int.mul_ediv_self_le (hx.trans_lt he).ne'
      rw [if_neg hall]
      exact ⟨by linarith, by linarith, by linarith, fun h' => absurd h' hall, fun _ => by rw [Int.mul_add]; linarith⟩
  · rw [shareOf_not_floored x e h, floorOf, if_neg h, excessOf, if_neg h]
    exact ⟨le_rfl, hp.request, le_rfl, fun _ => rfl, fun _ => by simp⟩

/-- The shares of a tier do not pass the floors given and the remainder. -/
theorem sum_shareOf_le {x e : Power} (hx : 0 ≤ x) {l : List (LoadClaim × Served)}
    (hl : ∀ p ∈ l, p.1.Proper ∧ (p.2 = .floored → p.1.floor ≤ p.1.request)) :
    (e ≤ x → (l.map (shareOf x e)).sum = floorsGiven l + totalExcess l) ∧
      (x < e → e * (l.map (shareOf x e)).sum ≤ e * floorsGiven l + totalExcess l * x) := by
  induction l with
  | nil => exact ⟨fun _ => rfl, fun _ => by simp [floorsGiven, totalExcess]⟩
  | cons p l ih =>
    obtain ⟨hproper, hfloor⟩ := hl p List.mem_cons_self
    obtain ⟨-, -, -, hfull, hcut⟩ := shareOf_bounds (e := e) hx hproper hfloor
    obtain ⟨ihfull, ihcut⟩ := ih fun q hq => hl q (List.mem_cons_of_mem p hq)
    rw [List.map_cons, List.sum_cons, floorsGiven_cons, totalExcess_cons]
    refine ⟨fun h => ?_, fun h => ?_⟩
    · rw [hfull h, ihfull h]
      linarith
    · have hp := hcut h
      have hrest := ihcut h
      rw [Int.mul_add, Int.mul_add, Int.add_mul]
      linarith

theorem sum_shareOf_le_remainder {x : Power} {cs : List LoadClaim} (hx : 0 ≤ x) (hcs : ∀ c ∈ cs, c.Proper) :
    ((serveFloors x cs).1.map (shareOf (serveFloors x cs).2 (totalExcess (serveFloors x cs).1))).sum ≤ x := by
  obtain ⟨hrest, hnonneg⟩ := serveFloors_rest x cs
  have hrem := hnonneg hx
  obtain ⟨hfull, hcut⟩ := sum_shareOf_le (e := totalExcess (serveFloors x cs).1) hrem fun p hp => serveFloors_proper hcs hp
  by_cases h : totalExcess (serveFloors x cs).1 ≤ (serveFloors x cs).2
  · rw [hfull h]
    linarith
  · have he := not_le.mp h
    have hle := hcut he
    rw [← Int.mul_add] at hle
    have hsum := Int.le_of_mul_le_mul_left hle (hrem.trans_lt he)
    linarith

theorem sumGrants_map_le {l : List (LoadClaim × Served)} {f g : LoadClaim × Served → Power} (h : ∀ p ∈ l, f p ≤ g p) :
    sumGrants (l.map fun p => (p.1, f p)) ≤ (l.map g).sum := by
  induction l with
  | nil => exact le_rfl
  | cons p l ih =>
    have hp := h p List.mem_cons_self
    have hrest := ih fun q hq => h q (List.mem_cons_of_mem p hq)
    simp only [sumGrants, List.map_cons, List.sum_cons] at hrest ⊢
    linarith

/-- The grants of a tier keep to its remainder, and each between 0 and its request. -/
theorem tierGrants_bounds {x : Power} {cs : List LoadClaim} (hx : 0 ≤ x) (hcs : ∀ c ∈ cs, c.Proper) :
    sumGrants (tierGrants x cs) ≤ x ∧ ∀ g ∈ tierGrants x cs, 0 ≤ g.2 ∧ g.2 ≤ g.1.request := by
  have hrem := (serveFloors_rest x cs).2 hx
  have hsnapped (p : LoadClaim × Served) (hp : p ∈ (serveFloors x cs).1) :
      0 ≤ snapTo p.1.steps (shareOf (serveFloors x cs).2 (totalExcess (serveFloors x cs).1) p) ∧
        snapTo p.1.steps (shareOf (serveFloors x cs).2 (totalExcess (serveFloors x cs).1) p) ≤
          shareOf (serveFloors x cs).2 (totalExcess (serveFloors x cs).1) p ∧
        shareOf (serveFloors x cs).2 (totalExcess (serveFloors x cs).1) p ≤ p.1.request := by
    obtain ⟨hproper, hfloor⟩ := serveFloors_proper hcs hp
    obtain ⟨hnonneg, hle, -⟩ := shareOf_bounds (e := totalExcess (serveFloors x cs).1) hrem hproper hfloor
    obtain ⟨hlow, hhigh⟩ := (snapTo_snapsTo hproper.steps _).bounds hproper.steps hnonneg
    exact ⟨hlow, hhigh, hle⟩
  refine ⟨(sumGrants_map_le fun p hp => (hsnapped p hp).2.1).trans (sum_shareOf_le_remainder hx hcs), fun g hg => ?_⟩
  obtain ⟨p, hp, rfl⟩ := List.mem_map.mp hg
  obtain ⟨hlow, hhigh, hle⟩ := hsnapped p hp
  exact ⟨hlow, hhigh.trans hle⟩

theorem sumGrants_nonneg {l : List (LoadClaim × Power)} (h : ∀ g ∈ l, 0 ≤ g.2) : 0 ≤ sumGrants l := by
  induction l with
  | nil => exact le_rfl
  | cons g l ih =>
    have hg := h g List.mem_cons_self
    have hrest := ih fun k hk => h k (List.mem_cons_of_mem g hk)
    simp only [sumGrants, List.map_cons, List.sum_cons] at hrest ⊢
    linarith

theorem sumGrants_append (l m : List (LoadClaim × Power)) : sumGrants (l ++ m) = sumGrants l + sumGrants m := by
  simp [sumGrants]

/-! ## The tiers in their order (R91, R95) -/

/-- The remainder that a tier meets, and its grants. -/
def tierPool (p tm : Power) (cs : List LoadClaim) : Nat → Power
  | 0 => p
  | 1 =>
    p - sumGrants (tierGrants p (ofTier 0 cs)) - max (tractionGrant tm (p - sumGrants (tierGrants p (ofTier 0 cs)))) 0
  | n + 2 => tierPool p tm cs (n + 1) - sumGrants (tierGrants (tierPool p tm cs (n + 1)) (ofTier (n + 1) cs))

/-- The grants of a tier. -/
def grantsOfTier (p tm : Power) (cs : List LoadClaim) (t : Nat) : List (LoadClaim × Power) :=
  tierGrants (tierPool p tm cs t) (ofTier t cs)

theorem allot_eq (p tm : Power) (cs : List LoadClaim) : allot p tm cs =
    { grants := grantsOfTier p tm cs 0 ++ grantsOfTier p tm cs 1 ++ grantsOfTier p tm cs 2 ++ grantsOfTier p tm cs 3,
      tg := tractionGrant tm (p - sumGrants (grantsOfTier p tm cs 0)), left := tierPool p tm cs 4 } := rfl

theorem ofTier_proper {cs : List LoadClaim} (h : ∀ c ∈ cs, c.Proper) (t : Nat) : ∀ c ∈ ofTier t cs, c.Proper :=
  fun c hc => h c (List.mem_filter.mp hc).1

theorem tractionGrant_cases (tm x : Power) (hx : 0 ≤ x) : (tm ≤ 0 ∧ tractionGrant tm x = tm) ∨
    (0 < tm ∧ tractionGrant tm x = min tm x ∧ 0 ≤ tractionGrant tm x ∧ tractionGrant tm x ≤ x) := by
  by_cases h : 0 < tm
  · have heq : tractionGrant tm x = min tm x := if_pos h
    exact .inr ⟨h, heq, by rw [heq]; exact le_min h.le hx, by rw [heq]; exact min_le_right _ _⟩
  · exact .inl ⟨not_lt.mp h, if_neg h⟩

theorem tierPool_nonneg {p : Power} (hp : 0 ≤ p) (tm : Power) {cs : List LoadClaim} (hcs : ∀ c ∈ cs, c.Proper) (t : Nat) :
    0 ≤ tierPool p tm cs t := by
  induction t with
  | zero => exact hp
  | succ t ih =>
    have hbound := (tierGrants_bounds ih (ofTier_proper hcs t)).1
    cases t with
    | zero =>
      have hleft : 0 ≤ p - sumGrants (tierGrants p (ofTier 0 cs)) := Int.sub_nonneg_of_le hbound
      obtain ⟨htm, htg⟩ | ⟨-, -, hlow, hhigh⟩ := tractionGrant_cases tm _ hleft
      · rw [tierPool, htg, max_eq_right htm]
        linarith
      · rw [tierPool, max_eq_left hlow]
        linarith
    | succ t =>
      rw [tierPool]
      linarith

theorem grantsOfTier_tier {p tm : Power} {cs : List LoadClaim} {t : Nat} {g : LoadClaim × Power}
    (h : g ∈ grantsOfTier p tm cs t) : g.1 ∈ cs ∧ g.1.tier = t := by
  have hmem : g.1 ∈ ofTier t cs := by
    rw [← tierGrants_claims (tierPool p tm cs t) (ofTier t cs)]
    exact List.mem_map_of_mem h
  obtain ⟨hclaim, htier⟩ := List.mem_filter.mp hmem
  exact ⟨hclaim, by simpa using htier⟩

theorem filter_grantsOfTier (p tm : Power) (cs : List LoadClaim) (t u : Nat) :
    (grantsOfTier p tm cs u).filter (fun x => x.1.tier = t) = if u = t then grantsOfTier p tm cs u else [] := by
  split
  · next h =>
    exact List.filter_eq_self.mpr fun g hg => decide_eq_true ((grantsOfTier_tier hg).2.trans h)
  · next h =>
    exact List.filter_eq_nil_iff.mpr fun g hg hd => h ((grantsOfTier_tier hg).2.symm.trans (of_decide_eq_true hd))

theorem filter_allot_grants (p tm : Power) (cs : List LoadClaim) {t : Nat} (ht : t ≤ 3) :
    (allot p tm cs).grants.filter (fun x => x.1.tier = t) = grantsOfTier p tm cs t := by
  rw [allot_eq]
  simp only [List.filter_append, filter_grantsOfTier]
  interval_cases t <;> simp

theorem ofTier_cons (t : Nat) (c : LoadClaim) (cs : List LoadClaim) :
    ofTier t (c :: cs) = if c.tier = t then c :: ofTier t cs else ofTier t cs := by
  simp [ofTier, List.filter_cons]

theorem tiers_perm {cs : List LoadClaim} (h : ∀ c ∈ cs, c.tier ≤ 3) :
    (ofTier 0 cs ++ ofTier 1 cs ++ ofTier 2 cs ++ ofTier 3 cs).Perm cs := by
  induction cs with
  | nil => exact .nil
  | cons c cs ih =>
    have htier := h c List.mem_cons_self
    refine .trans ?_ ((ih fun k hk => h k (List.mem_cons_of_mem c hk)).cons c)
    simp only [ofTier_cons]
    obtain h | h | h | h : c.tier = 0 ∨ c.tier = 1 ∨ c.tier = 2 ∨ c.tier = 3 := by omega
    · simp [h]
    · simp [h, List.append_assoc, List.perm_middle]
    · simpa [h] using List.perm_middle (l₁ := ofTier 0 cs ++ ofTier 1 cs)
    · simpa [h] using List.perm_middle (l₁ := ofTier 0 cs ++ ofTier 1 cs ++ ofTier 2 cs)

theorem map_fst_allot_grants (p tm : Power) (cs : List LoadClaim) :
    (allot p tm cs).grants.map (·.1) = ofTier 0 cs ++ ofTier 1 cs ++ ofTier 2 cs ++ ofTier 3 cs := by
  simp only [allot_eq, List.map_append, grantsOfTier, tierGrants_claims]

theorem mem_allot_grants {p tm : Power} {cs : List LoadClaim} {x : LoadClaim × Power} (h : x ∈ (allot p tm cs).grants) :
    ∃ t, x ∈ grantsOfTier p tm cs t := by
  rw [allot_eq] at h
  simp only [List.mem_append] at h
  obtain ((h | h) | h) | h := h
  exacts [⟨0, h⟩, ⟨1, h⟩, ⟨2, h⟩, ⟨3, h⟩]

theorem allot_grants_bounds {p : Power} (hp : 0 ≤ p) (tm : Power) {cs : List LoadClaim} (hcs : ∀ c ∈ cs, c.Proper) :
    ∀ x ∈ (allot p tm cs).grants, 0 ≤ x.2 ∧ x.2 ≤ x.1.request := by
  intro x hx
  obtain ⟨t, ht⟩ := mem_allot_grants hx
  exact (tierGrants_bounds (tierPool_nonneg hp tm hcs t) (ofTier_proper hcs t)).2 x ht

/-- What the allotment leaves of the pool is what no load and no traction was given. -/
theorem allot_left {p : Power} (hp : 0 ≤ p) (tm : Power) {cs : List LoadClaim} (hcs : ∀ c ∈ cs, c.Proper) :
    (allot p tm cs).left = p - sumGrants (allot p tm cs).grants - max (allot p tm cs).tg 0 ∧ 0 ≤ (allot p tm cs).left := by
  refine ⟨?_, tierPool_nonneg hp tm hcs 4⟩
  simp only [allot_eq, sumGrants_append, tierPool, grantsOfTier]
  ring

theorem claimOf_eq_some {mode : Mode} {i : SlotNo} {s : Slot} {c : LoadClaim} :
    claimOf mode i s = some c ↔ ∃ (r : Record) (l : LoadFields),
      s.content = .live r ∧ r.image.body = .load l ∧ (mode = .park → l.parkCapable = true) ∧ c = .ofFields i l := by
  constructor
  · intro h
    unfold claimOf at h
    split at h
    · next r hr =>
      split at h
      · next l hl =>
        split at h
        · next hcap => exact ⟨r, l, hr, hl, by simpa [or_iff_not_imp_left] using hcap, (Option.some.inj h).symm⟩
        · nomatch h
      · nomatch h
    · nomatch h
  · rintro ⟨r, l, hr, hl, hcap, rfl⟩
    unfold claimOf
    rw [hr]
    simp only [hl]
    exact if_pos (by simpa [or_iff_not_imp_left] using hcap)

theorem claimOf_slot {mode : Mode} {i : SlotNo} {s : Slot} {c : LoadClaim} (h : claimOf mode i s = some c) : c.slot = i := by
  obtain ⟨_, _, _, _, _, rfl⟩ := claimOf_eq_some.mp h
  rfl

/-- The LOADs of a pass, by slot. -/
theorem mem_participants {snap : Snapshot} {c : LoadClaim} :
    c ∈ participants snap ↔ claimOf snap.mode c.slot snap.slots[c.slot] = some c := by
  rw [participants, List.mem_filterMap]
  constructor
  · rintro ⟨i, -, h⟩
    obtain rfl := claimOf_slot h
    exact h
  · exact fun h => ⟨c.slot, List.mem_finRange _, h⟩

theorem participants_slots_ascend (snap : Snapshot) : ((participants snap).map (·.slot)).Pairwise (· < ·) := by
  rw [List.pairwise_map]
  refine List.Pairwise.filterMap _ (fun i j hij c hc k hk => ?_) (List.pairwise_lt_finRange 48)
  rwa [claimOf_slot hc, claimOf_slot hk]

/-- Settles O24, tier by tier from what the ones before left. -/
theorem allotmentStaysWithinPool : Obligations.AllotmentStaysWithinPool := by
  unfold Obligations.AllotmentStaysWithinPool
  refine ⟨fun p tm cs al g hp hcs hal hg => ?_, fun snap c => ⟨mem_participants.trans claimOf_eq_some, participants_slots_ascend snap⟩,
    fun snap f al hf hal => ?_⟩
  · have hproper : ∀ c ∈ cs, c.Proper := fun c hc =>
      have ⟨hrequest, hfloor, hreaches, _, hsteps⟩ := hcs c hc
      ⟨hrequest, hfloor, hreaches, hsteps⟩
    have hserved (t : Nat) : TierServed (tierPool p tm cs t) (ofTier t cs) (grantsOfTier p tm cs t) :=
      tierGrants_served _ fun c hc => (ofTier_proper hproper t c hc).steps
    obtain ⟨hleft, hnonneg⟩ := allot_left hp tm hproper
    have hgrants (t : Nat) (ht : t ≤ 3) : g t = grantsOfTier p tm cs t := by
      rw [hg, hal]
      exact filter_allot_grants p tm cs ht
    rw [hgrants 0 (by decide), hgrants 1 (by decide), hgrants 2 (by decide), hgrants 3 (by decide), hal]
    refine ⟨rfl, hserved 0, hserved 1, hserved 2, hserved 3, fun h => if_neg (not_lt.mpr h), fun h => if_pos h, ?_, hleft,
      allot_grants_bounds hp tm hproper, ?_⟩
    · linarith
    · rw [map_fst_allot_grants]
      exact tiers_perm fun c hc => (hcs c hc).2.2.2.1
  · subst hf hal
    refine ⟨?_, ?_⟩
    · exact (Bool.and_eq_true _ _).to_iff.trans (and_congr decide_eq_true_iff decide_eq_true_iff)
    · refine List.any_eq_true.trans (exists_congr fun x => and_congr_right fun _ => ?_)
      exact (Bool.and_eq_true _ _).to_iff.trans (and_congr decide_eq_true_iff decide_eq_true_iff)

end Sys2Proof.Machine
end

section
/-! PROOFS. What a sound snapshot offers, and the effective values combined from it (R67 to R69, R75, R76). -/

namespace Sys2Proof.Machine

-- A default proof `by decide` waits for the kernel: side by side the proofs would ask for a thread each.
set_option Elab.async false

variable {snap : Snapshot}

/-- The primary field of a sound record is present. -/
theorem Record.Sound.fieldOf_primary {r : Record} (h : r.Sound) :
    r.image.fieldOf r.ident.cls.primary = some (r.image.primary.getD 0) := by
  obtain ⟨hrange, hvalid, -⟩ := h
  obtain ⟨hcls, p, hbody⟩ | ⟨hcls, l, hbody⟩ | ⟨q, hcls, v, f, hbody⟩ | ⟨q, hcls, v, hbody⟩ :=
    Image.hasKind_cases (Image.hasKind_of_inRange hrange)
  · simp [Image.fieldOf, hcls, RecordClass.primary, Image.primary, hbody]
  · simp only [firstFailing, hbody, Option.or_eq_none_iff, loadFailing_eq_none] at hvalid
    obtain ⟨⟨x, hx, -⟩, -⟩ := hvalid
    simp [Image.fieldOf, hcls, RecordClass.primary, Image.primary, hbody, hx]
  · cases v with
    | none => simp [firstFailing, hbody] at hvalid
    | some x => simp [Image.fieldOf, hcls, RecordClass.primary, Image.primary, hbody]
  · cases v with
    | none => simp [firstFailing, hbody] at hvalid
    | some x => simp [Image.fieldOf, hcls, RecordClass.primary, Image.primary, hbody]

theorem Image.fieldOf_fallback (img : Image) : img.fieldOf .fallback = img.fallback := by
  unfold fieldOf fallback
  cases img.body <;> rfl

/-! ## Contributions (R67) -/

theorem contribution_eq_some {q : BoundQty} {s : Slot} {x : Int} :
    contribution q s = some x ↔ ∃ r : Record, r.ident.cls = .bound q ∧
      (s.content = .live r ∧ r.image.primary.getD 0 = x ∨ s.content = .stale r ∧ r.image.fallback.getD 0 = x) := by
  unfold contribution
  cases s.content with
  | live r | stale r => by_cases h : r.ident.cls = .bound q <;> simp [h]
  | free | draft _ _ | retiring _ _ => simp

theorem mem_slots_toList {slots : Vector Slot 48} {s : Slot} : s ∈ slots.toList ↔ ∃ i : SlotNo, slots[i] = s := by
  rw [Vector.mem_toList_iff, Vector.mem_iff_getElem]
  exact ⟨fun ⟨i, hi, h⟩ => ⟨⟨i, hi⟩, h⟩, fun ⟨i, h⟩ => ⟨i.val, i.isLt, h⟩⟩

/-- The value of a sound BOUND record is its primary field. -/
theorem Record.Sound.fieldOf_boundValue {r : Record} (h : r.Sound) {q : BoundQty} (hcls : r.ident.cls = .bound q) {x : Int} :
    r.image.fieldOf .boundValue = some x ↔ r.image.primary.getD 0 = x := by
  have hprimary := h.fieldOf_primary
  rw [hcls] at hprimary
  rw [show r.image.fieldOf .boundValue = _ from hprimary, Option.some.injEq]

/-- The contributions to a quantity are what the BOUND records of the snapshot offer. -/
theorem mem_contributions (h : snap.Sound) {q : BoundQty} {x : Int} : x ∈ contributions q snap ↔ snap.Offers q x := by
  rw [contributions, List.mem_filterMap]
  constructor
  · rintro ⟨s, hs, hx⟩
    obtain ⟨i, rfl⟩ := mem_slots_toList.mp hs
    obtain ⟨r, hcls, ⟨hlive, hx⟩ | ⟨hstale, hx⟩⟩ := contribution_eq_some.mp hx
    · have hsound := h.1 i r (by rw [hlive]; rfl)
      exact ⟨i, r, hcls, .inl ⟨hlive, (hsound.fieldOf_boundValue hcls).mpr hx⟩⟩
    · exact ⟨i, r, hcls, .inr ⟨hstale, by rw [Image.fieldOf_fallback, hx]⟩⟩
  · rintro ⟨i, r, hcls, hr⟩
    refine ⟨snap.slots[i], mem_slots_toList.mpr ⟨i, rfl⟩, contribution_eq_some.mpr ⟨r, hcls, ?_⟩⟩
    refine hr.imp (fun ⟨hlive, hx⟩ => ⟨hlive, ?_⟩) (fun ⟨hstale, hx⟩ => ⟨hstale, ?_⟩)
    · have hsound := h.1 i r (by rw [hlive]; rfl)
      exact (hsound.fieldOf_boundValue hcls).mp hx
    · rw [← Image.fieldOf_fallback, hx]

theorem contributions_eq_nil (h : snap.Sound) {q : BoundQty} : contributions q snap = [] ↔ ∀ x, ¬snap.Offers q x := by
  rw [List.eq_nil_iff_forall_not_mem]
  exact forall_congr' fun x => not_congr (mem_contributions h)

theorem isPresent_eq_false (h : snap.Sound) {q : BoundQty} : isPresent q snap = false ↔ ∀ x, ¬snap.Offers q x := by
  rw [← contributions_eq_nil h]
  simp [isPresent]

theorem Snapshot.Offers.within (h : snap.Sound) {q : BoundQty} {x : Int} (hx : snap.Offers q x) :
    within q.range.1 q.range.2 x := by
  obtain ⟨i, r, hcls, ⟨hlive, hx⟩ | ⟨hstale, hx⟩⟩ := hx
  · have hsound := h.1 i r (by rw [hlive]; rfl)
    have hrange := Image.fieldsInRange_of_inRange hsound.1 .boundValue x hx
    rwa [hcls] at hrange
  · have hsound := h.1 i r (by rw [hstale]; rfl)
    cases hfallback : r.image.fieldOf .fallback with
    | none =>
      rw [hx, hfallback]
      cases q <;> simp [BoundQty.range, Machine.within]
    | some y =>
      have hrange := Image.fieldsInRange_of_inRange hsound.1 .fallback y hfallback
      rw [hcls] at hrange
      rwa [hx, hfallback]

/-! ## Effective values (R68, R69) -/

theorem foldl_min_mem (l : List Int) (a : Int) : l.foldl min a ∈ a :: l := by
  induction l generalizing a with
  | nil => simp
  | cons b l ih =>
    obtain h | h := List.mem_cons.mp (ih (min a b))
    · rw [List.foldl_cons, h]
      obtain h' | h' := min_choice a b <;> simp [h']
    · exact List.mem_cons_of_mem _ (List.mem_cons_of_mem _ h)

theorem foldl_min_le (l : List Int) (a : Int) : ∀ y ∈ a :: l, l.foldl min a ≤ y := by
  induction l generalizing a with
  | nil => simp
  | cons b l ih =>
    have hhead : l.foldl min (min a b) ≤ min a b := ih _ _ List.mem_cons_self
    intro y hy
    obtain rfl | hy := List.mem_cons.mp hy
    · exact hhead.trans (min_le_left _ _)
    obtain rfl | hy := List.mem_cons.mp hy
    · exact hhead.trans (min_le_right _ _)
    · exact ih _ y (List.mem_cons_of_mem _ hy)

theorem effectivePower_effective (h : snap.Sound) (q : PowerQty) : snap.Effective q (effectivePower q snap) := by
  unfold effectivePower
  have hmem {x : Int} := mem_contributions h (q := .power q) (x := x)
  cases hc : contributions (.power q) snap with
  | nil => exact ⟨fun ⟨x, hx⟩ => absurd hx ((contributions_eq_nil h).mp hc x), fun _ => rfl⟩
  | cons v vs =>
    rw [hc] at hmem
    refine ⟨fun _ => ⟨min_le_right _ _, fun x hx => ?_, ?_⟩, fun hnone => absurd (hmem.mp List.mem_cons_self) (hnone v)⟩
    · exact (min_le_left _ _).trans (foldl_min_le vs v x (hmem.mpr hx))
    · dsimp only
      obtain hmin | hmin := min_choice (vs.foldl min v) (snap.cfg.ceilings.get q)
      · rw [hmin]
        exact .inr (hmem.mp (foldl_min_mem vs v))
      · exact .inl hmin

theorem Snapshot.Effective.nonneg (h : snap.Sound) {q : PowerQty} {v : Int} (hv : snap.Effective q v) : 0 ≤ v := by
  have hceiling : 0 ≤ snap.cfg.ceilings.get q := by
    have hadmits := ConfigSet.inRange_iff.mp h.2 (.ceiling q)
    exact (of_decide_eq_true hadmits).1
  have habsent : 0 ≤ snap.cfg.absents.get q := by
    have hadmits := ConfigSet.inRange_iff.mp h.2 (.absent q)
    exact (of_decide_eq_true hadmits).1
  by_cases hoffers : ∃ x, snap.Offers (.power q) x
  · obtain ⟨-, -, rfl | hoffer⟩ := hv.1 hoffers
    · exact hceiling
    · exact (hoffer.within h).1
  · rw [hv.2 (not_exists.mp hoffers)]
    exact le_min habsent hceiling

theorem effectivePower_nonneg (h : snap.Sound) (q : PowerQty) : 0 ≤ effectivePower q snap :=
  (effectivePower_effective h q).nonneg h

/-! ## The combined powers (R75, R76) -/

theorem driveGav_nonneg (h : snap.Sound) : 0 ≤ driveGav snap := by
  have hcap : 0 ≤ snap.cfg.warmCap := by
    have hadmits := ConfigSet.inRange_iff.mp h.2 .warmCap
    exact (of_decide_eq_true hadmits).1
  have hmax := effectivePower_nonneg h .genMax
  unfold driveGav
  split
  · split
    · exact le_min hmax hcap
    · exact hmax
    · exact le_rfl
  · exact le_rfl

/-- No combined power is negative. -/
structure Combiner.Nonneg (b : Combiner) : Prop where
  bd : 0 ≤ b.bd
  bc : 0 ≤ b.bc
  md : 0 ≤ b.md
  mr : 0 ≤ b.mr
  gav : 0 ≤ b.gav

theorem combine_nonneg (h : snap.Sound) : (combine snap).Nonneg where
  bd := by
    simp only [combine]
    split
    · exact le_rfl
    · exact effectivePower_nonneg h _
  bc := effectivePower_nonneg h _
  md := by
    simp only [combine]
    split
    · exact le_rfl
    · exact effectivePower_nonneg h _
  mr := by
    simp only [combine]
    split
    · exact le_rfl
    · exact effectivePower_nonneg h _
  gav := by
    simp only [combine]
    split
    · exact le_rfl
    · exact driveGav_nonneg h

end Sys2Proof.Machine
end

section
/-! PROOFS. The net demand of a pass, its band of genset outputs, its setpoint and its battery power (R97 to R101). -/

namespace Sys2Proof.Machine

-- A default proof `by decide` waits for the kernel: side by side the proofs would ask for a thread each.
set_option Elab.async false

variable {snap : Snapshot}

/-! ## What takes part (R90) -/

theorem LoadFields.InRange.listed_pos {l : LoadFields} (h : l.InRange) : ∀ y ∈ l.steps.listed, 0 < y := by
  obtain ⟨-, -, -, -, hplaces⟩ := h
  intro y hy
  obtain ⟨n, hn, rfl⟩ := List.mem_iff_getElem.mp (List.mem_of_mem_take hy)
  have hn' : n < 6 := by simpa using hn
  exact (hplaces ⟨n, hn'⟩).1

/-- What a sound record that is a LOAD asks for. -/
theorem Record.Sound.load {r : Record} (h : r.Sound) {l : LoadFields} (hl : r.image.body = .load l) :
    l.InRange ∧ ∃ q, l.request = some q ∧ (∀ f ∈ l.floor, ¬(0 < q ∧ q < f)) ∧ ascending l.steps.listed = true ∧
      (l.steps.listed = [] ∨ ∀ f ∈ l.floor, f ∈ l.steps.listed) := by
  obtain ⟨⟨-, -, -, hbody⟩, hvalid, -⟩ := h
  rw [hl] at hbody
  simp only [firstFailing, hl, Option.or_eq_none_iff, loadFailing_eq_none] at hvalid
  refine ⟨?_, hvalid.1⟩
  revert hbody
  cases r.ident.cls with
  | load => exact of_decide_eq_true
  | demand | bound _ | measure _ => exact nofun

theorem LoadClaim.ofFields_proper {r : Record} (h : r.Sound) {l : LoadFields} (hl : r.image.body = .load l) (i : SlotNo) :
    (LoadClaim.ofFields i l).Proper := by
  obtain ⟨hrange, q, hq, hfloor, -⟩ := h.load hl
  obtain ⟨hrequest, hfloors, -⟩ := id hrange
  have hq0 := (hrequest q hq).1
  refine ⟨?_, ?_, ?_, hrange.listed_pos⟩
  · simpa [ofFields, hq] using hq0
  · cases hf : l.floor with
    | none => simp [ofFields, hf]
    | some f => simpa [ofFields, hf] using ((hfloors f hf).1.trans' (by decide) : (0 : Int) ≤ f)
  · simp only [ofFields, hq, Option.getD_some]
    intro hne
    cases hf : l.floor with
    | none => simpa using hq0
    | some f =>
      have := hfloor f hf
      simp only [Option.getD_some]
      by_contra hlt
      exact this ⟨lt_of_le_of_ne hq0 (Ne.symm hne), not_le.mp hlt⟩

theorem participants_proper (h : snap.Sound) : ∀ c ∈ participants snap, c.Proper := by
  intro c hc
  obtain ⟨r, l, hlive, hl, -, hclaim⟩ := claimOf_eq_some.mp (mem_participants.mp hc)
  rw [hclaim]
  exact LoadClaim.ofFields_proper (h.1 _ r (by rw [hlive]; rfl)) hl _

/-! ## The net demand (R97) -/

/-- The traction request of a pass (R89). -/
def tractionRequest (snap : Snapshot) : Power := clamp (-(combine snap).mr) (combine snap).md (demandImage snap)

/-- The pool of a pass (R90). -/
def passPool (snap : Snapshot) : Power := (combine snap).bd + (combine snap).gav + max (-tractionRequest snap) 0

/-- The allotment of a pass. -/
def passAllotment (snap : Snapshot) : Allotment := allot (passPool snap) (tractionRequest snap) (participants snap)

/-- The net demand before a regeneration cut. -/
def Allotment.demand (al : Allotment) : Power := sumGrants al.grants + al.tg

theorem passPool_nonneg (h : snap.Sound) : 0 ≤ passPool snap := by
  have hb := combine_nonneg h
  exact add_nonneg (add_nonneg hb.bd hb.gav) (le_max_right _ _)

/-- Loads and traction keep to the pool. -/
theorem passAllotment_le_pool (h : snap.Sound) :
    sumGrants (passAllotment snap).grants + max (passAllotment snap).tg 0 ≤ passPool snap ∧
      0 ≤ sumGrants (passAllotment snap).grants := by
  have hpool := passPool_nonneg h
  have hproper := participants_proper h
  obtain ⟨heq, hleft⟩ := allot_left hpool (tractionRequest snap) hproper
  have hgrants := allot_grants_bounds hpool (tractionRequest snap) hproper
  refine ⟨?_, sumGrants_nonneg fun x hx => (hgrants x hx).1⟩
  have : 0 ≤ passPool snap - sumGrants (passAllotment snap).grants - max (passAllotment snap).tg 0 := heq ▸ hleft
  linarith

/-- What battery and genset can give covers the net demand: regeneration only ever serves the loads (R97). -/
theorem passAllotment_demand_le (h : snap.Sound) : (passAllotment snap).demand ≤ (combine snap).bd + (combine snap).gav := by
  obtain ⟨hpool, -⟩ := passAllotment_le_pool h
  have htg : (passAllotment snap).tg =
      tractionGrant (tractionRequest snap)
        (passPool snap - sumGrants (grantsOfTier (passPool snap) (tractionRequest snap) (participants snap) 0)) := rfl
  unfold passPool at hpool
  unfold Allotment.demand
  by_cases htm : 0 < tractionRequest snap
  · have hregen : max (-tractionRequest snap) 0 = 0 := max_eq_right (by linarith)
    have hle : (passAllotment snap).tg ≤ max (passAllotment snap).tg 0 := le_max_left _ _
    rw [hregen] at hpool
    linarith
  · rw [tractionGrant, if_neg htm] at htg
    have hregen : max (-tractionRequest snap) 0 = -tractionRequest snap := max_eq_left (by linarith)
    have hle : 0 ≤ max (passAllotment snap).tg 0 := le_max_right _ _
    rw [hregen] at hpool
    linarith

/-! ## The nearest point (R100) -/

/-- Of two points, `a` is the nearer to `gd`, or as near and not above. -/
def AtLeastAsNear (gd a b : Power) : Prop :=
  (a - gd).natAbs < (b - gd).natAbs ∨ (a - gd).natAbs = (b - gd).natAbs ∧ a ≤ b

theorem AtLeastAsNear.refl (gd a : Power) : AtLeastAsNear gd a a := .inr ⟨rfl, le_rfl⟩

theorem AtLeastAsNear.trans {gd a b c : Power} (hab : AtLeastAsNear gd a b) (hbc : AtLeastAsNear gd b c) :
    AtLeastAsNear gd a c := by
  obtain hab | ⟨hab, hle⟩ := hab <;> obtain hbc | ⟨hbc, hle'⟩ := hbc
  · exact .inl (hab.trans hbc)
  · exact .inl (hbc ▸ hab)
  · exact .inl (hab ▸ hbc)
  · exact .inr ⟨hab.trans hbc, hle.trans hle'⟩

theorem nearer_spec (gd a b : Power) :
    (nearer gd a b = a ∨ nearer gd a b = b) ∧ AtLeastAsNear gd (nearer gd a b) a ∧ AtLeastAsNear gd (nearer gd a b) b := by
  unfold nearer
  split
  · next h => exact ⟨.inl rfl, .refl gd a, .inl h⟩
  · next hab =>
    split
    · next h => exact ⟨.inr rfl, .inl h, .refl gd b⟩
    · next hba =>
      have heq : (a - gd).natAbs = (b - gd).natAbs := le_antisymm (not_lt.mp hba) (not_lt.mp hab)
      obtain hle | hle := le_total a b
      · rw [min_eq_left hle]
        exact ⟨.inl rfl, .refl gd a, .inr ⟨heq, hle⟩⟩
      · rw [min_eq_right hle]
        exact ⟨.inr rfl, .inr ⟨heq.symm, hle⟩, .refl gd b⟩

theorem foldl_nearer_spec (gd : Power) (l : List Power) (a : Power) :
    l.foldl (nearer gd) a ∈ a :: l ∧ ∀ q ∈ a :: l, AtLeastAsNear gd (l.foldl (nearer gd) a) q := by
  induction l generalizing a with
  | nil => simp [AtLeastAsNear.refl]
  | cons b l ih =>
    obtain ⟨hchoice, ha, hb⟩ := nearer_spec gd a b
    obtain ⟨hmem, hnear⟩ := ih (nearer gd a b)
    have hfirst := hnear _ List.mem_cons_self
    refine ⟨?_, fun q hq => ?_⟩
    · obtain h | h := List.mem_cons.mp hmem
      · rw [List.foldl_cons, h]
        obtain h' | h' := hchoice <;> simp [h']
      · exact List.mem_cons_of_mem _ (List.mem_cons_of_mem _ h)
    · obtain rfl | hq := List.mem_cons.mp hq
      · exact hfirst.trans ha
      obtain rfl | hq := List.mem_cons.mp hq
      · exact hfirst.trans hb
      · exact hnear q (List.mem_cons_of_mem _ hq)

theorem nearest_eq_none {gd : Power} {l : List Power} (h : nearest gd l = none) : l = [] := by
  cases l with
  | nil => rfl
  | cons _ _ => nomatch h

theorem nearest_spec {gd p : Power} {l : List Power} (h : nearest gd l = some p) :
    p ∈ l ∧ ∀ q ∈ l, AtLeastAsNear gd p q := by
  cases l with
  | nil => nomatch h
  | cons a l =>
    obtain rfl := Option.some.inj h
    exact foldl_nearer_spec gd l a

/-- The setpoint in a band that holds the desired output, where Gav is not 0 (R100). -/
theorem chooseSetpoint_spec {gav l u gd : Power} (hgav : gav ≠ 0) :
    ((∃ q ∈ admissible snap, within l u q) → (chooseSetpoint snap gav l u gd).2 = false ∧
      (chooseSetpoint snap gav l u gd).1 ∈ admissible snap ∧ within l u (chooseSetpoint snap gav l u gd).1 ∧
        ∀ q ∈ admissible snap, within l u q → AtLeastAsNear gd (chooseSetpoint snap gav l u gd).1 q) ∧
    ((∀ q ∈ admissible snap, ¬within l u q) → chooseSetpoint snap gav l u gd = (gd, true)) := by
  have hmem {q : Power} : q ∈ (admissible snap).filter (fun p => l ≤ p && p ≤ u) ↔ q ∈ admissible snap ∧ within l u q := by
    simp [within]
  unfold chooseSetpoint
  rw [if_neg hgav]
  cases hnearest : nearest gd ((admissible snap).filter fun p => l ≤ p && p ≤ u) with
  | some p =>
    obtain ⟨hp, hnear⟩ := nearest_spec hnearest
    obtain ⟨hpoint, hband⟩ := hmem.mp hp
    exact ⟨fun _ => ⟨rfl, hpoint, hband, fun q hq hwithin => hnear q (hmem.mpr ⟨hq, hwithin⟩)⟩,
      fun hnone => absurd hband (hnone p hpoint)⟩
  | none =>
    have hempty := nearest_eq_none hnearest
    refine ⟨fun ⟨q, hq, hwithin⟩ => ?_, fun _ => rfl⟩
    have : q ∈ [] := hempty ▸ hmem.mpr ⟨hq, hwithin⟩
    nomatch this

theorem chooseSetpoint_within {gav l u gd : Power} (hgav : gav = 0 → within l u 0) (hgd : within l u gd) :
    within l u (chooseSetpoint snap gav l u gd).1 := by
  by_cases hzero : gav = 0
  · rw [chooseSetpoint, if_pos hzero]
    exact hgav hzero
  · obtain ⟨hpoint, hoff⟩ := chooseSetpoint_spec (snap := snap) (l := l) (u := u) (gd := gd) hzero
    by_cases hex : ∃ q ∈ admissible snap, within l u q
    · exact (hpoint hex).2.2.1
    · rw [hoff fun q hq hwithin => hex ⟨q, hq, hwithin⟩]
      exact hgd

/-! ## The band, the setpoint and the battery power of a pass (R98 to R101) -/

/-- The band of genset outputs (R98). -/
def bandLow (snap : Snapshot) : Power := max ((passAllotment snap).demand - (combine snap).bd) 0

def bandHigh (snap : Snapshot) : Power := min (combine snap).gav (max ((passAllotment snap).demand + (combine snap).bc) 0)

theorem band_ordered (h : snap.Sound) : bandLow snap ≤ bandHigh snap := by
  have hb := combine_nonneg h
  obtain ⟨hbd, hbc, -, -, hgav⟩ := hb
  have hdemand := passAllotment_demand_le h
  refine max_le (le_min (by linarith) ?_) (le_min hgav (le_max_right _ _))
  exact le_trans (by linarith) (le_max_left _ _)

theorem bandHigh_eq_zero (h : snap.Sound) (hcut : (passAllotment snap).demand + (combine snap).bc < 0) :
    bandHigh snap = 0 := by
  rw [bandHigh, max_eq_right hcut.le, min_eq_right (combine_nonneg h).gav]

/-- The desired output of the genset (R99). -/
def desiredOutput (snap : Snapshot) : Power :=
  clamp (bandLow snap) (bandHigh snap) ((passAllotment snap).demand - (computePass snap (combine snap)).fig.pp)

theorem fig_gset (snap : Snapshot) : (computePass snap (combine snap)).fig.gset =
    (chooseSetpoint snap (combine snap).gav (bandLow snap) (bandHigh snap) (desiredOutput snap)).1 := rfl

theorem fig_gset_within (h : snap.Sound) :
    within (bandLow snap) (bandHigh snap) (computePass snap (combine snap)).fig.gset := by
  rw [fig_gset]
  refine chooseSetpoint_within (fun hgav => ?_) (clamp_within _ _ _ (band_ordered h))
  have hhigh : bandHigh snap ≤ 0 := (min_le_left _ _).trans_eq hgav
  exact ⟨(band_ordered h).trans hhigh, (le_max_right _ _).trans (band_ordered h)⟩

/-- The regeneration cut (R101): what the battery cannot take of the net demand, set against the setpoint. -/
theorem fig_regenCut (snap : Snapshot) : (computePass snap (combine snap)).fig.regenCut =
    if (passAllotment snap).demand + (combine snap).bc < 0 then
      -(combine snap).bc - ((passAllotment snap).demand - (computePass snap (combine snap)).fig.gset)
    else 0 := rfl

theorem fig_gset_of_cut (h : snap.Sound) (hcut : (passAllotment snap).demand + (combine snap).bc < 0) :
    (computePass snap (combine snap)).fig.gset = 0 := by
  obtain ⟨hlow, hhigh⟩ := fig_gset_within h
  rw [bandHigh_eq_zero h hcut] at hhigh
  exact le_antisymm hhigh ((le_max_right _ _).trans hlow)

/-- Settles O25: what the battery and the genset can give covers the net demand, so the band is not empty. -/
theorem setpointBandHoldsDesiredOutput : Obligations.SetpointBandHoldsDesiredOutput := by
  unfold Obligations.SetpointBandHoldsDesiredOutput
  rintro snap h f n rfl rfl
  have hb := combine_nonneg h
  have hn : (computePass snap (combine snap)).fig.n - (computePass snap (combine snap)).fig.regenCut =
      (passAllotment snap).demand := Int.add_sub_cancel _ _
  rw [hn]
  have hpp : Brought (-(combine snap).bc) (combine snap).bd (snap.cfg.kp * ((combine snap).s - snap.cfg.sTarget))
      (computePass snap (combine snap)).fig.pp :=
    clamp_brought _ _ _ (by have := hb.bc; have := hb.bd; linarith)
  obtain ⟨hbelow, habove, hinside⟩ := hpp
  have hband := band_ordered h
  exact ⟨hinside, hbelow, habove, rfl, rfl, hband, clamp_within _ _ _ hband, (clamp_brought _ _ _ hband).2.2,
    bandHigh_eq_zero h, passAllotment_demand_le h⟩

theorem mem_admissible {q : Power} : q ∈ admissible snap ↔
    q ∈ snap.cfg.points.toList.take snap.cfg.pointCount.toNat ∨
      (q = 0 ∧ (snap.genset = .running ∨ snap.genset = .warmup)) := by
  unfold admissible ConfigSet.usedPoints
  split
  · next h =>
    simp only [Bool.or_eq_true, decide_eq_true_eq] at h
    simp [h, or_comm]
  · next h =>
    simp only [Bool.or_eq_true, decide_eq_true_eq] at h
    simp [h]

/-- Settles O26: the choice among the admissible points keeps the nearer of two, the lower where both are as near. -/
theorem setpointIsNearestAdmissiblePoint : Obligations.SetpointIsNearestAdmissiblePoint := by
  unfold Obligations.SetpointIsNearestAdmissiblePoint
  rintro snap h f rfl
  have hwithin := fig_gset_within h
  refine ⟨fun hgav => ?_, fun hgav => (chooseSetpoint_spec hgav).1, fun hgav hnone => ?_, fun q => mem_admissible, hwithin,
    hwithin.2.trans (min_le_left _ _)⟩
  · have hchoice : chooseSetpoint snap (combine snap).gav (bandLow snap) (bandHigh snap) (desiredOutput snap) = (0, false) :=
      if_pos hgav
    exact ⟨congrArg Prod.fst hchoice, congrArg Prod.snd hchoice⟩
  · have hchoice := (chooseSetpoint_spec (gd := desiredOutput snap) hgav).2 hnone
    exact ⟨congrArg Prod.snd hchoice, congrArg Prod.fst hchoice⟩

theorem fig_n (snap : Snapshot) : (computePass snap (combine snap)).fig.n =
    (passAllotment snap).demand + (computePass snap (combine snap)).fig.regenCut := rfl

theorem fig_tg (snap : Snapshot) : (computePass snap (combine snap)).fig.tg =
    (passAllotment snap).tg + (computePass snap (combine snap)).fig.regenCut := rfl

theorem fig_pb (snap : Snapshot) : (computePass snap (combine snap)).fig.pb =
    (computePass snap (combine snap)).fig.n - (computePass snap (combine snap)).fig.gset := rfl

theorem fig_regenCut_of_no_cut (hcut : 0 ≤ (passAllotment snap).demand + (combine snap).bc) :
    (computePass snap (combine snap)).fig.regenCut = 0 := by
  rw [fig_regenCut, if_neg (not_lt.mpr hcut)]

theorem fig_regenCut_of_cut (h : snap.Sound) (hcut : (passAllotment snap).demand + (combine snap).bc < 0) :
    (computePass snap (combine snap)).fig.regenCut = -(combine snap).bc - (passAllotment snap).demand := by
  rw [fig_regenCut, if_pos hcut, fig_gset_of_cut h hcut, sub_zero]

/-- A cut takes more regeneration than the loads ask for: what is left of traction is regeneration. -/
theorem fig_tg_of_cut (h : snap.Sound) (hcut : (passAllotment snap).demand + (combine snap).bc < 0) :
    (computePass snap (combine snap)).fig.tg ≤ 0 := by
  obtain ⟨-, hgrants⟩ := passAllotment_le_pool h
  have hbc := (combine_nonneg h).bc
  rw [fig_tg, fig_regenCut_of_cut h hcut, Allotment.demand]
  linarith

theorem fig_pb_within (h : snap.Sound) :
    -(combine snap).bc ≤ (computePass snap (combine snap)).fig.pb ∧ (computePass snap (combine snap)).fig.pb ≤ (combine snap).bd := by
  obtain ⟨hbd, hbc, -, -, -⟩ := combine_nonneg h
  rw [fig_pb, fig_n]
  by_cases hcut : (passAllotment snap).demand + (combine snap).bc < 0
  · rw [fig_gset_of_cut h hcut, fig_regenCut_of_cut h hcut]
    exact ⟨by linarith, by linarith⟩
  · have hno := not_lt.mp hcut
    obtain ⟨hlow, hhigh⟩ := fig_gset_within h
    have hgive : (passAllotment snap).demand - (combine snap).bd ≤ bandLow snap := le_max_left _ _
    have htake : bandHigh snap ≤ max ((passAllotment snap).demand + (combine snap).bc) 0 := min_le_right _ _
    rw [max_eq_left hno] at htake
    rw [fig_regenCut_of_no_cut hno]
    exact ⟨by linarith, by linarith⟩

theorem fig_traction_le_pool (h : snap.Sound) :
    sumGrants (passAllotment snap).grants + max (computePass snap (combine snap)).fig.tg 0 ≤ passPool snap := by
  obtain ⟨hpool, -⟩ := passAllotment_le_pool h
  by_cases hcut : (passAllotment snap).demand + (combine snap).bc < 0
  · have hle : 0 ≤ max (passAllotment snap).tg 0 := le_max_right _ _
    rw [max_eq_right (fig_tg_of_cut h hcut)]
    linarith
  · rwa [fig_tg, fig_regenCut_of_no_cut (not_lt.mp hcut), add_zero]

/-- Settles O27: the setpoint lies in the band, whose ends are what the battery can give and take. -/
theorem batteryPowerStaysWithinLimits : Obligations.BatteryPowerStaysWithinLimits := by
  unfold Obligations.BatteryPowerStaysWithinLimits
  rintro snap h f n al rfl rfl rfl
  obtain ⟨hbd, hbc, -, -, -⟩ := combine_nonneg h
  obtain ⟨hlow, hhigh⟩ := fig_pb_within h
  refine ⟨rfl, hlow, hhigh, hbd, hbc, fun hno => ?_, fun hcut => ?_, rfl, rfl, fig_traction_le_pool h⟩
  · have hzero := fig_regenCut_of_no_cut hno
    refine ⟨hzero, decide_eq_false (not_lt.mpr hno), ?_, ?_⟩
    · rw [fig_n, hzero, add_zero]
      rfl
    · rw [fig_tg, hzero, add_zero]
      rfl
  · have hcutBy := fig_regenCut_of_cut h hcut
    have hgset := fig_gset_of_cut h hcut
    have hn : (computePass snap (combine snap)).fig.n = -(combine snap).bc := by
      rw [fig_n, hcutBy, add_sub_cancel]
    refine ⟨hcutBy, decide_eq_true hcut, hn, ?_, rfl, fig_tg_of_cut h hcut, hgset⟩
    rw [fig_pb, hn, hgset]
    exact sub_zero _

end Sys2Proof.Machine
end

section
/-! PROOFS. The answers of a completion: grants kept to request, steps and floor, and fitted where the record changed
(R84, R90 to R95). -/

namespace Sys2Proof.Machine

-- A default proof `by decide` waits for the kernel: side by side the proofs would ask for a thread each.
set_option Elab.async false

variable {snap : Snapshot} {l : LoadFields}

/-! ## A LOAD image -/

theorem Image.ask_of_load {img : Image} (h : img.body = .load l) :
    img.primary = l.request ∧ img.floor = l.floor ∧ img.steps = l.steps.listed := by
  simp [primary, floor, steps, h]

theorem Image.fieldOf_of_load {img : Image} (h : img.body = .load l) :
    img.fieldOf .request = l.request ∧ img.fieldOf .floor = l.floor := by
  simp [fieldOf, h]

theorem sameAsk_iff {a b : Image} {l m : LoadFields} (ha : a.body = .load l) (hb : b.body = .load m) :
    sameAsk a b = true ↔ a.SameAsk b := by
  obtain ⟨hprimary, hfloor, -⟩ := Image.ask_of_load ha
  obtain ⟨hprimary', hfloor', -⟩ := Image.ask_of_load hb
  obtain ⟨hrequest, hfield⟩ := Image.fieldOf_of_load ha
  obtain ⟨hrequest', hfield'⟩ := Image.fieldOf_of_load hb
  simp only [sameAsk, Image.SameAsk, hprimary, hfloor, hprimary', hfloor', hrequest, hfield, hrequest', hfield',
    Bool.and_eq_true, decide_eq_true_eq, and_assoc]

/-- The step list is empty where no step counts. -/
theorem StepList.listed_eq_nil {s : StepList} : s.listed = [] ↔ s.count = 0 := by
  rw [listed, List.take_eq_nil_iff]
  refine or_iff_left fun h => ?_
  have hlength := congrArg List.length h
  simp at hlength

/-! ## A grant that serves its load (R92 to R94) -/

/-- A grant keeps to what its load asks for: between 0 and the request, 0 or a step, 0 or not below the floor. -/
structure LoadClaim.Serves (c : LoadClaim) (g : Power) : Prop where
  nonneg : 0 ≤ g
  le_request : g ≤ c.request
  step : c.steps ≠ [] → g = 0 ∨ g ∈ c.steps
  floor : g ≠ 0 → c.floor ≤ g

theorem LoadClaim.Serves.congr {c c' : LoadClaim} {g : Power} (h : c.Serves g) (hrequest : c'.request = c.request)
    (hfloor : c'.floor = c.floor) (hsteps : c'.steps = c.steps) : c'.Serves g :=
  ⟨h.nonneg, hrequest ▸ h.le_request, hsteps ▸ h.step, hfloor ▸ h.floor⟩

/-- A floor is one of the steps, where there are both. -/
def LoadClaim.FloorListed (c : LoadClaim) : Prop := c.steps = [] ∨ c.floor = 0 ∨ c.floor ∈ c.steps

theorem SnapsTo.step {steps : List Power} {x g : Power} (h : SnapsTo steps x g) (hne : steps ≠ []) : g = 0 ∨ g ∈ steps :=
  (h.2 hne).elim (fun hstep => .inr hstep.1) (fun hzero => .inl hzero.1)

/-- Snapping does not take a grant below its floor, where that is one of the steps. -/
theorem SnapsTo.floor_le {c : LoadClaim} {x g : Power} (h : SnapsTo c.steps x g) (hlisted : c.FloorListed) (hx : c.floor ≤ x)
    (hg : 0 ≤ g) : c.floor ≤ g := by
  obtain hnil | hzero | hmem := hlisted
  · rwa [h.1 hnil]
  · rwa [hzero]
  · obtain ⟨-, -, hlargest⟩ | ⟨-, habove⟩ := h.2 (List.ne_nil_of_mem hmem)
    · exact hlargest _ hmem hx
    · exact absurd hx (not_le.mpr (habove _ hmem))

theorem tierGrants_serves {x : Power} {cs : List LoadClaim} (hx : 0 ≤ x) (hcs : ∀ c ∈ cs, c.Proper)
    (hlisted : ∀ c ∈ cs, c.FloorListed) : ∀ g ∈ tierGrants x cs, g.1.Serves g.2 := by
  intro g hg
  obtain ⟨hnonneg, hle⟩ := (tierGrants_bounds hx hcs).2 g hg
  have hrem := (serveFloors_rest x cs).2 hx
  obtain ⟨p, hp, rfl⟩ := List.mem_map.mp hg
  obtain ⟨hproper, hfloor⟩ := serveFloors_proper hcs hp
  have hclaim : p.1 ∈ cs := by
    rw [← serveFloors_claims x cs]
    exact List.mem_map_of_mem hp
  have hsnaps := snapTo_snapsTo hproper.steps (shareOf (serveFloors x cs).2 (totalExcess (serveFloors x cs).1) p)
  refine ⟨hnonneg, hle, hsnaps.step, fun hne => ?_⟩
  by_cases hfloored : p.2 = .floored
  · obtain ⟨-, -, hshare, -⟩ := shareOf_bounds (e := totalExcess (serveFloors x cs).1) hrem hproper hfloor
    rw [floorOf, if_pos hfloored] at hshare
    exact hsnaps.floor_le (hlisted _ hclaim) hshare hnonneg
  · refine absurd ?_ hne
    dsimp only
    rw [shareOf_not_floored _ _ hfloored, snapTo_zero hproper.steps]

theorem allot_grants_serve {p : Power} (hp : 0 ≤ p) (tm : Power) {cs : List LoadClaim} (hcs : ∀ c ∈ cs, c.Proper)
    (hlisted : ∀ c ∈ cs, c.FloorListed) : ∀ x ∈ (allot p tm cs).grants, x.1.Serves x.2 := by
  intro x hx
  obtain ⟨t, ht⟩ := mem_allot_grants hx
  exact tierGrants_serves (tierPool_nonneg hp tm hcs t) (ofTier_proper hcs t)
    (fun c hc => hlisted c (List.mem_filter.mp hc).1) x ht

theorem LoadClaim.ofFields_floorListed {r : Record} (h : r.Sound) (hl : r.image.body = .load l) (i : SlotNo) :
    (LoadClaim.ofFields i l).FloorListed := by
  obtain ⟨-, q, -, -, -, hnil | hlisted⟩ := h.load hl
  · exact .inl hnil
  · cases hf : l.floor with
    | none => exact .inr (.inl (by simp [ofFields, hf]))
    | some f => exact .inr (.inr (by simpa [ofFields, hf] using hlisted f hf))

theorem participants_floorListed (h : snap.Sound) : ∀ c ∈ participants snap, c.FloorListed := by
  intro c hc
  obtain ⟨r, l, hlive, hl, -, hclaim⟩ := claimOf_eq_some.mp (mem_participants.mp hc)
  rw [hclaim]
  exact LoadClaim.ofFields_floorListed (h.1 _ r (by rw [hlive]; rfl)) hl _

theorem passAllotment_serves (h : snap.Sound) : ∀ x ∈ (passAllotment snap).grants, x.1.Serves x.2 :=
  allot_grants_serve (passPool_nonneg h) _ (participants_proper h) (participants_floorListed h)

/-! ## The computed answers (R90, R95) -/

theorem computePass_grants_eq (snap : Snapshot) (i : SlotNo) :
    (computePass snap (combine snap)).grants[i] = computedAnswer snap (passAllotment snap) i := by
  simp only [computePass, Fin.getElem_fin, Vector.getElem_ofFn, Fin.eta]
  rfl

theorem passAllotment_claim {x : LoadClaim × Power} (hx : x ∈ (passAllotment snap).grants) : x.1 ∈ participants snap := by
  obtain ⟨t, ht⟩ := mem_allot_grants hx
  exact (grantsOfTier_tier ht).1

theorem passAllotment_granted (h : snap.Sound) {c : LoadClaim} (hc : c ∈ participants snap) :
    ∃ x ∈ (passAllotment snap).grants, x.1 = c := by
  have htiers : ∀ k ∈ participants snap, k.tier ≤ 3 := by
    intro k hk
    obtain ⟨r, l, hlive, hl, -, hclaim⟩ := claimOf_eq_some.mp (mem_participants.mp hk)
    rw [hclaim]
    exact ((h.1 _ r (by rw [hlive]; rfl)).load hl).1.2.2.1
  have hmem := (tiers_perm htiers).mem_iff.mpr hc
  rw [← map_fst_allot_grants (passPool snap) (tractionRequest snap)] at hmem
  exact List.mem_map.mp hmem

/-- The loads of the allotment with a slot are the slot's own LIVE LOAD. -/
theorem passAllotment_claim_of_slot {i : SlotNo} {r : Record} (hc : snap.slots[i].content = .live r)
    (hl : r.image.body = .load l) {x : LoadClaim × Power} (hx : x ∈ (passAllotment snap).grants) (hslot : x.1.slot = i) :
    x.1 = .ofFields i l ∧ (snap.mode = .park → l.parkCapable = true) := by
  subst hslot
  obtain ⟨q, m, hlive, hm, hcap, hclaim⟩ := claimOf_eq_some.mp (mem_participants.mp (passAllotment_claim hx))
  obtain rfl := Content.live.inj (hc.symm.trans hlive)
  obtain rfl := Body.load.inj (hl.symm.trans hm)
  exact ⟨hclaim, hcap⟩

theorem computedAnswer_stale {al : Allotment} {i : SlotNo} {r : Record} (hc : snap.slots[i].content = .stale r)
    (hload : r.ident.cls = .load) : computedAnswer snap al i = some { grant := 0, reason := .staleZero } := by
  rw [computedAnswer, hc]
  exact if_pos hload

/-- The answer of a LIVE LOAD by what the allotment holds for its slot. -/
theorem computedAnswer_live {al : Allotment} {i : SlotNo} {r : Record} (hc : snap.slots[i].content = .live r)
    (hload : r.ident.cls = .load) :
    (∃ x ∈ al.grants, x.1.slot = i ∧
      computedAnswer snap al i = some { grant := x.2, reason := reasonOf x.2 x.1.request }) ∨
    (∀ x ∈ al.grants, x.1.slot ≠ i) ∧ computedAnswer snap al i = some { grant := 0, reason := .parkDormant } := by
  have hanswer : computedAnswer snap al i =
      match al.grants.find? fun g => g.1.slot = i with
      | some g => some { grant := g.2, reason := reasonOf g.2 g.1.request }
      | none => some { grant := 0, reason := .parkDormant } := by
    unfold computedAnswer
    rw [hc]
    exact if_pos hload
  rw [hanswer]
  cases hfind : al.grants.find? fun g => g.1.slot = i with
  | some x => exact .inl ⟨x, List.mem_of_find?_eq_some hfind, by simpa using List.find?_some hfind, rfl⟩
  | none => exact .inr ⟨by simpa using hfind, rfl⟩

theorem Record.Sound.cls_of_load {r : Record} (h : r.Sound) (hl : r.image.body = .load l) : r.ident.cls = .load :=
  (Image.hasKind_of_inRange h.1).cls_of_body.2.1 l hl

theorem Record.Sound.load_body {r : Record} (h : r.Sound) (hload : r.ident.cls = .load) : ∃ l, r.image.body = .load l := by
  have hkind := Image.hasKind_of_inRange h.1
  rw [hload] at hkind
  obtain ⟨hcls, -⟩ | ⟨-, hbody⟩ | ⟨q, hcls, -⟩ | ⟨q, hcls, -⟩ := Image.hasKind_cases hkind
  · nomatch hcls
  · exact hbody
  · nomatch hcls
  · nomatch hcls

/-- The answer of a LIVE LOAD that takes part: its grant of the allotment. -/
theorem computedAnswer_granted (h : snap.Sound) {i : SlotNo} {r : Record} (hc : snap.slots[i].content = .live r)
    (hl : r.image.body = .load l) (hcap : snap.mode = .park → l.parkCapable = true) :
    ∃ x ∈ (passAllotment snap).grants, x.1 = .ofFields i l ∧
      computedAnswer snap (passAllotment snap) i = some { grant := x.2, reason := reasonOf x.2 x.1.request } := by
  have hload := (h.1 i r (by rw [hc]; rfl)).cls_of_load hl
  obtain ⟨x, hx, hslot, hanswer⟩ | ⟨hnone, -⟩ := computedAnswer_live (al := passAllotment snap) hc hload
  · exact ⟨x, hx, (passAllotment_claim_of_slot hc hl hx hslot).1, hanswer⟩
  · obtain ⟨x, hx, hclaim⟩ := passAllotment_granted h (c := .ofFields i l)
      (mem_participants.mpr (claimOf_eq_some.mpr ⟨r, l, hc, hl, hcap, rfl⟩))
    exact absurd (congrArg LoadClaim.slot hclaim) (hnone x hx)

/-- The answer of a LIVE LOAD that is not park-capable, in PARK. -/
theorem computedAnswer_dormant (h : snap.Sound) {i : SlotNo} {r : Record} (hc : snap.slots[i].content = .live r)
    (hl : r.image.body = .load l) (hpark : snap.mode = .park) (hcap : l.parkCapable = false) :
    computedAnswer snap (passAllotment snap) i = some { grant := 0, reason := .parkDormant } := by
  have hload := (h.1 i r (by rw [hc]; rfl)).cls_of_load hl
  obtain ⟨x, hx, hslot, -⟩ | ⟨-, hanswer⟩ := computedAnswer_live (al := passAllotment snap) hc hload
  · have htakes := (passAllotment_claim_of_slot hc hl hx hslot).2 hpark
    rw [hcap] at htakes
    nomatch htakes
  · exact hanswer

theorem reasonOf_allotted (g q : Power) : reasonOf g q ≠ .staleZero ∧ reasonOf g q ≠ .parkDormant := by
  unfold reasonOf
  split
  · exact ⟨nofun, nofun⟩
  · split <;> exact ⟨nofun, nofun⟩

/-- A computed answer is 0 with the mark of a load that takes no part, or a grant of the allotment to the slot's LOAD. -/
theorem computedAnswer_cases (h : snap.Sound) {i : SlotNo} {a : Answer}
    (ha : computedAnswer snap (passAllotment snap) i = some a) :
    (a.grant = 0 ∧ (a.reason = .staleZero ∨ a.reason = .parkDormant)) ∨
      ∃ (r : Record) (l : LoadFields), snap.slots[i].content = .live r ∧ r.image.body = .load l ∧
        (LoadClaim.ofFields i l).Serves a.grant ∧ a.reason ≠ .staleZero ∧ a.reason ≠ .parkDormant := by
  obtain ⟨r, hc | hc, hload⟩ := computedAnswer_load ha
  · have hsound := h.1 i r (by rw [hc]; rfl)
    obtain ⟨x, hx, hslot, hanswer⟩ | ⟨-, hanswer⟩ := computedAnswer_live (al := passAllotment snap) hc hload
    · obtain ⟨l, hl⟩ := hsound.load_body hload
      obtain rfl := Option.some.inj (hanswer.symm.trans ha)
      have hserves := passAllotment_serves h x hx
      rw [(passAllotment_claim_of_slot hc hl hx hslot).1] at hserves
      exact .inr ⟨r, l, hc, hl, hserves, reasonOf_allotted _ _⟩
    · obtain rfl := Option.some.inj (hanswer.symm.trans ha)
      exact .inl ⟨rfl, .inr rfl⟩
  · obtain rfl := Option.some.inj ((computedAnswer_stale hc hload).symm.trans ha)
    exact .inl ⟨rfl, .inl rfl⟩

/-! ## The written answers (R84) -/

/-- What a completion writes for a slot held under the generation of the snapshot. -/
theorem writtenAnswer_eq {p : Pass} {i : SlotNo} {now : Slot} {old : Record} {g : Answer}
    (hgen : p.snap.slots[i].generation = now.generation) (hold : p.snap.slots[i].content.record? = some old)
    (hg : p.grants[i] = some g) :
    (∀ r, now.content = .live r ∨ now.content = .stale r → writtenAnswer p i now = some (fitAnswer old.image r.image g)) ∧
      ∀ r m, now.content = .retiring r m → writtenAnswer p i now = some { grant := 0, reason := .retiringZero } := by
  unfold writtenAnswer
  rw [if_pos hgen, hg, hold]
  refine ⟨fun r hr => ?_, fun r m hr => ?_⟩
  · obtain hr | hr := hr <;> rw [hr]
  · rw [hr]

/-- What a completion writes for a slot rests on an answer computed for the record that the snapshot holds there. -/
theorem writtenAnswer_some {p : Pass} {i : SlotNo} {now : Slot} {a : Answer} (h : writtenAnswer p i now = some a) :
    p.snap.slots[i].generation = now.generation ∧
      ∃ old g, p.snap.slots[i].content.record? = some old ∧ p.grants[i] = some g := by
  unfold writtenAnswer at h
  split at h
  · next hgen =>
    refine ⟨hgen, ?_⟩
    cases hg : p.grants[i] with
    | none => simp [hg] at h
    | some g =>
      rw [hg] at h
      generalize p.snap.slots[i].content.record? = o at h ⊢
      cases o with
      | none => nomatch h
      | some old => exact ⟨old, g, rfl, rfl⟩
  · nomatch h

theorem fitAnswer_of_stands {old now : Image} {g : Answer}
    (h : g.reason = .staleZero ∨ g.reason = .parkDormant ∨ sameAsk old now = true) : fitAnswer old now g = g := by
  unfold fitAnswer
  exact if_pos (by simpa [or_assoc] using h)

theorem fitAnswer_of_changed {old now : Image} {g : Answer} (hstale : g.reason ≠ .staleZero) (hdormant : g.reason ≠ .parkDormant)
    (hask : sameAsk old now = false) : fitAnswer old now g =
      { grant := fitGrant now g.grant, reason := reasonOf (fitGrant now g.grant) (now.primary.getD 0) } := by
  unfold fitAnswer
  exact if_neg (by simp [hstale, hdormant, hask])

/-- The grant that a fit snaps, before it is held against the floor. -/
def fitted (l : LoadFields) (q g : Power) : Power := snapTo l.steps.listed (min g q)

theorem fitGrant_of_load {img : Image} (hl : img.body = .load l) {q : Power} (hq : l.request = some q) (g : Power) :
    fitGrant img g = if ∃ f ∈ l.floor, fitted l q g < f then 0 else fitted l q g := by
  obtain ⟨hprimary, hfloor, hsteps⟩ := Image.ask_of_load hl
  simp only [fitGrant, fitted, hprimary, hfloor, hsteps, hq, Option.getD_some]
  cases l.floor <;> simp

theorem fitGrant_fits {img : Image} (hl : img.body = .load l) {q g : Power} (hq : l.request = some q)
    (hpos : ∀ y ∈ l.steps.listed, 0 < y) :
    ∃ x : Power, SnapsTo l.steps.listed (min g q) x ∧ fitGrant img g = if ∃ f ∈ l.floor, x < f then 0 else x :=
  ⟨fitted l q g, snapTo_snapsTo hpos _, fitGrant_of_load hl hq g⟩

theorem ofFields_serves_fitGrant {img : Image} (hl : img.body = .load l) {q g : Power} (hq : l.request = some q)
    (hpos : ∀ y ∈ l.steps.listed, 0 < y) (hq0 : 0 ≤ q) (hg : 0 ≤ g) (i : SlotNo) :
    (LoadClaim.ofFields i l).Serves (fitGrant img g) := by
  obtain ⟨x, hx, hfit⟩ := fitGrant_fits (g := g) hl hq hpos
  obtain ⟨hnonneg, hle⟩ := hx.bounds hpos (le_min hg hq0)
  have hrequest : (LoadClaim.ofFields i l).request = q := by simp [LoadClaim.ofFields, hq]
  rw [hfit]
  split
  · exact ⟨le_rfl, hrequest ▸ hq0, fun _ => .inl rfl, fun h => absurd rfl h⟩
  · next hfloor =>
    refine ⟨hnonneg, hrequest ▸ hle.trans (min_le_right _ _), hx.step, fun _ => ?_⟩
    cases hf : l.floor with
    | none => simpa [LoadClaim.ofFields, hf] using hnonneg
    | some f => simpa [LoadClaim.ofFields, hf] using hfloor

/-- The answer written for a sound LOAD that is LIVE or STALE keeps to what it then asks for. -/
theorem fitAnswer_serves {old now : Image} {i : SlotNo} {g : Answer} {m : LoadFields} (hm : now.body = .load m)
    {q : Power} (hq : m.request = some q) (hq0 : 0 ≤ q) (hpos : ∀ y ∈ m.steps.listed, 0 < y)
    (hg : (g.grant = 0 ∧ (g.reason = .staleZero ∨ g.reason = .parkDormant)) ∨
      ∃ l, old.body = .load l ∧ (LoadClaim.ofFields i l).Serves g.grant ∧ g.reason ≠ .staleZero ∧ g.reason ≠ .parkDormant) :
    (LoadClaim.ofFields i m).Serves (fitAnswer old now g).grant := by
  have hrequest : (LoadClaim.ofFields i m).request = q := by simp [LoadClaim.ofFields, hq]
  obtain ⟨hzero, hstands⟩ | ⟨l, hl, hserves, hstale, hdormant⟩ := hg
  · rw [fitAnswer_of_stands (or_assoc.mp (.inl hstands)), hzero]
    exact ⟨le_rfl, hrequest ▸ hq0, fun _ => .inl rfl, fun h => absurd rfl h⟩
  · cases hask : sameAsk old now with
    | true =>
      obtain ⟨hrequests, hfloors, hsteps⟩ := (sameAsk_iff hl hm).mp hask
      rw [(Image.fieldOf_of_load hl).1, (Image.fieldOf_of_load hm).1] at hrequests
      rw [(Image.fieldOf_of_load hl).2, (Image.fieldOf_of_load hm).2] at hfloors
      rw [(Image.ask_of_load hl).2.2, (Image.ask_of_load hm).2.2] at hsteps
      rw [fitAnswer_of_stands (.inr (.inr hask))]
      refine hserves.congr ?_ ?_ ?_ <;> simp [LoadClaim.ofFields, hrequests, hfloors, hsteps]
    | false =>
      rw [fitAnswer_of_changed hstale hdormant hask]
      exact ofFields_serves_fitGrant hm hq hpos hq0 hserves.nonneg i

/-- Settles O22: a computed grant keeps to what the snapshot asks for, and is fitted where the record asks otherwise now. -/
theorem grantsStayWithinRequest : Obligations.GrantsStayWithinRequest := by
  unfold Obligations.GrantsStayWithinRequest
  intro snap i now a h ha
  obtain ⟨hgen, old, g, hold, hg⟩ := writtenAnswer_some ha
  obtain ⟨hused, hretiring⟩ := writtenAnswer_eq hgen hold hg
  refine ⟨fun r l q hr hsound hl hq => ?_, fun r m hr => Option.some.inj (ha.symm.trans (hretiring r m hr))⟩
  obtain rfl := Option.some.inj (ha.symm.trans (hused r hr))
  obtain ⟨hrange, -⟩ := hsound.load hl
  have hq0 : 0 ≤ q := (hrange.1 q hq).1
  have hserves : (LoadClaim.ofFields i l).Serves (fitAnswer old.image r.image g).grant := by
    refine fitAnswer_serves hl hq hq0 hrange.listed_pos ?_
    refine (computedAnswer_cases h ((computePass_grants_eq snap i).symm.trans hg)).imp_right ?_
    rintro ⟨o, m, hlive, hm, hgrant⟩
    have ho : some o = some old := (congrArg Content.record? hlive).symm.trans hold
    obtain rfl := Option.some.inj ho
    exact ⟨m, hm, hgrant⟩
  have hrequest : (LoadClaim.ofFields i l).request = q := by simp [LoadClaim.ofFields, hq]
  refine ⟨hserves.nonneg, hrequest ▸ hserves.le_request,
    fun hcount => hserves.step fun hnil => hcount (StepList.listed_eq_nil.mp hnil), fun f hf hne => ?_⟩
  have hfloor : l.floor.getD 0 ≤ (fitAnswer old.image r.image g).grant := hserves.floor hne
  rwa [hf] at hfloor

theorem computedAnswer_none {al : Allotment} {i : SlotNo} (h : snap.slots[i].content.isUsed = false ∨
    ∀ r, snap.slots[i].content.record? = some r → r.ident.cls ≠ .load) : computedAnswer snap al i = none := by
  rw [Option.eq_none_iff_forall_ne_some]
  intro a ha
  obtain ⟨r, hc, hload⟩ := computedAnswer_load ha
  obtain hunused | hnot := h
  · rw [isUsed_of_or hc] at hunused
    nomatch hunused
  · refine hnot r ?_ hload
    obtain hc | hc := hc <;> rw [hc] <;> rfl

theorem completed_slot_of_unmarked (p : Pass) {d : Device} {i : SlotNo} (h : (d.slot i).content.isMarked = false) :
    (completed p d).slot i = (d.slot i).granted (writtenAnswer p i (d.slot i)) := by
  rw [(completed_sameTable p d).slot, publishPass_slot, h]
  rfl

theorem granted_record?_some {s : Slot} {r : Record} (h : s.content.record? = some r) (o : Option Answer) :
    (s.granted o).content.record? = some { r with answer := o.or r.answer } := by
  cases o with
  | none => exact h
  | some a =>
    simp only [Slot.granted]
    cases hc : s.content <;> rw [hc] at h <;> cases h
    all_goals rfl

theorem writtenAnswer_none {p : Pass} {i : SlotNo} {now : Slot}
    (h : p.snap.slots[i].generation ≠ now.generation ∨ p.grants[i] = none) : writtenAnswer p i now = none := by
  rw [Option.eq_none_iff_forall_ne_some]
  intro a ha
  obtain ⟨hgen, -, g, -, hg⟩ := writtenAnswer_some ha
  obtain hne | hnone := h
  · exact hne hgen
  · rw [hnone] at hg
    nomatch hg

theorem Content.used_of_record? {c : Content} {r : Record} (h : c.record? = some r) (hused : c.isUsed = true) :
    c = .live r ∨ c = .stale r := by
  cases c with
  | live q | stale q => cases h; simp
  | free | draft _ _ | retiring _ _ => nomatch hused

theorem Content.retiring_of_record? {c : Content} {r : Record} (h : c.record? = some r) (hretiring : c.isRetiring = true) :
    ∃ m, c = .retiring r m := by
  cases c with
  | retiring q m => cases h; exact ⟨m, rfl⟩
  | free | draft _ _ | live _ | stale _ => nomatch hretiring

/-- A record of the snapshot that an answer was computed for is a LOAD. -/
theorem computedAnswer_body (h : snap.Sound) {i : SlotNo} {a : Answer} {old : Record}
    (ha : computedAnswer snap (passAllotment snap) i = some a) (hold : snap.slots[i].content.record? = some old) :
    ∃ m, old.image.body = .load m := by
  obtain ⟨r, hc, hload⟩ := computedAnswer_load ha
  have hr : snap.slots[i].content.record? = some r := by obtain hc | hc := hc <;> rw [hc] <;> rfl
  obtain rfl := Option.some.inj (hr.symm.trans hold)
  exact (h.1 i r hr).load_body hload

/-- Settles O23: the answer of each slot as computed, and written to the record that the slot still holds. -/
theorem completionWritesAnswers : Obligations.CompletionWritesAnswers := by
  unfold Obligations.CompletionWritesAnswers
  refine ⟨?_, fun s p hp hawake hpass => ?_⟩
  · rintro snap p i h rfl
    rw [computePass_grants_eq]
    refine ⟨fun r hc hload => computedAnswer_stale hc hload, fun r l q hc hl hq => ⟨computedAnswer_dormant h hc hl, ?_⟩,
      computedAnswer_none⟩
    intro htakes
    obtain ⟨x, hx, hclaim, hanswer⟩ := computedAnswer_granted h hc hl fun hpark => htakes.resolve_left (not_not.mpr hpark)
    refine ⟨x, hx, hclaim, _, hanswer, rfl, ?_⟩
    have hrequest : x.1.request = q := by simp [hclaim, LoadClaim.ofFields, hq]
    rw [hrequest]
    rfl
  · have hact : actOf .passCompletion s.dev = completed p s.dev := passCompletion_of_awake hp hawake
    refine ⟨completed p s.dev, (exec_eq _ s).trans (by rw [hact]), fun i r hr hmarked => ?_⟩
    obtain ⟨heq, hsnap⟩ := hpass p hp
    have hgrants : p.grants[i] = computedAnswer p.snap (passAllotment p.snap) i := by
      have hcomputed := computePass_grants_eq p.snap i
      rwa [← heq] at hcomputed
    refine ⟨{ r with answer := (writtenAnswer p i (s.dev.slot i)).or r.answer }, ?_, rfl, rfl, fun hnone => ?_,
      fun old a hold hg hgen => ?_⟩
    · rw [completed_slot_of_unmarked p hmarked]
      exact granted_record?_some hr _
    · have hwritten : writtenAnswer p i (s.dev.slot i) = none :=
        writtenAnswer_none (or_left_comm.mp hnone |>.imp_right fun h =>
          h.elim (fun hunused => hgrants.trans (computedAnswer_none (.inl hunused))) id)
      rw [hwritten]
      rfl
    · obtain ⟨hwritten, hzero⟩ := writtenAnswer_eq hgen hold hg
      refine ⟨fun hretiring => ?_, fun hused l q hl hq => ?_⟩
      · obtain ⟨m, hm⟩ := Content.retiring_of_record? hr hretiring
        rw [hzero r m hm]
        rfl
      · obtain ⟨m, hm⟩ := computedAnswer_body hsnap (hgrants.symm.trans hg) hold
        rw [hwritten r (Content.used_of_record? hr hused), ← sameAsk_iff hm hl]
        refine ⟨fun hstands => ?_, fun hchanged hstale hdormant hpos => ⟨_, rfl, ?_⟩⟩
        · rw [fitAnswer_of_stands (by tauto)]
          rfl
        · rw [fitAnswer_of_changed hstale hdormant (by simpa using hchanged), (Image.ask_of_load hl).1, hq]
          exact ⟨fitGrant_fits hl hq hpos, rfl⟩

end Sys2Proof.Machine
end

section
/-! PROOFS. The combination of a snapshot, and the beginning of a pass on it (R66 to R76, R81, R87 to R89). -/

namespace Sys2Proof.Machine

-- A default proof `by decide` waits for the kernel: side by side the proofs would ask for a thread each.
set_option Elab.async false

variable {snap : Snapshot} {d : Device}

/-! ## The records of a class that is held once (R18, R72 to R74, R87) -/

/-- What a slot gives to a class: the primary value of its LIVE or STALE record, and whether that is STALE. -/
def heldValue (c : RecordClass) (s : Slot) : Option (Int × Bool) :=
  match s.content with
  | .live r => if r.ident.cls = c then some (r.image.primary.getD 0, false) else none
  | .stale r => if r.ident.cls = c then some (r.image.primary.getD 0, true) else none
  | _ => none

theorem measured_eq (q : MeasureQty) : measured q = heldValue (.measure q) := rfl

theorem demandOf_eq : demandOf = heldValue .demand := rfl

theorem heldValue_eq_some {c : RecordClass} {s : Slot} {v : Int} {st : Bool} :
    heldValue c s = some (v, st) ↔ ∃ r : Record, r.ident.cls = c ∧ r.image.primary.getD 0 = v ∧
      s.content = if st then .stale r else .live r := by
  unfold heldValue
  cases s.content with
  | live r | stale r => cases st <;> by_cases h : r.ident.cls = c <;> simp [h]
  | free | draft _ _ | retiring _ _ => cases st <;> simp

/-- A sound snapshot's records of a class, slot by slot. -/
theorem holds_iff (h : snap.Sound) {c : RecordClass} {st : Bool} {v : Int} :
    snap.Holds c c.primary st v ↔ ∃ i : SlotNo, heldValue c snap.slots[i] = some (v, st) := by
  refine exists_congr fun i => ?_
  rw [heldValue_eq_some]
  refine exists_congr fun r => and_congr_right fun hcls => and_congr_left fun hc => ?_
  have hsound := h.1 i r (by rw [hc]; cases st <;> rfl)
  rw [← hcls, hsound.fieldOf_primary, Option.some.injEq]

/-- At most one slot of the snapshot holds a LIVE or STALE record of the class. -/
def Snapshot.HoldsOnce (snap : Snapshot) (c : RecordClass) : Prop :=
  ∀ i j : SlotNo, (heldValue c snap.slots[i]).isSome → (heldValue c snap.slots[j]).isSome → i = j

theorem heldValue_ident {c : RecordClass} {s : Slot} (h : (heldValue c s).isSome) :
    ∃ x ∈ s.content.ident?, x.cls = c := by
  obtain ⟨⟨v, st⟩, hv⟩ := Option.isSome_iff_exists.mp h
  obtain ⟨r, hcls, -, hc⟩ := heldValue_eq_some.mp hv
  refine ⟨r.ident, ?_, hcls⟩
  rw [hc]
  cases st <;> rfl

theorem takeSnapshot_holdsOnce (h : UniqueSound d) {c : RecordClass} (hc : c = .demand ∨ c.kindCode = 3) :
    (takeSnapshot d).HoldsOnce c := by
  intro i j hi hj
  by_contra hne
  obtain ⟨x, hx, hxc⟩ := heldValue_ident hi
  obtain ⟨y, hy, hyc⟩ := heldValue_ident hj
  have hexcludes := h i j hne x hx y hy
  obtain rfl | hkind := hc
  · simp [Identity.excludes, hxc, hyc] at hexcludes
  · simp [Identity.excludes, hxc, hyc, hkind] at hexcludes

/-- A search of the slots for a class that is held once finds what the snapshot holds. -/
theorem findSome?_heldValue (h : snap.Sound) {c : RecordClass} (honce : snap.HoldsOnce c) :
    (∀ st v, snap.Holds c c.primary st v → snap.slots.toList.findSome? (heldValue c) = some (v, st)) ∧
      (snap.slots.toList.findSome? (heldValue c) = none ↔ snap.Lacks c c.primary) := by
  constructor
  · intro st v hholds
    obtain ⟨i, hi⟩ := (holds_iff h).mp hholds
    cases hfind : snap.slots.toList.findSome? (heldValue c) with
    | none =>
      rw [List.findSome?_eq_none_iff] at hfind
      have hnone := hfind _ (mem_slots_toList.mpr ⟨i, rfl⟩)
      rw [hi] at hnone
      nomatch hnone
    | some x =>
      obtain ⟨s, hs, hx⟩ := List.exists_of_findSome?_eq_some hfind
      obtain ⟨j, rfl⟩ := mem_slots_toList.mp hs
      obtain rfl := honce i j (by rw [hi]; rfl) (by rw [hx]; rfl)
      rw [← hx, hi]
  · rw [List.findSome?_eq_none_iff]
    simp only [Snapshot.Lacks, holds_iff h, not_exists]
    constructor
    · intro hnone st v i hi
      rw [hnone _ (mem_slots_toList.mpr ⟨i, rfl⟩)] at hi
      nomatch hi
    · intro hlacks s hs
      obtain ⟨i, rfl⟩ := mem_slots_toList.mp hs
      exact Option.eq_none_iff_forall_ne_some.mpr fun x hx => hlacks x.2 x.1 i hx

theorem measure_eq (q : MeasureQty) : measure q snap = snap.slots.toList.findSome? (heldValue (.measure q)) := by
  rw [measure, measured_eq]

/-! ## The combination (R66 to R76) -/

theorem effectivePermit_iff (h : snap.Sound) : effectivePermit snap = true ↔
    (∀ x, snap.Offers .enginePermit x → x = 1) ∧
      ((∀ x, ¬snap.Offers .enginePermit x) → snap.cfg.absentPermit = 1) := by
  simp only [← mem_contributions h]
  unfold effectivePermit
  cases contributions .enginePermit snap with
  | nil => simp
  | cons v vs => simp only [List.all_eq_true, decide_eq_true_eq]; exact ⟨fun hall => ⟨hall, fun hnone => absurd List.mem_cons_self (hnone v)⟩, And.left⟩

theorem PowerQty.mem_all (q : PowerQty) : q ∈ [PowerQty.battDis, .battChg, .genMax, .motorDrive, .motorRegen] := by
  cases q <;> simp

theorem boundDefaulted_iff (h : snap.Sound) :
    (combine snap).boundDefaulted = true ↔ ∃ q : PowerQty, ∀ x, ¬snap.Offers (.power q) x := by
  have hdefaulted : (combine snap).boundDefaulted =
      !([PowerQty.battDis, .battChg, .genMax, .motorDrive, .motorRegen].all fun q => isPresent (.power q) snap) := rfl
  rw [hdefaulted, Bool.not_eq_true', List.all_eq_false]
  constructor
  · rintro ⟨q, -, hq⟩
    exact ⟨q, (isPresent_eq_false h).mp (Bool.not_eq_true _ ▸ hq)⟩
  · rintro ⟨q, hq⟩
    exact ⟨q, q.mem_all, by simp [(isPresent_eq_false h).mpr hq]⟩

theorem notPresent_iff (h : snap.Sound) {q : BoundQty} : (!isPresent q snap) = true ↔ ∀ x, ¬snap.Offers q x := by
  rw [Bool.not_eq_true', isPresent_eq_false h]

theorem measure_of_holds (h : snap.Sound) {q : MeasureQty} (honce : snap.HoldsOnce (.measure q)) {st : Bool} {v : Int}
    (hholds : snap.Holds (.measure q) .measureValue st v) : measure q snap = some (v, st) :=
  (measure_eq q).trans ((findSome?_heldValue h honce).1 st v hholds)

theorem measure_eq_none (h : snap.Sound) {q : MeasureQty} (honce : snap.HoldsOnce (.measure q)) :
    measure q snap = none ↔ snap.Lacks (.measure q) .measureValue := by
  rw [measure_eq]
  exact (findSome?_heldValue h honce).2

/-- The PARK overrides (R75). -/
theorem combine_park (hpark : snap.mode = .park) : (combine snap).md = 0 ∧ (combine snap).mr = 0 ∧ (combine snap).gav = 0 ∧
    ((combine snap).s ≤ snap.cfg.parkFloor → (combine snap).bd = 0) ∧
      (snap.cfg.parkFloor < (combine snap).s → (combine snap).bd = effectivePower .battDis snap) := by
  simp only [combine, hpark, decide_true, if_true, Bool.true_and, decide_eq_true_eq]
  exact ⟨trivial, trivial, trivial, fun h => if_pos h, fun h => if_neg (not_le.mpr h)⟩

theorem combine_drive (hdrive : snap.mode = .drive) : (combine snap).bd = effectivePower .battDis snap ∧
    (combine snap).md = effectivePower .motorDrive snap ∧ (combine snap).mr = effectivePower .motorRegen snap ∧
      (combine snap).gav = driveGav snap := by
  simp [combine, hdrive]

/-- Gav by the permit and the genset state (R76). -/
theorem driveGav_spec : (effectivePermit snap = false ∨ (snap.genset ≠ .warmup ∧ snap.genset ≠ .running) → driveGav snap = 0) ∧
    (effectivePermit snap = true → snap.genset = .warmup → driveGav snap = min (effectivePower .genMax snap) snap.cfg.warmCap) ∧
      (effectivePermit snap = true → snap.genset = .running → driveGav snap = effectivePower .genMax snap) := by
  refine ⟨fun h => ?_, fun hpermit hgenset => by simp [driveGav, hpermit, hgenset],
    fun hpermit hgenset => by simp [driveGav, hpermit, hgenset]⟩
  obtain hpermit | ⟨hwarmup, hrunning⟩ := h
  · simp [driveGav, hpermit]
  · unfold driveGav
    cases hgenset : snap.genset <;> simp_all

/-- The combination of a sound snapshot in which each measure is held once. -/
theorem combine_combinesTo (h : snap.Sound) (honce : ∀ q, snap.HoldsOnce (.measure q)) : snap.CombinesTo (combine snap) := by
  refine ⟨effectivePower_effective h _, effectivePower_effective h _, effectivePermit_iff h, fun hpark => ?_, fun hdrive => ?_,
    fun st v hholds => ?_, fun hlacks => ?_, fun st v hholds => ?_, fun hlacks => ?_, fun st v hholds => ?_, fun hlacks => ?_,
    boundDefaulted_iff h, notPresent_iff h, notPresent_iff h, ?_⟩
  · obtain ⟨hmd, hmr, hgav, hfloor, hbd⟩ := combine_park hpark
    exact ⟨hmd, hmr, hgav, hfloor, fun habove => hbd habove ▸ effectivePower_effective h _⟩
  · obtain ⟨hbd, hmd, hmr, hgav⟩ := combine_drive hdrive
    rw [hbd, hmd, hmr, hgav]
    exact ⟨effectivePower_effective h _, effectivePower_effective h _, effectivePower_effective h _, driveGav_spec⟩
  · simp [combine, effectiveSoc, measure_of_holds h (honce .soc) hholds]
  · simp [combine, effectiveSoc, (measure_eq_none h (honce .soc)).mpr hlacks]
  · simp [combine, measure_of_holds h (honce .speed) hholds]
  · simp [combine, (measure_eq_none h (honce .speed)).mpr hlacks]
  · simp [combine, measure_of_holds h (honce .coolant) hholds]
  · simp [combine, (measure_eq_none h (honce .coolant)).mpr hlacks]
  · rw [← measure_eq_none h (honce .soc)]
    exact Option.isNone_iff_eq_none

/-- The demand image of a sound snapshot in which the DEMAND record is held once (R87, R88). -/
theorem demandImage_demands (h : snap.Sound) (honce : snap.HoldsOnce .demand) : snap.Demands (demandImage snap) := by
  obtain ⟨hholds, hlacks⟩ := findSome?_heldValue h honce
  have hdrive (hmode : snap.mode = .drive) : demandImage snap =
      match snap.slots.toList.findSome? (heldValue .demand) with
      | some (v, false) => v
      | some (_, true) => rampToZero snap.cfg.rampStep snap.demandImage
      | none => 0 := by
    unfold demandImage
    rw [if_pos hmode, demandOf_eq]
    rfl
  refine ⟨fun hpark => if_neg (by simp [hpark]), fun hmode => ⟨fun v hv => ?_, fun ⟨v, hv⟩ => ?_, fun hnone => ?_⟩⟩
  · rw [hdrive hmode, hholds false v hv]
  · rw [hdrive hmode, hholds true v hv]
    simp only [rampToZero]
    refine ⟨fun hpos => if_pos hpos, fun hneg => ?_, fun hzero => by simp [hzero]⟩
    rw [if_neg (not_lt.mpr hneg.le), if_pos hneg]
  · rw [hdrive hmode, hlacks.mpr hnone]

/-! ## The beginning of a pass (R80, R81) -/

/-- The quantity whose episode opens, if any (R70). -/
def opened (before after : Bool) (q : SupplyQty) : List SupplyQty := if after && !before then [q] else []

/-- A SUPPLY_FAULT entry after some quantities' faults. -/
def raisedFor (e : Option NoticeEntry) (q : SupplyQty) : Option NoticeEntry := some (NoticeEntry.raised e q.code)

/-- The link with another entry of SUPPLY_FAULT. -/
def Link.withFault (l : Link) (e : Option NoticeEntry) : Link :=
  { l with notices := { l.notices with supplyFault := e } }

theorem raiseIfOpens_eq (before after : Bool) (q : SupplyQty) (d : Device) : raiseIfOpens before after q d =
    d.withSl (d.sl.withFault ((opened before after q).foldl raisedFor d.sl.notices.supplyFault)) := by
  unfold raiseIfOpens opened
  split <;> rfl

/-- The entry of SUPPLY_FAULT after a combination that replaces another (R70). -/
def faultAfter (old new : Combiner) (e : Option NoticeEntry) : Option NoticeEntry :=
  (opened old.episodeBattDis new.episodeBattDis .battDis ++ opened old.episodeBattChg new.episodeBattChg .battChg ++
    opened old.episodeSoc new.episodeSoc .soc).foldl raisedFor e

theorem makeCombination_eq (snap : Snapshot) (d : Device) : makeCombination snap d =
    (d.withSl (d.sl.withFault (faultAfter d.bc (combine snap) d.sl.notices.supplyFault))).withBc (combine snap) := by
  simp only [makeCombination, raiseIfOpens_eq, faultAfter, List.foldl_append]
  rfl

theorem makeCombination_sl (snap : Snapshot) (d : Device) : (makeCombination snap d).sl =
    d.sl.withFault (faultAfter d.bc (combine snap) d.sl.notices.supplyFault) := by
  rw [makeCombination_eq]
  rfl

theorem makeCombination_vbp (snap : Snapshot) (d : Device) : (makeCombination snap d).vbp = d.vbp := by
  rw [makeCombination_eq]
  rfl

theorem splitExpiry_of_idle (hrun : d.se.timer.isRunning = true) (hpass : d.se.pass = none) : splitExpiry d = beginPass d :=
  if_pos (by simp [hrun, hpass])

theorem beginPass_se (d : Device) : (beginPass d).se =
    { d.se with
      timer := .running d.mc.mode.period,
      pass := some (computePass (takeSnapshot d) (combine (takeSnapshot d))) } := by
  simp only [beginPass, makeCombination_eq]
  rfl

/-- The device that the combination of a beginning pass is made on. -/
def readyForPass (d : Device) : Device := startSplit d.mc.mode.period (markRetiring d)

theorem beginPass_eq (d : Device) : beginPass d =
    (makeCombination (takeSnapshot d) (readyForPass d)).withSe
      { (makeCombination (takeSnapshot d) (readyForPass d)).se with
        pass := some (computePass (takeSnapshot d) (combine (takeSnapshot d))) } := rfl

theorem beginPass_sl (d : Device) : (beginPass d).sl =
    d.sl.withFault (faultAfter d.bc (combine (takeSnapshot d)) d.sl.notices.supplyFault) := by
  have hmade : (beginPass d).sl = (makeCombination (takeSnapshot d) (readyForPass d)).sl := by
    rw [beginPass_eq, Device.withSe_sl]
  rw [hmade, makeCombination_sl]
  simp only [readyForPass, startSplit, markRetiring, Device.withSe_sl, Device.withSe_bc, Device.withTbl_sl, Device.withTbl_bc]

theorem beginPass_vbp (d : Device) : (beginPass d).vbp = d.vbp := by
  have hmade : (beginPass d).vbp = (makeCombination (takeSnapshot d) (readyForPass d)).vbp := by
    rw [beginPass_eq, Device.withSe_vbp]
  rw [hmade, makeCombination_vbp]
  simp only [readyForPass, startSplit, markRetiring, Device.withSe_vbp, Device.withTbl_vbp]

theorem Content.marked_of_not_retiring {c : Content} (h : c.isRetiring = false) : c.marked = c := by
  cases c with
  | retiring _ _ => nomatch h
  | free | draft _ _ | live _ | stale _ => rfl

/-- Settles O20: the pass is the computation on the snapshot, whose combination and demand image are those of the
manual. -/
theorem splitExpiryBeginsPass : Obligations.SplitExpiryBeginsPass := by
  unfold Obligations.SplitExpiryBeginsPass
  intro s hrun hpass
  have hact : actOf .splitTimerExpiry s.dev = beginPass s.dev := splitExpiry_of_idle hrun hpass
  have hchanges := beginPass_changes s.dev
  refine ⟨beginPass s.dev, computePass (takeSnapshot s.dev) (combine (takeSnapshot s.dev)),
    (exec_eq _ s).trans (by rw [hact]), ?_, rfl, rfl, rfl, fun hsound hunique => ?_, rfl, rfl, fun i => ⟨fun r m hr => ?_, fun hr => ?_⟩,
    hchanges.same .buffers, ?_, ?_, hchanges.same .rta, hchanges.same .rau, hchanges.same .genset, hchanges.mc, beginPass_vbp s.dev,
    hchanges.same .config, hchanges.same .now⟩
  · rw [beginPass_se]
    cases s.dev.mc.mode <;> rfl
  · have hb : (combine (takeSnapshot s.dev)).Nonneg := combine_nonneg hsound
    have hband : -(combine (takeSnapshot s.dev)).mr ≤ (combine (takeSnapshot s.dev)).md :=
      (neg_nonpos.mpr hb.mr).trans hb.md
    exact ⟨combine_combinesTo hsound fun q => takeSnapshot_holdsOnce hunique (.inr rfl),
      demandImage_demands hsound (takeSnapshot_holdsOnce hunique (.inl rfl)),
      clamp_brought _ _ _ hband, rfl, rfl⟩
  · rw [beginPass_slot, hr]
    rfl
  · rw [beginPass_slot, Content.marked_of_not_retiring hr]
  · exact (beginPass_sl s.dev).trans (congrArg s.dev.sl.withFault (congrArg (·.notices.supplyFault) (beginPass_sl s.dev)).symm)
  · exact congrArg (·.notices.supplyFault) (beginPass_sl s.dev)

end Sys2Proof.Machine
end

section
/-! PROOFS. The awards that a completion hands the port, merged into its award queue slot by slot (R85, R156). -/

namespace Sys2Proof.Machine

-- A default proof `by decide` waits for the kernel: side by side the proofs would ask for a thread each.
set_option Elab.async false

variable {d : Device} {new : List AwardEntry} {last : Vector (Option Answer) 48} {i : SlotNo}

/-- The entries of a queue for a slot. -/
def entriesOf (i : SlotNo) (q : List AwardEntry) : List AwardEntry := q.filter fun e => e.slot = i

theorem entriesOf_append (i : SlotNo) (q r : List AwardEntry) : entriesOf i (q ++ r) = entriesOf i q ++ entriesOf i r :=
  List.filter_append ..

/-! ## The handed awards, slot by slot -/

theorem handedAward_eq_some {ws : Vector (Option Answer) 48} {x : AwardEntry} :
    handedAward ws d i = some x ↔ ∃ a o, ws[i] = some a ∧ (d.slot i).content.owner? = some o ∧ o ≠ 0 ∧ d.enrolled o = true ∧
      x = { slot := i, generation := (d.slot i).generation, answer := a } := by
  unfold handedAward
  cases ws[i] with
  | none => simp
  | some a =>
    cases (d.slot i).content.owner? with
    | none => simp
    | some o =>
      dsimp only
      split
      · next h =>
        obtain ⟨hne, henrolled⟩ : o ≠ 0 ∧ d.enrolled o = true := by simpa using h
        exact ⟨fun hx => ⟨a, o, rfl, rfl, hne, henrolled, (Option.some.inj hx).symm⟩, fun ⟨_, _, ha, _, _, _, hx⟩ => by
          rw [hx, Option.some.inj ha]⟩
      · next h =>
        refine ⟨nofun, fun ⟨_, _, _, ho, hne, henrolled, _⟩ => absurd ?_ h⟩
        obtain rfl := Option.some.inj ho
        simp [hne, henrolled]

theorem handedAward_slot {ws : Vector (Option Answer) 48} {a : AwardEntry} (h : handedAward ws d i = some a) : a.slot = i := by
  obtain ⟨_, _, -, -, -, -, rfl⟩ := handedAward_eq_some.mp h
  rfl

/-- Of what a function that keeps the slot gives for distinct slots, one slot has its own alone. -/
theorem entriesOf_filterMap {f : SlotNo → Option AwardEntry} (hf : ∀ j a, f j = some a → a.slot = j) {l : List SlotNo}
    (hl : l.Nodup) : entriesOf i (l.filterMap f) = if i ∈ l then (f i).toList else [] := by
  induction l with
  | nil => rfl
  | cons j l ih =>
    obtain ⟨hj, hl⟩ := List.nodup_cons.mp hl
    specialize ih hl
    by_cases hij : j = i
    · subst hij
      rw [if_neg hj] at ih
      rw [if_pos List.mem_cons_self]
      cases ha : f j with
      | none => rwa [List.filterMap_cons_none ha]
      | some a =>
        rw [List.filterMap_cons_some ha, entriesOf, List.filter_cons_of_pos (by simpa using hf j a ha)]
        exact congrArg (a :: ·) ih
    · have hmem : i ∈ j :: l ↔ i ∈ l := by simp [Ne.symm hij]
      simp only [hmem]
      cases ha : f j with
      | none => rwa [List.filterMap_cons_none ha]
      | some a =>
        rw [List.filterMap_cons_some ha, entriesOf, List.filter_cons_of_neg (by simpa [hf j a ha] using hij)]
        exact ih

theorem entriesOf_handedAwards (ws : Vector (Option Answer) 48) (d : Device) (i : SlotNo) :
    entriesOf i (handedAwards ws d) = (handedAward ws d i).toList :=
  (entriesOf_filterMap (fun _ _ => handedAward_slot) (List.nodup_finRange 48)).trans (if_pos (List.mem_finRange i))

/-! ## The merge, slot by slot (R156) -/

theorem updateEntry_slot {e a : AwardEntry} (h : updateEntry new last e = some a) : a.slot = e.slot := by
  unfold updateEntry at h
  split at h
  · exact Option.some.inj h ▸ rfl
  · split at h
    · nomatch h
    · exact Option.some.inj h ▸ rfl

/-- What becomes of an entry rests on the award handed for its slot. -/
theorem updateEntry_eq {e : AwardEntry} {o : Option AwardEntry} (hnew : entriesOf e.slot new = o.toList) :
    updateEntry new last e =
      match o with
      | none => some e
      | some a => if last[e.slot] = some a.answer then none else some { e with answer := a.answer } := by
  have hfind : new.find? (fun a => a.slot = e.slot) = o := by
    rw [← List.head?_filter]
    exact (congrArg List.head? hnew).trans (by cases o <;> rfl)
  unfold updateEntry
  rw [hfind]
  cases o <;> rfl

/-- The entries of a slot after the update: kept, taken out, or with the new answer. -/
theorem entriesOf_update {o : Option AwardEntry} (hnew : entriesOf i new = o.toList) (q : List AwardEntry) :
    entriesOf i (q.filterMap (updateEntry new last)) =
      match o with
      | none => entriesOf i q
      | some a => if last[i] = some a.answer then [] else (entriesOf i q).map fun e => { e with answer := a.answer } := by
  induction q with
  | nil => cases o <;> simp [entriesOf]
  | cons e q ih =>
    by_cases hslot : e.slot = i
    · subst hslot
      have hcons : entriesOf e.slot (e :: q) = e :: entriesOf e.slot q := List.filter_cons_of_pos (by simp)
      have hupdate := updateEntry_eq (last := last) hnew
      rw [hcons]
      cases o with
      | none =>
        rw [List.filterMap_cons_some hupdate, entriesOf, List.filter_cons_of_pos (by simp)]
        exact congrArg (e :: ·) ih
      | some a =>
        dsimp only at hupdate ih ⊢
        by_cases hheld : last[e.slot] = some a.answer
        · rw [if_pos hheld] at hupdate ih ⊢
          rwa [List.filterMap_cons_none hupdate]
        · rw [if_neg hheld] at hupdate ih ⊢
          rw [List.filterMap_cons_some hupdate, entriesOf, List.filter_cons_of_pos (by simp)]
          exact congrArg (_ :: ·) ih
    · have hcons : entriesOf i (e :: q) = entriesOf i q := List.filter_cons_of_neg (by simpa using hslot)
      rw [hcons, ← ih]
      cases hupdate : updateEntry new last e with
      | none => rw [List.filterMap_cons_none hupdate]
      | some a =>
        rw [List.filterMap_cons_some hupdate]
        exact List.filter_cons_of_neg (by simpa [updateEntry_slot hupdate] using hslot)

/-- A handed award is added: the peer does not hold it, and the queue has no entry for its slot. -/
def addable (last : Vector (Option Answer) 48) (q : List AwardEntry) (a : AwardEntry) : Bool :=
  last[a.slot] ≠ some a.answer && !(q.any fun e => e.slot = a.slot)

theorem addable_iff {q : List AwardEntry} {a : AwardEntry} :
    addable last q a = true ↔ last[a.slot] ≠ some a.answer ∧ entriesOf a.slot q = [] := by
  simp [addable, entriesOf, List.filter_eq_nil_iff]

/-- The entry of a slot that is added: the handed one, where the peer does not hold it and the queue has none. -/
theorem entriesOf_added {o : Option AwardEntry} (hnew : entriesOf i new = o.toList) (n : Nat) (q : List AwardEntry) :
    entriesOf i (rankEntries n (addedEntries new last q)) =
      match o with
      | none => []
      | some a => if last[i] ≠ some a.answer ∧ entriesOf i q = [] then [a] else [] := by
  have hperm : (entriesOf i (rankEntries n (addedEntries new last q))).Perm (entriesOf i (addedEntries new last q)) :=
    (List.perm_insertionSort _ _).filter _
  have hadded : entriesOf i (addedEntries new last q) = o.toList.filter (addable last q) := by
    rw [← hnew, entriesOf, entriesOf, addedEntries, List.filter_filter, List.filter_filter]
    exact List.filter_congr fun a _ => Bool.and_comm _ _
  rw [hadded] at hperm
  cases o with
  | none => exact List.perm_nil.mp hperm
  | some a =>
    have hslot : a.slot = i := by
      have hmem : a ∈ entriesOf i new := by simp [hnew]
      simpa using (List.mem_filter.mp hmem).2
    subst hslot
    have hadd := addable_iff (last := last) (q := q) (a := a)
    by_cases h : last[a.slot] ≠ some a.answer ∧ entriesOf a.slot q = []
    · rw [Option.toList_some, List.filter_cons_of_pos (hadd.mpr h)] at hperm
      dsimp only
      rw [if_pos h]
      exact List.perm_singleton.mp hperm
    · rw [Option.toList_some, List.filter_cons_of_neg (mt hadd.mp h)] at hperm
      dsimp only
      rw [if_neg h]
      exact List.perm_nil.mp hperm

/-- The entries of a slot after the merge. -/
theorem entriesOf_queueAwards {o : Option AwardEntry} (hnew : entriesOf i new = o.toList) (d : Device) :
    (o = none → entriesOf i (queueAwards new d).vbp.awardQueue = entriesOf i d.vbp.awardQueue) ∧
    ∀ a, o = some a →
      (d.vbp.lastAward[i] = some a.answer → entriesOf i (queueAwards new d).vbp.awardQueue = []) ∧
      (d.vbp.lastAward[i] ≠ some a.answer → entriesOf i d.vbp.awardQueue ≠ [] →
        entriesOf i (queueAwards new d).vbp.awardQueue =
          (entriesOf i d.vbp.awardQueue).map fun e => { e with answer := a.answer }) ∧
      (d.vbp.lastAward[i] ≠ some a.answer → entriesOf i d.vbp.awardQueue = [] →
        entriesOf i (queueAwards new d).vbp.awardQueue = [a]) := by
  have hqueue : entriesOf i (queueAwards new d).vbp.awardQueue =
      entriesOf i (d.vbp.awardQueue.filterMap (updateEntry new d.vbp.lastAward)) ++
        entriesOf i (rankEntries d.draws (addedEntries new d.vbp.lastAward d.vbp.awardQueue)) := by
    rw [← entriesOf_append]
    rfl
  rw [hqueue, entriesOf_update hnew, entriesOf_added hnew]
  refine ⟨?_, ?_⟩
  · rintro rfl
    simp
  · rintro a rfl
    dsimp only
    refine ⟨fun h => ?_, fun h hne => ?_, fun h hnil => ?_⟩
    · rw [if_pos h, if_neg fun hboth => hboth.1 h, List.append_nil]
    · rw [if_neg h, if_neg fun hboth => hne hboth.2, List.append_nil]
    · rw [if_neg h, if_pos ⟨h, hnil⟩, hnil]
      rfl

/-! ## The merge as a whole -/

theorem update_slots_sublist (new : List AwardEntry) (last : Vector (Option Answer) 48) (q : List AwardEntry) :
    ((q.filterMap (updateEntry new last)).map (·.slot)).Sublist (q.map (·.slot)) := by
  induction q with
  | nil => exact .refl _
  | cons e es ih =>
    cases hu : updateEntry new last e with
    | none => simpa [hu] using ih.cons _
    | some a => simpa [hu, updateEntry_slot hu] using ih

/-- An entry that the merge adds: handed, of a slot that the queue has no entry of. -/
theorem mem_added {n : Nat} {q : List AwardEntry} {e : AwardEntry} (h : e ∈ rankEntries n (addedEntries new last q)) :
    e ∈ new ∧ entriesOf e.slot q = [] := by
  obtain ⟨hnew, hadd⟩ := List.mem_filter.mp ((List.perm_insertionSort _ _).mem_iff.mp h)
  exact ⟨hnew, (addable_iff.mp hadd).2⟩

/-- Of the merged queue, the entries of slots that some mark picks are those updated in place, the others those added. -/
theorem queueAwards_split {held : AwardEntry → Bool} (hkept : ∀ e x : AwardEntry, x ∈ d.vbp.awardQueue → e.slot = x.slot → held e = true)
    (hadded : ∀ e ∈ new, entriesOf e.slot d.vbp.awardQueue = [] → held e = false) :
    (queueAwards new d).vbp.awardQueue.filter held = d.vbp.awardQueue.filterMap (updateEntry new d.vbp.lastAward) ∧
      (queueAwards new d).vbp.awardQueue.filter (fun e => !held e) =
        rankEntries d.draws (addedEntries new d.vbp.lastAward d.vbp.awardQueue) := by
  have hqueue : (queueAwards new d).vbp.awardQueue = d.vbp.awardQueue.filterMap (updateEntry new d.vbp.lastAward) ++
      rankEntries d.draws (addedEntries new d.vbp.lastAward d.vbp.awardQueue) := rfl
  have hfirst : ∀ e ∈ d.vbp.awardQueue.filterMap (updateEntry new d.vbp.lastAward), held e = true := by
    intro e he
    obtain ⟨x, hx, hu⟩ := List.mem_filterMap.mp he
    exact hkept e x hx (updateEntry_slot hu)
  have hsecond : ∀ e ∈ rankEntries d.draws (addedEntries new d.vbp.lastAward d.vbp.awardQueue), held e = false := by
    intro e he
    obtain ⟨hnew, hnone⟩ := mem_added he
    exact hadded e hnew hnone
  rw [hqueue, List.filter_append, List.filter_append, List.filter_eq_self.mpr hfirst,
    List.filter_eq_nil_iff.mpr fun e he => by simp [hsecond e he],
    List.filter_eq_nil_iff.mpr fun e he => by simp [hfirst e he],
    List.filter_eq_self.mpr fun e he => by simp [hsecond e he]]
  exact ⟨List.append_nil _, List.nil_append _⟩

end Sys2Proof.Machine
end

section
/-! PROOFS. The publication of a pass: its record, the slots it frees, the awards it queues and the floor timer it judges
(R83 to R85, R102, R103, R105, R137). -/

namespace Sys2Proof.Machine

-- A default proof `by decide` waits for the kernel: side by side the proofs would ask for a thread each.
set_option Elab.async false

variable {d : Device} {p : Pass} {i : SlotNo}

/-! ## The blocks of the device published -/

theorem publishPass_vbp (p : Pass) (d : Device) : (publishPass p d).vbp =
    { d.vbp with
      awardQueue := d.vbp.awardQueue.filter fun a => !(d.slot a.slot).content.isMarked,
      lastAward := vmap (fun i a => if (d.slot i).content.isMarked then none else a) d.vbp.lastAward } := by
  have hraise (e : Device) (n : Nat) : (raiseShortfall p.fig n e).vbp = e.vbp := by
    unfold raiseShortfall
    split
    · exact raise_vbp _ _ _
    · rfl
  simp only [publishPass, freeSlots, hraise, Device.withSe_vbp, Device.withTbl_vbp]

theorem publishPass_lastAward (p : Pass) (d : Device) (i : SlotNo) : (publishPass p d).vbp.lastAward[i] =
    if (d.slot i).content.isMarked then none else d.vbp.lastAward[i] := by
  rw [publishPass_vbp]
  simp

theorem published_se (p : Pass) (d : Device) : (published p d).se = d.se.completed p := by
  have hqueue (x : List AwardEntry) (e : Device) : (queueAwards x e).se = e.se := rfl
  rw [published, hqueue, publishPass, freeSlots_se, raiseShortfall]
  split
  · rw [raise_se, Device.withSe_se]
  · rw [Device.withSe_se]

theorem raise_shortfall_notice (x : Half) (d : Device) : (raise .shortfall x d).sl.notices.shortfall =
    some (NoticeEntry.raised d.sl.notices.shortfall x) := rfl

/-- SHORTFALL after a publication (R105). -/
theorem published_shortfall_notice (p : Pass) (d : Device) : (published p d).sl.notices.shortfall =
    if d.se.shortfall ≠ 3 ∧ nextRun p.fig d.se.shortfall = 3 then
      some (NoticeEntry.raised d.sl.notices.shortfall (shortfallDetail p.fig))
    else d.sl.notices.shortfall := by
  have hqueue (x : List AwardEntry) (e : Device) : (queueAwards x e).sl = e.sl := rfl
  rw [published, hqueue, publishPass, freeSlots_sl, raiseShortfall]
  simp only [Bool.and_eq_true, decide_eq_true_eq]
  split
  · rw [raise_shortfall_notice, Device.withSe_sl, Device.withTbl_sl]
  · rw [Device.withSe_sl, Device.withTbl_sl]

/-- What the Sequencer's evaluation and the floor timer check can still change of the device published. -/
theorem completed_after_published (p : Pass) (d : Device) :
    Changes (.parkTimers :: Part.sequencer) (published p d) (completed p d) := by
  rw [completed_eq_evaluate]
  exact (evaluate_sequenced _ _).changes.mono.trans (floorCheck_changes _ _).mono

theorem completed_se (p : Pass) (d : Device) : (completed p d).se = d.se.completed p :=
  (completed_after_published p d).se.trans (published_se p d)

theorem completed_awardQueue (p : Pass) (d : Device) : (completed p d).vbp.awardQueue =
    (queueAwards (handedAwards (writtenAnswers p d.tbl.slots) (publishPass p d)) (publishPass p d)).vbp.awardQueue :=
  (completed_after_published p d).same .awardQueue

theorem completed_lastAward (p : Pass) (d : Device) : (completed p d).vbp.lastAward = (publishPass p d).vbp.lastAward :=
  (completed_after_published p d).same .lastAward

/-! ## The slots (R83) -/

theorem Content.isMarked_iff {c : Content} : c.isMarked = true ↔ ∃ r, c = .retiring r true := by
  cases c with
  | retiring r m => cases m <;> simp [isMarked]
  | free | draft _ _ | live _ | stale _ => simp [isMarked]

theorem completed_slot (p : Pass) (d : Device) (i : SlotNo) : (completed p d).slot i =
    if (d.slot i).content.isMarked then { d.slot i with content := .free }
    else (d.slot i).granted (writtenAnswer p i (d.slot i)) := by
  rw [(completed_sameTable p d).slot, publishPass_slot]

theorem completed_rtaOf (p : Pass) (d : Device) (i : SlotNo) : (completed p d).rtaOf i =
    if (d.slot i).content.isMarked then { d.rtaOf i with timer := .stopped, lapse := 0 } else d.rtaOf i := by
  rw [(completed_sameTable p d).rtaOf, publishPass_rtaOf]

/-- A grant written changes answer parts alone. -/
theorem granted_mapRecord (s : Slot) (o : Option Answer) : (s.granted o).generation = s.generation ∧
    (s.granted o).content = s.content.mapRecord fun r => { r with answer := o.or r.answer } := by
  cases o with
  | some a => exact ⟨rfl, rfl⟩
  | none =>
    refine ⟨rfl, ?_⟩
    simp only [Slot.granted, Option.none_or]
    cases s.content <;> rfl

/-! ## The awards handed (R85) -/

theorem writtenAnswers_slot (p : Pass) (d : Device) (i : SlotNo) :
    (writtenAnswers p d.tbl.slots)[i] = writtenAnswer p i (d.slot i) := by
  simp [writtenAnswers, Device.slot]

theorem publishPass_enrolled (p : Pass) (d : Device) (n : Nat) : (publishPass p d).enrolled n = d.enrolled n := by
  have hroster : (publishPass p d).vbp.roster = d.vbp.roster := (publishPass_changes p d).same .roster
  simp only [Device.enrolled, Device.entryOf, hroster]

theorem publishPass_owner? (p : Pass) (h : (d.slot i).content.isMarked = false) :
    ((publishPass p d).slot i).content.owner? = (d.slot i).content.owner? := by
  rw [publishPass_slot, h, if_neg Bool.false_ne_true, Content.owner?, granted_ident?]
  rfl

/-- The award handed for a slot after the publication of a pass. -/
def awardFor (p : Pass) (d : Device) (i : SlotNo) : Option AwardEntry :=
  handedAward (writtenAnswers p d.tbl.slots) (publishPass p d) i

theorem awardFor_eq_some (p : Pass) (h : (d.slot i).content.isMarked = false) {x : AwardEntry} :
    awardFor p d i = some x ↔ ∃ a o, writtenAnswer p i (d.slot i) = some a ∧ (d.slot i).content.owner? = some o ∧ o ≠ 0 ∧
      d.enrolled o = true ∧ x = { slot := i, generation := (d.slot i).generation, answer := a } := by
  have hgen : ((publishPass p d).slot i).generation = (d.slot i).generation := by
    rw [publishPass_slot, h, if_neg Bool.false_ne_true, (granted_mapRecord _ _).1]
  rw [awardFor, handedAward_eq_some, writtenAnswers_slot, publishPass_owner? p h, hgen]
  simp only [publishPass_enrolled]

theorem awardFor_none (h : (d.slot i).content.isMarked = false)
    (hnone : writtenAnswer p i (d.slot i) = none ∨
      ∀ o, (d.slot i).content.owner? = some o → o = 0 ∨ d.enrolled o = false) : awardFor p d i = none := by
  rw [Option.eq_none_iff_forall_ne_some]
  intro x hx
  obtain ⟨a, o, ha, ho, hne, henrolled, -⟩ := (awardFor_eq_some p h).mp hx
  obtain hwritten | howner := hnone
  · rw [hwritten] at ha
    nomatch ha
  · obtain hzero | hnot := howner o ho
    · exact hne hzero
    · rw [hnot] at henrolled
      nomatch henrolled

theorem awardFor_marked (p : Pass) (h : (d.slot i).content.isMarked = true) : awardFor p d i = none := by
  have hfree : ((publishPass p d).slot i).content.owner? = none := by
    rw [publishPass_slot, h, if_pos rfl]
    rfl
  rw [Option.eq_none_iff_forall_ne_some]
  intro x hx
  obtain ⟨a, o, -, ho, -⟩ := handedAward_eq_some.mp hx
  rw [hfree] at ho
  nomatch ho

theorem entriesOf_handed (p : Pass) (d : Device) (i : SlotNo) :
    entriesOf i (handedAwards (writtenAnswers p d.tbl.slots) (publishPass p d)) = (awardFor p d i).toList :=
  entriesOf_handedAwards _ _ i

theorem entriesOf_publishPass (p : Pass) (d : Device) (i : SlotNo) : entriesOf i (publishPass p d).vbp.awardQueue =
    if (d.slot i).content.isMarked then [] else entriesOf i d.vbp.awardQueue := by
  have hfilter : entriesOf i (publishPass p d).vbp.awardQueue =
      (entriesOf i d.vbp.awardQueue).filter fun a => !(d.slot a.slot).content.isMarked := by
    rw [publishPass_vbp, entriesOf, entriesOf, List.filter_filter, List.filter_filter]
    exact List.filter_congr fun a _ => Bool.and_comm _ _
  rw [hfilter]
  split
  · next hmarked =>
    refine List.filter_eq_nil_iff.mpr fun a ha => ?_
    obtain rfl : a.slot = i := by simpa using (List.mem_filter.mp ha).2
    simp [hmarked]
  · next hmarked =>
    refine List.filter_eq_self.mpr fun a ha => ?_
    obtain rfl : a.slot = i := by simpa using (List.mem_filter.mp ha).2
    simpa using hmarked

/-- The award queue's entries for a slot that is freed. -/
theorem completed_entries_marked (h : (d.slot i).content.isMarked = true) :
    entriesOf i (completed p d).vbp.awardQueue = [] := by
  have hhanded := entriesOf_handed p d i
  rw [awardFor_marked p h] at hhanded
  rw [completed_awardQueue, (entriesOf_queueAwards hhanded _).1 rfl, entriesOf_publishPass, if_pos h]

/-- The award queue's entries for a slot that is not freed, by the award handed for it. -/
theorem completed_entries (h : (d.slot i).content.isMarked = false) :
    (awardFor p d i = none → entriesOf i (completed p d).vbp.awardQueue = entriesOf i d.vbp.awardQueue) ∧
    ∀ a, awardFor p d i = some a →
      (d.vbp.lastAward[i] = some a.answer → entriesOf i (completed p d).vbp.awardQueue = []) ∧
      (d.vbp.lastAward[i] ≠ some a.answer → entriesOf i d.vbp.awardQueue ≠ [] →
        entriesOf i (completed p d).vbp.awardQueue =
          (entriesOf i d.vbp.awardQueue).map fun e => { e with answer := a.answer }) ∧
      (d.vbp.lastAward[i] ≠ some a.answer → entriesOf i d.vbp.awardQueue = [] →
        entriesOf i (completed p d).vbp.awardQueue = [a]) := by
  have hlast := publishPass_lastAward p d i
  have hbefore := entriesOf_publishPass p d i
  rw [h, if_neg Bool.false_ne_true] at hlast hbefore
  have hmerged := entriesOf_queueAwards (entriesOf_handed p d i) (publishPass p d)
  rwa [hlast, hbefore, ← completed_awardQueue] at hmerged

/-- The awards added stand behind those that waited, which keep their order. -/
theorem completed_awards_order (p : Pass) (d : Device) {held : AwardEntry → Bool}
    (hheld : held = fun e => d.vbp.awardQueue.any fun x => x.slot = e.slot) :
    (completed p d).vbp.awardQueue =
        (completed p d).vbp.awardQueue.filter held ++ (completed p d).vbp.awardQueue.filter (fun e => !held e) ∧
      (((completed p d).vbp.awardQueue.filter held).map (·.slot)).Sublist (d.vbp.awardQueue.map (·.slot)) := by
  have hiff (e : AwardEntry) : held e = true ↔ entriesOf e.slot d.vbp.awardQueue ≠ [] := by
    simp [hheld, entriesOf, List.filter_eq_nil_iff]
  have hqueue : (publishPass p d).vbp.awardQueue.Sublist d.vbp.awardQueue := by
    rw [publishPass_vbp]
    exact List.filter_sublist
  have hfresh : ∀ e ∈ handedAwards (writtenAnswers p d.tbl.slots) (publishPass p d),
      entriesOf e.slot (publishPass p d).vbp.awardQueue = [] → held e = false := by
    intro e he hnone
    have hmem : e ∈ (awardFor p d e.slot).toList := by
      rw [← entriesOf_handed]
      exact List.mem_filter.mpr ⟨he, by simp⟩
    have hunmarked : (d.slot e.slot).content.isMarked = false := by
      by_contra hmarked
      rw [awardFor_marked p (Bool.not_eq_false _ ▸ hmarked)] at hmem
      nomatch hmem
    rw [entriesOf_publishPass, hunmarked, if_neg Bool.false_ne_true] at hnone
    simpa [hnone] using hiff e
  have hwaiting (e x : AwardEntry) (hx : x ∈ (publishPass p d).vbp.awardQueue) (hslot : e.slot = x.slot) : held e = true :=
    (hiff e).mpr (List.ne_nil_of_mem (List.mem_filter.mpr ⟨hqueue.subset hx, by simp [hslot]⟩))
  obtain ⟨hkept, hadded⟩ := queueAwards_split hwaiting hfresh
  rw [completed_awardQueue, hkept, hadded]
  exact ⟨rfl, (update_slots_sublist _ _ _).trans (hqueue.map _)⟩

/-! ## The floor timer (R137) -/

theorem completed_mc (p : Pass) (d : Device) : (completed p d).mc =
    if p.snap.mode = .park ∧ d.mc.mode = .park then
      { d.mc with floorTimer := floorTimerAfter d.bc.s d.cs.parkFloor d.mc.floorTimer }
    else d.mc := by
  have hbefore (x : Handed) : Changes (Part.sequencer ++ .draws :: Part.publication) d (evaluate x (published p d)) :=
    (published_changes p d).mono.trans (evaluate_sequenced _ _).changes.mono
  rw [completed_eq_evaluate]
  generalize hx : handedFigures p (nextRun p.fig d.se.shortfall) = x
  have hmc : (evaluate x (published p d)).mc = d.mc := (hbefore x).mc
  have hbc : (evaluate x (published p d)).bc = d.bc := (hbefore x).same .combiner
  have hcs : (evaluate x (published p d)).cs = d.cs := (hbefore x).same .config
  unfold floorCheck
  simp only [Bool.and_eq_true, decide_eq_true_eq, hmc, hbc, hcs]
  split
  · rfl
  · exact hmc

theorem publish_brought (x : Power) : Brought (-32768) 32767 x (publish x) := clamp_brought _ _ x (by decide)

/-- The powers of a pass that its record carries (R102). -/
def Figures.powers (f : Figures) : List Power :=
  [f.bd, f.bc, f.gav, f.md, f.mr, f.d, f.tm, f.p, f.tg, f.regenCut, f.n, f.pp, f.gd, f.gset, f.pb]

theorem publish_powers_brought (f : Figures) : ∀ x ∈ f.powers.map (fun v => (v, publish v)), Brought (-32768) 32767 x.1 x.2 := by
  intro x hx
  obtain ⟨v, -, rfl⟩ := List.mem_map.mp hx
  exact publish_brought v

/-- A slot that is freed leaves nothing in the award state and the renewal array. -/
theorem completed_freed {r : Record} (h : (d.slot i).content = .retiring r true) :
    (completed p d).slot i = { d.slot i with content := .free } ∧
      (completed p d).rtaOf i = { d.rtaOf i with timer := .stopped, lapse := 0 } ∧
      (completed p d).vbp.lastAward[i] = none ∧ ∀ a ∈ (completed p d).vbp.awardQueue, a.slot ≠ i := by
  have hmarked : (d.slot i).content.isMarked = true := Content.isMarked_iff.mpr ⟨r, h⟩
  refine ⟨by rw [completed_slot, if_pos hmarked], by rw [completed_rtaOf, if_pos hmarked], ?_, fun a ha hslot => ?_⟩
  · have hlast : (completed p d).vbp.lastAward[i] = (publishPass p d).vbp.lastAward[i] := by rw [completed_lastAward]
    rw [hlast, publishPass_lastAward, if_pos hmarked]
  · have hmem : a ∈ entriesOf i (completed p d).vbp.awardQueue := List.mem_filter.mpr ⟨ha, by simpa using hslot⟩
    rw [completed_entries_marked hmarked] at hmem
    nomatch hmem

/-- A slot that is not freed keeps everything but its answer part. -/
theorem completed_kept (h : (d.slot i).content.isMarked = false) :
    ((completed p d).slot i).generation = (d.slot i).generation ∧ (completed p d).rtaOf i = d.rtaOf i ∧
      (completed p d).vbp.lastAward[i] = d.vbp.lastAward[i] ∧
      ∃ a : Record → Option Answer, ((completed p d).slot i).content = (d.slot i).content.mapRecord fun r => { r with answer := a r } := by
  obtain ⟨hgen, hcontent⟩ := granted_mapRecord (d.slot i) (writtenAnswer p i (d.slot i))
  rw [completed_slot_of_unmarked p h, completed_rtaOf, h]
  refine ⟨hgen, rfl, ?_, _, hcontent⟩
  have hlast : (completed p d).vbp.lastAward[i] = (publishPass p d).vbp.lastAward[i] := by rw [completed_lastAward]
  rw [hlast, publishPass_lastAward, h]
  rfl

/-- An open buffer of a slot that is not freed stays open. -/
theorem completed_buffer {b : BankNo} (h : ∀ e ∈ d.buffer b, (d.slot e.slot).content.isMarked = false) :
    (completed p d).buffer b = d.buffer b := by
  rw [(completed_sameTable p d).buffer, publishPass_buffer]
  cases hb : d.buffer b with
  | none => rfl
  | some e => simp [h e hb]

/-- Settles O21: the record from the figures of the pass, the slots one by one, and the award queue slot by slot. -/
theorem completionPublishesPass : Obligations.CompletionPublishesPass := by
  unfold Obligations.CompletionPublishesPass
  intro s p hp hawake
  have hact : actOf .passCompletion s.dev = completed p s.dev := passCompletion_of_awake hp hawake
  have hse := completed_se p s.dev
  have hmc := completed_mc p s.dev
  have hchanges : Changes Part.completion s.dev (completed p s.dev) := completed_changes p s.dev
  have hnotice : (completed p s.dev).sl.notices.shortfall = (published p s.dev).sl.notices.shortfall :=
    (completed_after_published p s.dev).same (.notice .shortfall)
  rw [published_shortfall_notice] at hnotice
  refine ⟨completed p s.dev, (exec_eq _ s).trans (by rw [hact]), ?_⟩
  rw [hse]
  refine ⟨rfl, rfl, rfl, rfl, rfl, rfl, rfl, rfl, rfl, rfl, rfl, ?_, rfl, rfl, rfl, rfl, rfl, rfl, rfl, fun hthree htwo => ?_,
    fun hnot => ?_, fun i => ⟨fun r hr => ?_, fun hunmarked => ?_⟩, fun b hb => ?_, fun held hheld => completed_awards_order p s.dev hheld,
    fun i before after hunmarked hbefore hafter => ⟨fun hnone => ?_, fun a o ha ho hne henrolled => ?_⟩, fun hpark hmode => ?_, fun hother => ?_, ?_,
    hchanges.same .combiner, hchanges.same .config, hchanges.same .rau, hchanges.same .requests, (hchanges.same .replyFifo).1,
    hchanges.same .roster⟩
  · exact publish_powers_brought p.fig
  · have hrun : nextRun p.fig s.dev.se.shortfall = 3 := hthree
    rw [hnotice, if_pos ⟨by simp [htwo], hrun⟩]
    rfl
  · have hrun : nextRun p.fig s.dev.se.shortfall ≠ 3 := hnot
    rw [hnotice, if_neg fun h => hrun h.2]
  · exact completed_freed hr
  · exact completed_kept hunmarked
  · exact completed_buffer hb
  · subst hbefore hafter
    exact (completed_entries hunmarked).1 (awardFor_none hunmarked hnone)
  · subst hbefore hafter
    have hhanded : awardFor p s.dev i = some { slot := i, generation := (s.dev.slot i).generation, answer := a } :=
      (awardFor_eq_some p hunmarked).mpr ⟨a, o, ha, ho, hne, henrolled, rfl⟩
    exact (completed_entries hunmarked).2 _ hhanded
  · rw [hmc, if_pos ⟨hpark, hmode⟩]
    exact ⟨fun h => if_pos h, fun h => if_neg (not_le.mpr h)⟩
  · rw [hmc, if_neg fun h => hother.elim (fun hpark => hpark h.1) fun hmode => hmode h.2]
  · rw [hmc]
    split <;> rfl

end Sys2Proof.Machine
end
